-- ==== Sys2Proof/Word.lean ====
section
/-! DEFINITION. The word types of the BRH-2460 block: the 32-bit register word (R10), the byte, and the
plainest arithmetic on numbers and bits that every other file uses. -/

namespace Sys2Proof

/-- A register word: 32 bits, little-endian (R10). -/
abbrev Word := BitVec 32

/-- One byte. -/
abbrev Byte := BitVec 8

/-- A stroke time: bits [63:16] the stroke count, bits [15:0] the angle (R9). -/
abbrev STime := BitVec 64

/-- The ceiling of a division of natural numbers (0 for a zero divisor, as `Nat` division). -/
def ceilDiv (a b : Nat) : Nat := (a + b - 1) / b

/-- Add within a counter that saturates at `top`. -/
def satAdd (top a n : Nat) : Nat := min top (a + n)

/-- The unsigned field `n` bits wide that holds the two's complement of `x`. -/
def toField (n : Nat) (x : Int) : Nat := (x % (2 ^ n : Int)).toNat

/-- The signed value of an `n`-bit field. -/
def ofField (n v : Nat) : Int :=
  if v % 2 ^ n < 2 ^ (n - 1) then (v % 2 ^ n : Int) else (v % 2 ^ n : Int) - (2 ^ n : Int)

/-- Bits [hi:lo] of a number. -/
def bitsOf (v hi lo : Nat) : Nat := v / 2 ^ lo % 2 ^ (hi - lo + 1)

/-- Bit `i` of a number. -/
def bitOf (v i : Nat) : Bool := v / 2 ^ i % 2 == 1

/-- A truth value as the bit that a register shows. -/
def b2n (b : Bool) : Nat := if b then 1 else 0

/-- The mask whose bits below `n` are those for which `p` holds. -/
def maskOf (n : Nat) (p : Nat → Bool) : Nat :=
  ((List.range n).filter p).foldl (fun a i => a + 2 ^ i) 0

/-- The `n` least significant bytes of a number, least significant first. -/
def leBytes : Nat → Nat → List Byte
  | 0, _ => []
  | n + 1, v => BitVec.ofNat 8 v :: leBytes n (v / 256)

/-- The number that a list of bytes spells, least significant byte first. -/
def ofLeBytes : List Byte → Nat
  | [] => 0
  | b :: bs => b.toNat + 256 * ofLeBytes bs

end Sys2Proof
end

