-- ==== Sys2Proof/Syntax.lean ====
section
/-! DEFINITION. The commands of the block: one constructor of `Instr` per row of the opcode table, with the operands
that the environment supplies (an address, a value, a unit, a measured quantity). A command asserts the event that
its row names; where the row states a duration or a physical condition, the environment that sends the command
asserts that it held. -/

namespace Sys2Proof

/-- The two masters of the register file (R51). -/
inductive Master where
  | pcie | twoWire
deriving DecidableEq, Repr, Inhabited

/-- The two feeds (R115). -/
inductive FeedId where
  | a | b
deriving DecidableEq, Repr, Inhabited

/-- What has been inside its window for tQUAL: one feed, or both in one cycle (R119). -/
inductive Qualified where
  | one (f : FeedId)
  | both
deriving DecidableEq, Repr, Inhabited

/-- What a stroke boundary measures (R90, R91): the mains frequency in mHz, and how far the phase lies from its prediction in angle
units. -/
structure StrokeMeas where
  mHz : Nat
  dev : Int
deriving DecidableEq, Repr, Inhabited

/-- A conversion of a converter (R410, R415): its slot, numbered since the frames' start, and how many angle units ago it started; a
slot of 500 ns is shorter than four. -/
structure ConvSlot where
  slot : Nat
  ago : Fin 4
deriving DecidableEq, Repr, Inhabited

/-- The services of the converters, in their order of priority (R416): the readback of a DAC, the audit of a DAC, the open-wire check
of an input, the converter cross-check. -/
inductive Service where
  | readback
  | audit (dac : Fin 164)
  | openWire (n : Fin 16)
  | crossCheck
deriving DecidableEq, Repr, Inhabited

/-- A rail index, 0 to 23 (R6). -/
abbrev Rail := Fin 24

/-- A B channel, 0 to 11 (R6). -/
abbrev Chan := Fin 12

/-- An action context (R102). -/
abbrev CtxId := Fin 128

/-- The array of a cistern segment (R134). -/
inductive Arr where
  | hs | ls
deriving DecidableEq, Repr, Inhabited

/-- A cistern segment: channel, array, index (R134). The index is checked by `Instr.wf`. -/
structure SegId where
  ch : Chan
  arr : Arr
  seg : Nat
deriving DecidableEq, Repr, Inhabited

/-- The payload that the executor received with a command, beside its meaning: the ring and position it came from,
its sequence and its QUIET flag (R390, R395). -/
structure CmdInfo where
  ring : Fin 8
  pos : Nat
  seq : Nat
  quiet : Bool
deriving DecidableEq, Repr, Inhabited

/-- What wakes the device from DORMANT (R41): a valid feed, the button, a wake monitor (1 to 7), an alarm. -/
inductive WakeSrc where
  | feed | button | monitor (ext : Fin 8) | alarm (n : Fin 2)
deriving DecidableEq, Repr, Inhabited

/-- What a chip reset comes from, as PSTATE.LAST_RESET codes it (R46). -/
inductive ResetKind where
  | por | brownOut | resetN | host | watchdog | longPress | dormant
deriving DecidableEq, Repr, Inhabited

/-- The islands whose loss is no reset (R34): records stop with DATA, the host link with LINK; WAKE, MGMT and DRV have a power-good
detector like the others. -/
inductive Island where
  | data | link | drv | mgmt | wake
deriving DecidableEq, Repr, Inhabited

/-- A unit whose controller is a lockstep pair with a spare behind it (R16): a B channel, an X channel, the well
converter. -/
inductive CtlUnit where
  | b (c : Chan) | x (n : Fin 2) | well
deriving DecidableEq, Repr, Inhabited

/-- The suspect array of a shoot-through signature (R151). -/
inductive ShortKind where
  | hsShort | lsShort | external
deriving DecidableEq, Repr, Inhabited

/-- What the post-flush scan and the last sample of the switch node show (R153): the links found newly open and
whether the node is still stuck. -/
structure FlushScan where
  opened : List (Arr × Nat)
  stuck : Bool
deriving DecidableEq, Repr, Inhabited

/-- A probe's two readings (R147): gate leakage in nA, and the gate voltage V_TH at I_PROBE in mV. -/
structure ProbeResult where
  leak : Nat
  vth : Nat
deriving DecidableEq, Repr, Inhabited

/-- The readings of one telemetry window of a rail (R189): averages, temperature, and the window's extremes, with the
flags of R190 that the window itself shows. -/
structure TelWindow where
  vAvg : Nat
  iAvg : Int
  pAvg : Nat
  temp : Int
  vMax : Nat
  vMin : Nat
  iMax : Int
  inLimit : Bool
  /-- rail 0: the average currents of the three phases in 10 mA -/
  phase : List Int := []
deriving DecidableEq, Repr, Inhabited

/-- The threshold of a window monitor that was crossed (R251). -/
inductive MonCmp where
  | rstLo | warnLo | warnHi | rstHi
deriving DecidableEq, Repr, Inhabited

/-- What a monitor crossing stands for: the comparator changed; or its excursion has lasted tFLT_QUAL. -/
inductive MonEdge where
  | out | back | qualified
deriving DecidableEq, Repr, Inhabited

/-- The outputs of a monitor's four comparators: input beyond each level. -/
structure MonBits where
  rstLo : Bool
  warnLo : Bool
  warnHi : Bool
  rstHi : Bool
deriving DecidableEq, Repr, Inhabited

/-- The readings of one estimator sample (R336). -/
structure EstReading where
  /-- WELL_BAT in mV -/
  vbat : Nat
  /-- pack-shunt current in mA, positive when charging -/
  cur : Int
  /-- pack temperature in 0.125 °C -/
  temp : Int
  /-- coulomb count since the last sample, in µAh, positive when charging -/
  dq : Int
  /-- the current has stayed below I_EST_SLOW for one tEST_SLOW (R336) -/
  slow : Bool
  /-- the charge current has stayed above I_EOD for 10 s (R344) -/
  charged : Bool
deriving DecidableEq, Repr, Inhabited

/-- A charger condition (R325): WELL_BAT in mV as QUAL and CC judge it; V_PRE exceeded for 1 s; the taper and top-off
timers; WELL_BAT below V_RECHG for 10 s; the floor command falling below 0 or leaving it. -/
inductive ChgEvent where
  | voltage (mv : Nat) | preHeld | tapered | topoffOver | recharge | floor (below : Bool)
deriving DecidableEq, Repr, Inhabited

/-- Samples of the metrology die's three channels as converter codes, `n` alike in a row (R434). -/
structure MetSample where
  i : Int
  v : Int
  c : Int
  n : Nat
deriving DecidableEq, Repr, Inhabited

/-- What the check bits of an OTP word show when it is read (R490, R497). -/
inductive Ecc where
  | clean | corrected | bad
deriving DecidableEq, Repr, Inhabited

/-- What a chip reset finds at its release: links that the scans find open and drivers that fail their self-test (R160),
controller pairs with fewer than two good halves (R187), header phases that fail (R207), OTP regions with an uncorrectable
word (R492), logbook copies (chunk * 2 + copy) whose CRC fails (R501), and the straps TWA1, TWA0 (R76) and TWIN_ID, open for
B (R358). -/
structure BootObs where
  opened : List (Chan × Arr × Nat) := []
  drivers : List (Chan × Arr × Nat) := []
  halves : List (CtlUnit × Nat) := []
  phases : List (Fin 3) := []
  badRegions : List Nat := []
  spoilt : List Nat := []
  twa : Fin 4 := 0
  twinB : Bool := false
deriving DecidableEq, Repr, Inhabited

/-- The three copies of a voted field as a read or the scrubber finds them (R57): of the active or the staging bank, by the
register's base address, the instance and the field's lowest bit. -/
structure Found where
  act : Bool
  reg : Nat
  inst : Nat
  lo : Nat
  a : Nat
  b : Nat
  c : Nat
deriving DecidableEq, Repr, Inhabited

/-- What the environment supplies to a command that a write starts: the links that a commanded scan finds open (R136), and
whether VSYS with the programming pump, and TJ, lie in the windows of OTP programming (R498). -/
structure WriteObs where
  opened : List (Arr × Nat) := []
  supply : Bool := true
  temp : Bool := true
deriving DecidableEq, Repr, Inhabited

/-- What link training and the host's configuration leave (R404): the speed, Bus Master Enable, and the payload and read
request sizes as HR_STAT codes them. -/
structure LinkCfg where
  gen2 : Bool
  bme : Bool
  mps : Nat
  mrrs : Nat
deriving DecidableEq, Repr, Inhabited

/-- What the host writes of its MSI-X masks and table (R289, R383): the function mask of Message Control, or a double word of BAR2,
outside the doorbells, at a byte offset. -/
inductive MsixWrite where
  | functionMask (on : Bool)
  | bar2 (off : BitVec 12) (w : Word)
deriving DecidableEq, Repr, Inhabited

/-- The index of a master among the per-master copies (R51). -/
def Master.idx : Master → Nat
  | .pcie => 0 | .twoWire => 1

/-- The other master. -/
def Master.other : Master → Master
  | .pcie => .twoWire | .twoWire => .pcie

/-- A feed's index in its registers (R133). -/
def FeedId.idx : FeedId → Nat
  | .a => 0 | .b => 1

/-- An array's index (R134). -/
def Arr.idx : Arr → Nat
  | .hs => 0 | .ls => 1

/-- The commands: one constructor per row of the opcode table, those without operands last. -/
inductive Instr where
  /-- Loss of VBIAS, CTL, REF with fewer than two valid references, or CLK with no valid oscillator causes a brown-out
  reset, and all outputs stop at once (R34). -/
  | brownOutReset (aonUp : Bool)
  /-- Any chip reset reloads the banks, seeds the time base, loads the logbook, initialises the channels and starts the
  OTP digest checks (R67). -/
  | chipReset (o : BootObs)
  /-- A valid feed, a PWRBTN_N press or an enabled wake input (monitor or alarm) in DORMANT causes a chip reset with
  LAST_RESET = 0b110 (R41). -/
  | dormantWake (w : List WakeSrc)
  /-- A valid feed or a PWRBTN_N press in SHIP causes a POR (R41). -/
  | shipWake (button : Bool)
  /-- The AON interval counter expires every DORM_INT hours, powers up the needed islands for one estimator sample,
  resyncs Q_C and checks the pack floor (R349). -/
  | dormantSample (x : EstReading)
  /-- Loss of the DATA or LINK island stops records or the host link only, while the control plane continues (R34). -/
  | islandPowerLoss (isl : Island)
  /-- COMMIT_CTL.GO starts validation of the staging bank (R70). -/
  | commitGo (m : Master) (w : Word)
  /-- COMMIT_CTL.ABORT cancels a validating or pending commit and sets ABORTED (R74). -/
  | commitAbort (m : Master) (w : Word)
  /-- COMMIT_CTL.DISCARD from the owner reloads the staging bank and releases ownership (R69). -/
  | commitDiscard (m : Master) (w : Word)
  /-- A write, including an alias write, to a register that has no row of its own is checked in order and either applied
  or discarded with LAST_ERR set (R56). -/
  | registerWrite (m : Master) (addr : BitVec 16) (w : Word) (be : BitVec 4) (o : WriteObs)
  /-- An alias read of a status register is refused with ALIAS and returns 0 without clearing RC fields (R55). -/
  | aliasStatusRead (m : Master) (addr : BitVec 16)
  /-- A read of a register with RC fields captures and clears those fields (R60). -/
  | rcFieldRead (m : Master) (addr : BitVec 16)
  /-- A read of FB_STAT clears PEND unless a standing fault holds it, and so can release FAULT_N (R288). -/
  | fbStatRead (m : Master) (b : Fin 23)
  /-- MBX_REQ with OP = read starts a whole read of a wide value at its home address (R64). -/
  | mbxReadRequest (m : Master) (home : BitVec 14)
  /-- MBX_REQ with OP = write applies MBX_DATA to a wide value as one write under the checks of R56 (R64). -/
  | mbxWriteRequest (m : Master) (home : BitVec 14)
  /-- A mailbox request completes within tMBX and sets VALID with the data or the error (R64). -/
  | mbxComplete (m : Master)
  /-- The scrubber visits every RWV field of both banks once per tSCRUB and corrects single differing copies (R58). -/
  | scrubPass (found : List Found)
  /-- A two-wire address byte is ACKed, or NACKed while a crossing or read-ahead is incomplete, and a read-ahead crossing
  starts for a read (R80). -/
  | twAddressByte (read : Bool)
  /-- The first written byte sets the pointer, and pointer 0xFF addresses the page register (R77). -/
  | twPointerByte (b : Byte)
  /-- A written byte updates the assembly word, and byte +3 writes the register under R56 (R78). -/
  | twDataByteWrite (b : Byte) (o : WriteObs)
  /-- A settled frequency and a phase error within LOCK_TOL over 4 strokes enter LOCKED; the first lock steps the angle
  (R90). -/
  | lockAcquired (mHz : Nat) (theta : BitVec 16)
  /-- Amplitude or zero crossings lost for tMAINS_LOSS move the time base to FREE or holdover (R90). -/
  | mainsLost (ampl : Bool)
  /-- At each stroke boundary the AON stores stroke time and RTC time, and pending count steps and frequency changes take
  effect (R95). -/
  | strokeBoundary (m : StrokeMeas)
  /-- A PPS_IN edge captures the stroke time and, if alignment is armed, judges and schedules the count alignment (R98).
  -/
  | ppsEdge (rising : Bool)
  /-- ALIGN_CTL.ARM arms an alignment at the next PPS edge (R99). -/
  | alignArm (m : Master) (w : Word)
  /-- ALIGN_CTL.STEP schedules a count step by STEP_STROKES at the next stroke boundary (R99). -/
  | alignStep (m : Master) (w : Word)
  /-- On return to LOCKED, a deferred context launches at the first slot with room if its required time still fits (R104).
  -/
  | deferredContextLaunch (c : CtxId)
  /-- The scheduled launch plus DEADLINE passes for a deferred context, which ends DEADLINE with its completion record
  (R104). -/
  | contextDeadlinePassed (c : CtxId)
  /-- A RAIL_EN step starts a rail prime or a rail drain (R103). -/
  | stepRailEn (c : CtxId)
  /-- A RAIL_SET step sets the rail's present setpoint and ramps the reference at SR_DVS (R178). -/
  | stepRailSet (c : CtxId)
  /-- A GROUP step starts a group prime or a group drain (R231). -/
  | stepGroup (c : CtxId)
  /-- An ADC_BURST step starts a STEP run of the block source stream on the named converter (R422). -/
  | stepAdcBurst (c : CtxId)
  /-- A TIMER step starts or stops a timer (R466). -/
  | stepTimer (c : CtxId)
  /-- A SIG step drives the masked SIG outputs to the given levels (R103). -/
  | stepSig (c : CtxId)
  /-- A LEARN step starts or stops a learning draw (R345). -/
  | stepLearn (c : CtxId)
  /-- A ROTATE step rotates the banks and resting segments of a B channel (R144). -/
  | stepRotate (c : CtxId)
  /-- A WAIT step expires after its angle units and the context issues its next step (R103). -/
  | stepWaitEnd (c : CtxId)
  /-- A command-ring doorbell write sets HOST_POS and starts descriptor fetch, or is refused (R387). -/
  | cmdDoorbell (ring : Fin 8) (w : Word) (be : BitVec 4)
  /-- A record-ring doorbell write releases entries up to HOST_POS, or is refused (R387). -/
  | recDoorbell (ring : Fin 16) (w : Word) (be : BitVec 4)
  /-- A fetched command descriptor is checked in order and dispatched, refused, queued for its time, or halts the ring
  (R392). -/
  | descriptorReceived (ring : Fin 8) (bytes : List Byte)
  /-- A descriptor read ending in error halts the ring with cause 0x2 (R388). -/
  | dmaReadError (ring : Fin 8)
  /-- The NOP command completes with OK and can act as a fence marker (R391). -/
  | cmdNop (ring : Fin 8) (crcOk : Bool)
  /-- The STEP command executes one step word under the rules of R103 (R391). -/
  | cmdStep (ring : Fin 8) (crcOk : Bool)
  /-- The CTX_ARM command arms a COMMAND context with its launch time (R110). -/
  | cmdCtxArm (ring : Fin 8) (crcOk : Bool)
  /-- The POWER_STATE command requests DORMANT or SHIP, accepted only in HOLD (R42). -/
  | cmdPowerState (ring : Fin 8) (crcOk : Bool)
  /-- The CHIP_RESET command starts a reset drain followed by a host chip reset (R242). -/
  | cmdChipReset (ring : Fin 8) (crcOk : Bool)
  /-- The TWIN_LEAVE command requests a twin leave (R373). -/
  | cmdTwinLeave (ring : Fin 8) (crcOk : Bool)
  /-- The LEND command starts or stops lend mode (R329). -/
  | cmdLend (ring : Fin 8) (crcOk : Bool)
  /-- A queued timed command reaches its slot, is checked against the active bank and takes effect or is refused (R394).
  -/
  | timedCommandDue (crcOk : Bool)
  /-- A perturbation doorbell delay expires and the fetch from the delayed ring starts (R302). -/
  | doorbellDelayEnd (ring : Fin 8)
  /-- HR_CTL ENABLE makes a DISABLED ring ACTIVE with both positions 0, after its checks (R388). -/
  | ringEnable (m : Master) (ring : BitVec 5)
  /-- HR_CTL DISABLE makes a ring DISABLED, resets its positions and discards its record queue (R388). -/
  | ringDisable (m : Master) (ring : BitVec 5)
  /-- When the ring has free entries, the DMA engine writes queued records, advances DEV_POS and may send an MSI-X message
  (R399). -/
  | recordDmaWrite (ring : Fin 16)
  /-- IRQ_TIME µs after the first unreported record, the ring sends its MSI-X message (R400). -/
  | ringIrqTimeout (ring : Fin 16)
  /-- A hot reset, PCIE_PERST_N or FLR resets the host-link domain and its Immediate fields, and ends a session opened
  over PCI Express (R404). -/
  | hotReset (flr : Bool)
  /-- The link trains up and raises HOST event 0x02, plus 0x08 if the speed is below 5.0 GT/s (R404). -/
  | linkUp (x : LinkCfg)
  /-- On MSI-X enable, one message is sent for each vector that has a pending enabled block (R289). -/
  | msixEnabled (enable : Bool) (fmask : Bool)
  /-- A feed inside its window, with MATE_N low when required, moves OFF to QUAL; if the condition lapses it returns to
  OFF (R118). -/
  | feedInWindow (f : FeedId) (inside : Bool)
  /-- After tFEED_QUAL a feed enters INRUSH if the other feed is not in INRUSH (R119). -/
  | feedQualified (q : Qualified)
  /-- FA_MID within V_ON_DROP of FA_IN moves the feed to ON, and the waiting feed may start its inrush (R118). -/
  | feedInrushDone (f : FeedId)
  /-- A ramp not finished within tINRUSH_MAX moves the feed to RETRY_WAIT or LATCHED (R118). -/
  | feedInrushTimeout (f : FeedId)
  /-- Shunt voltage above V_CB for tCB turns the feed off, to RETRY_WAIT or LATCHED (R120). -/
  | breakerSlowTrip (f : FeedId) (mv : Int)
  /-- Shunt voltage above 2 × V_CB turns the feed off within tCB_FAST (R120). -/
  | breakerFastTrip (f : FeedId) (mv : Int)
  /-- At the end of tCB_RETRY the feed returns to QUAL and RETRIES increments (R118). -/
  | feedRetryEnd (f : FeedId)
  /-- A feed below V_UV for tUV_FILT leaves its window and goes to OFF (R121). -/
  | feedUnderVoltage (f : FeedId)
  /-- A feed above V_OV for tOV_FILT goes to OV_OFF, with the hot-swap FET off within tOV_OFF (R121). -/
  | feedOverVoltage (f : FeedId) (mv : Int)
  /-- A feed below V_OV − V_OV_HYS leaves OV_OFF for OFF (R118). -/
  | feedOvCleared (f : FeedId)
  /-- FA_MID above half of FA_IN for 1 ms in OFF or QUAL latches the feed with cause 0x08 (R124). -/
  | hotswapFetFault (f : FeedId)
  /-- Reverse shunt current in ON latches the feed with cause 0x09 (R123). -/
  | feedReverseCurrent (f : FeedId)
  /-- An OR FET drop below V_REV turns the OR FET off within tREV_OFF (R122). -/
  | orReverseBlock (f : FeedId)
  /-- A feed valid without a break for tFEED_STABLE becomes stable and RETRIES clears (R125). -/
  | feedStable (f : FeedId)
  /-- A feed falling below V_PRESENT clears LATCHED (R118). -/
  | feedAbsent (f : FeedId)
  /-- PE_CTL CLR_A or CLR_B moves a LATCHED feed to OFF (R133). -/
  | feedLatchClear (m : Master) (f : FeedId)
  /-- Every tSCAN_BG the continuity scan reads every link and retires any unexpected open link (R136). -/
  | caBackgroundScan (c : Chan) (opened : List (Arr × Nat))
  /-- CA_CTL.RETIRE retires the selected segment as RETIRED_GATE with cause HOST (R138). -/
  | caRetire (m : Master) (w : Word)
  /-- CA_CTL.ROTATE rotates the selected channel now, unless refused (R144). -/
  | caRotate (m : Master) (w : Word)
  /-- CA_CTL.SCAN scans both arrays now (R136). -/
  | caScan (m : Master) (w : Word) (opened : List (Arr × Nat))
  /-- CA_CTL.PROBE makes the selected segment the next one probed (R147). -/
  | caProbe (m : Master) (w : Word)
  /-- Every tADAPT_STEP the channel recomputes n_target and moves the bank count by one (R140). -/
  | adaptStep (c : Chan) (iAvg : Nat)
  /-- A load step freezes the bank count and rotation, and abandons a probe in progress (R141). -/
  | loadStepDetected (c : Chan)
  /-- tADAPT_HOLD after the last load step, adaptation and rotation unfreeze (R141). -/
  | freezeEnd (c : Chan)
  /-- The probe engine picks the next segment to probe (SUSPECT first, then the oldest) (R147). -/
  | probeStart (c : Chan) (a : Arr)
  /-- A probe completes; the segment passes, becomes SUSPECT, or is retired (R147). -/
  | probeDone (c : Chan) (a : Arr) (p : ProbeResult)
  /-- A bank driver failing its edge check retires its bank's segments within tDRV_OFF and a replacement bank is added
  (R149). -/
  | bankDriverLoss (c : Chan) (a : Arr) (bank : Fin 16) (leaking : Bool)
  /-- A shoot-through signature turns both arrays off, then diagnosis confirms a segment short and starts a flush, or
  resumes regulation (R151). -/
  | shortTrigger (c : Chan) (k : ShortKind) (confirmed : Bool) (bothStuck : Bool) (vhdrOk : Bool)
  /-- After the flush a scan retires newly open links, then the channel resumes regulation or waits tFLUSH_COOL (R153). -/
  | flushEnd (c : Chan) (x : FlushScan)
  /-- After tFLUSH_COOL a second flush runs, and if it fails the channel is LOST (R153). -/
  | secondFlush (c : Chan) (x : FlushScan)
  /-- The reference reaches its setpoint, and the rail moves from SOFT_START or RAMPING to REGULATING (R175). -/
  | rampComplete (r : Rail)
  /-- Output lagging the reference by more than V_STALL in current limit for tSTALL is a start failure (R177). -/
  | rampStall (r : Rail)
  /-- The upper clamp acting for tOC_DET is an over-current: hiccup or a running fault for a channel, pump, LDO or X
  channel (R179). -/
  | overCurrent (r : Rail) (steady : Bool)
  /-- After tHICCUP the channel soft starts again (R179). -/
  | hiccupEnd (r : Rail)
  /-- Output above the over-voltage reset level holds the high side off, sinks current, and reports a running fault
  (R180). -/
  | outputOverVoltage (r : Rail) (mv : Int)
  /-- Output below V_PB_ZERO ends DRAINING; the arrays turn off and optional active discharge begins (R181). -/
  | channelDrainEnd (r : Rail)
  /-- An open sense line for tSNS_FILT switches the feedback to local sense (R183). -/
  | senseLoss (c : Chan)
  /-- B_CTL.SNS_RETRY re-checks the sense lines for tSNS_FILT and restores remote sense (R183). -/
  | snsRetry (m : Master) (c : Chan)
  /-- A lockstep mismatch turns the stage off and claims the group's spare, which takes over within tTAKEOVER (R185). -/
  | lockstepMismatch (u : CtlUnit)
  /-- With the spare unavailable, the self-test result resumes the pair, runs SOLO, or makes the channel LOST (R186). -/
  | controllerBistDone (u : CtlUnit) (halves : Fin 3)
  /-- Temperature reaching T_CH_SHUT enters OT_OFF and reports a running fault; crossing T_CH_WARN sets T_WARN (R188). -/
  | channelOverTemp (c : Chan) (t : Int)
  /-- At each tTEL_WIN window end the averages are updated, and every REC_DIV windows a rail telemetry record is formed
  (R190). -/
  | telemetryWindowEnd (r : Rail) (x : TelWindow)
  /-- A header phase loss cause turns its gates and disconnect off and re-spaces the live phases (R208). -/
  | phaseLoss (p : Fin 3) (cause : Fin 8)
  /-- HDR_CTL.PH_RETRY starts the self-test of a phase lost with cause 0x1 or 0x4 (R208). -/
  | phRetry (m : Master) (w : Word)
  /-- A passed retry rejoins the phase at the next frame; a failed one sets cause 0x6 (R208). -/
  | phRetryDone (p : Fin 3) (passed : Bool)
  /-- An LDO pass device above T_LDO_SHUT turns off and reports a running fault (R213). -/
  | ldoThermalShutdown (k : Fin 6) (above : Bool)
  /-- A load switch held at ILIM for tSW_LIM turns off and reports a running fault (R215). -/
  | switchLimitExpiry (j : Fin 3)
  /-- Sj_OUT above VHDR by V_SW_REV turns the switch gate off until the reverse voltage clears (R215). -/
  | switchReverseBlock (j : Fin 3) (on : Bool)
  /-- Once a rail's start condition and tPRIME_DLY are met, its priming step starts (R226). -/
  | primingStepStart (r : Rail) (vinOk : Bool) (dead : Bool)
  /-- A rail inside its window for tPGQ after its ramp becomes GOOD (R259). -/
  | powerGood (r : Rail)
  /-- tPG_DL passing in PRIMING is a start failure with cause 0x01 (R232). -/
  | pgDeadlinePassed (r : Rail)
  /-- After tOFF_MIN the rail repeats its priming step (R232). -/
  | startRetry (r : Rail) (vinOk : Bool) (dead : Bool)
  /-- A qualified running fault sets RUN_FAULT, requests PFW and starts a running-fault drain (R236). -/
  | runningFault (r : Rail) (cause : Byte)
  /-- tPFW_LEAD after its request, a drain starts its first drain steps (R231). -/
  | pfwLeadEnd (rails : BitVec 24)
  /-- Once a rail's dependants in the drain have ended and tDRAIN_DLY has passed, its drain step starts (R227). -/
  | drainStepStart (r : Rail)
  /-- Output below V_PB_ZERO ends a drain step; the operation ends when its last step ends (R227). -/
  | drainStepEnd (r : Rail)
  /-- Output above V_PB_ZERO at the end of tDRAIN_MAX moves the rail to DISCHARGING (R239). -/
  | drainTimeout (r : Rail)
  /-- tDIS_MAX ending in DISCHARGING sets BACKFEED and ends the step, or ends active discharge (R239). -/
  | dischargeTimeout (r : Rail)
  /-- SEQ_CTL.UNLATCH clears the sequencer latch (R234). -/
  | seqUnlatch (m : Master) (w : Word)
  /-- A lane that differs from the majority at a tick is reloaded, or retired (R229). -/
  | laneDivergence (lane : Fin 3) (persists : Bool)
  /-- A window monitor comparator changes state, starting excursion counting, qualification or power-good timing (R258).
  -/
  | monitorCrossing (mon : Fin 32) (k : MonCmp) (e : MonEdge) (mv : Int)
  /-- VSYS below EXT0 WARN_LO in RUN raises the supply PFW request (R263). -/
  | supplyWarning (mv : Int)
  /-- VSYS returning above WARN_LO without reaching RST_LO records a dip; if the source is severe, a pre-emptive hand-over
  starts (R263). -/
  | supplyDip (mv : Int)
  /-- VSYS below EXT0 RST_LO counts a supply loss (R263). -/
  | supplyLoss (mv : Int)
  /-- A trip comparator crossing turns its gate off for the rest of the period, and a run of TRIP_RUN trips is reported as
  persistent (R267). -/
  | trip (t : Fin 36) (persistent : Bool) (val : Int)
  /-- An audit reading of one DAC is compared with its ideal value and the DAC is marked failed or cleared (R269). -/
  | dacAuditReading (d : Fin 164) (off : Nat) (xcheck : Option (Int × Int))
  /-- WM_RB_CTL.GO requests a readback of one DAC (R270). -/
  | dacReadbackRequest (m : Master) (w : Word)
  /-- A readback completes within tRB and sets WM_RB_DATA.VALID (R270). -/
  | dacReadbackDone (v : Nat)
  /-- After tDAC_SET the comparator output follows the new level (R271). -/
  | dacBlankEnd (mon : Fin 32) (b : MonBits) (mv : Int)
  /-- FH_CTL.SEV_CLR clears severity for every source of the block and unfreezes its history (R285). -/
  | sevClr (m : Master) (w : Word)
  /-- FH_CTL.HIST_CLR empties the selected block's history queue (R287). -/
  | histClr (m : Master) (w : Word)
  /-- A reference off the median by more than V_REF_DEV for tREF_FILT is excluded (R298). -/
  | referenceDeviation (n : Fin 3)
  /-- A stopped or deviating 100 MHz reference is lost, and the core PLL changes over to the other reference (R299). -/
  | oscillatorLoss (primary : Bool)
  /-- A PT_KEY write advances, completes or refuses the unlock sequence (R304). -/
  | ptKeyWrite (m : Master) (w : Word)
  /-- PT_CTL.LOCK ends the perturbation session (R305). -/
  | ptLock (m : Master) (w : Word)
  /-- PT_CTL.CLEAR_ALL ends every kind and keeps the session open (R310). -/
  | ptClearAll (m : Master) (w : Word)
  /-- A PT_DB write sets or clears the doorbell delay kind (R305). -/
  | ptDbWrite (m : Master) (w : Word)
  /-- A PT_BP write sets or clears the record back-pressure kind (R305). -/
  | ptBpWrite (m : Master) (w : Word)
  /-- A PT_SKEW write sets or clears the launch skew kind (R305). -/
  | ptSkewWrite (m : Master) (w : Word)
  /-- A PT_WM_DLY write sets or clears the monitor delay kind (R305). -/
  | ptWmDlyWrite (m : Master) (w : Word)
  /-- A perturbation kind's PT_TTL expires and its register returns to 0 (R305). -/
  | ptKindExpiry (k : Fin 4)
  /-- WELL_BAT crossing V_PACK_PRESENT sets or clears NO_PACK (R314). -/
  | packPresenceChange (present : Bool)
  /-- WELL_CTL.DORMANT requests DORMANT by cutoff drain, with the valve kept closed (R324). -/
  | wellDormant (m : Master) (w : Word)
  /-- WELL_CTL.SHIP requests SHIP by cutoff drain and valve opening (R324). -/
  | wellShip (m : Master) (w : Word)
  /-- WELL_CTL.LEND_START starts lend mode in HOLD (R329). -/
  | lendStart (m : Master) (w : Word)
  /-- WELL_CTL.LEND_STOP stops lend mode (R329). -/
  | lendStop (m : Master) (w : Word)
  /-- A low pack or a LEND current below I_LEND / 10 for 10 s stops lend (R329). -/
  | lendAutoStop (full : Bool)
  /-- WELL_CTL.CLR_CHG clears CHG_FAULT (R325). -/
  | clrChg (m : Master) (w : Word)
  /-- WELL_CTL.CHG_RESTART returns the charger to QUAL (R335). -/
  | chgRestart (m : Master) (w : Word)
  /-- A charger condition (voltage crossing, taper or top-off timer, recharge timer) moves the charger to its next phase
  (R325). -/
  | chargePhaseChange (e : ChgEvent)
  /-- The reading of WELL_NTC, in 1/65,536 of its bias, has come into another zone or into an NTC fault (R326). -/
  | packZoneChange (code : Fin 65536)
  /-- Die temperature crossing T_FOLD starts or ends charge foldback (R327). -/
  | foldbackChange (t : Int)
  /-- Every tEST_FAST or tEST_SLOW the estimator samples and updates SoC, impedance, conflict and levels (R337). -/
  | estSample (x : EstReading)
  /-- EST_CTL.LEARN_START starts a learning draw (R345). -/
  | learnStart (m : Master) (w : Word)
  /-- EST_CTL.LEARN_STOP abandons a learning draw (R347). -/
  | learnStop (m : Master) (w : Word)
  /-- EST_CTL.RESYNC sets Q_C from SoC_V (R341). -/
  | resync (m : Master) (w : Word)
  /-- EST_CTL.NEW_PACK resets the learned fields and saves them (R350). -/
  | newPack (m : Master) (w : Word)
  /-- A twin frame received whole updates the partner's currents, state and mirror chunk (R365). -/
  | twinFrame (bytes : List Byte) (codeErr : Bool)
  /-- A received LEAVE_ACK moves the requester to LEAVING (R373). -/
  | leaveAck (count : BitVec 32)
  /-- A received LEAVE_NAK refuses the leave and raises TWIN event 0x04 (R373). -/
  | leaveNak (reason : Byte)
  /-- TW_CTL.LEAVE requests a leave (R373). -/
  | twLeave (m : Master) (w : Word)
  /-- TW_CTL.JOIN joins from CHECK (R368). -/
  | twJoin (m : Master) (w : Word)
  /-- TW_CTL.REJOIN returns from CONFLICT or LEFT to CHECK (R368). -/
  | twRejoin (m : Master) (w : Word)
  /-- A match held for tTW_MATCH closes a slot's OR gate, at the next stroke boundary when joining (R362). -/
  | gateMatch (k : Fin 8)
  /-- A slot's share ramp ends after tTW_RAMP, and LIVE follows when all slots are done (R372). -/
  | shareRampEnd (k : Fin 8)
  /-- Reverse current below −I_TW_REV for tTW_REV opens the slot gate (R363). -/
  | twinGateReverse (k : Fin 8) (ma : Int)
  /-- An ADC_TRIG edge starts a PIN run, or is counted as missed during a run (R412). -/
  | adcTrigEdge (rising : Bool)
  /-- A slot's conversion result feeds its stream's filter, averager, results and block records (R413). -/
  | adcConversionDone (mc : Fin 2) (at_ : ConvSlot) (code : BitVec 16) (openWire : Bool) (asks : List Service)
  /-- Every tOW a periodic check sources and sinks I_OW and judges the AIN open or closed (R418). -/
  | openWireCheck (n : Fin 16) (up : Nat) (dn : Nat)
  /-- A metrology frame received whole has its CRC checked and is forwarded unchanged as a type 0x07 record (R430). -/
  | metRecordReceived (bad : Option (List Byte))
  /-- The TIME command delivers stroke time and lock code to the metrology die (R431). -/
  | metTime (crcOk : Bool)
  /-- The CONFIG command applies CADENCE and PULSE_QTY, or in SEALED counts a seal event (R431). -/
  | metConfig (crcOk : Bool)
  /-- The READ command returns one status word or wide value of the metrology die (R431). -/
  | metRead (home : BitVec 14) (crcOk : Bool) (l : List MetSample)
  /-- At each record period boundary the die forms a group of three sealed records (R445). -/
  | metGroupBoundary (ext : BitVec 64) (l : List MetSample)
  /-- Every tSTORE_SAVE, or when MVDD falls below V_MHOLD_SAVE, an energy store copy is written (R438). -/
  | metStoreSave (falling : Bool) (l : List MetSample)
  /-- At MVDD start the die restores the store, checks the seal digest, and sets RESTART or INTEGRITY (R438). -/
  | mvddStart (newerOk : Bool) (olderOk : Bool) (digestOk : Bool)
  /-- Check and voltage channels differing beyond V_CHK_TOL for tCHK set the CHECK flag (R436). -/
  | metCheckDisagree (on : Bool)
  /-- A calibration port word write updates a shadow word, or is refused and counted in SEALED (R441). -/
  | calPortWrite (en : Bool) (ptr : Byte) (v : Word) (supply : Bool)
  /-- A calibration port read returns words from the pointer on (R441). -/
  | calPortRead (en : Bool) (ptr : Byte) (n : Nat)
  /-- A SEAL write starts burning the life marker, the calibration words and the digest (R442). -/
  | seal (en : Bool) (v : Word) (supply : Bool)
  /-- RTC_CTL.HALT_SET halts the calendar (R456). -/
  | haltSet (m : Master) (w : Word)
  /-- RTC_CTL.HALT_CLR resumes the calendar from the written value (R456). -/
  | haltClr (m : Master) (w : Word)
  /-- A write of RTC_TIME or RTC_DATE while halted sets the fields and SUBSEC to 0 (R456). -/
  | rtcCalendarWrite (m : Master) (date : Bool) (w : Word)
  /-- A write of RTC_SHIFT starts a slewed shift of the calendar (R458). -/
  | rtcShift (m : Master) (w : Word)
  /-- A read of RTC_SUBSEC captures the calendar into the master's shadow (R460). -/
  | rtcSubsecRead (m : Master)
  /-- A read of RTC_DATE returns the shadow and releases it (R460). -/
  | rtcDateRead (m : Master)
  /-- tSHADOW after capture the master's shadow is released (R460). -/
  | shadowExpiry (m : Master)
  /-- TM_GCTL.START starts the named timers in one cycle and copies their preloads (R466). -/
  | timerStart (m : Master) (w : Word)
  /-- TM_GCTL.STOP stops the named timers in one cycle (R466). -/
  | timerStop (m : Master) (w : Word)
  /-- TM_CTL.CLR sets the count to 0 (R466). -/
  | timerClr (m : Master) (t : Fin 8) (w : Word)
  /-- TM_CTL.LOAD copies the preloads to the active values (R466). -/
  | timerLoad (m : Master) (t : Fin 8) (w : Word)
  /-- A tick at the active TOP wraps the count to 0, or stops a one-shot timer, and sets WRAP (R465). -/
  | timerWrap (t : Fin 8)
  /-- The count reaching the active CMP sets CMP and may raise TIMER event 0x01 (R465). -/
  | timerCompare (t : Fin 8)
  /-- A selected capture edge copies the count into TM_CAPT and TM_MAX (R467). -/
  | timerCapture (t : Fin 8)
  /-- The gate becoming active clears the count when CLR_GATE = 1 (R465). -/
  | timerGateActive (t : Fin 8) (rising : Bool)
  /-- A WDT_SERVE write is judged against the slot and its window: a valid serve, or an EARLY or KEY fault (R477). -/
  | wdtServe (m : Master) (w : Word)
  /-- WDT_CTL.START starts a software-started watchdog (R475). -/
  | wdtStart (m : Master) (w : Word)
  /-- WDT_CTL.STOP stops a software-started watchdog (R475). -/
  | wdtStop (m : Master) (w : Word)
  /-- A slot count reaching CLOSE, or the end of its grace window, is an EXPIRED fault offered to the ladder (R478). -/
  | wdtSlotExpired (slots : BitVec 16)
  /-- OTP_CMD READ reads the word at OTP_ADDR (R497). -/
  | otpRead (m : Master) (w : Word)
  /-- OTP_CMD PROGRAM burns the 1 bits of OTP_DATA into the word (R498). -/
  | otpProgram (m : Master) (w : Word) (o : WriteObs)
  /-- OTP_CMD FINALISE burns the digest of a region (R498). -/
  | otpFinalise (m : Master) (w : Word) (o : WriteObs)
  /-- OTP_CMD CHECK recomputes a finalised region's digest (R498). -/
  | otpCheck (m : Master) (w : Word)
  /-- An OTP command completes and sets VALID with its result (R497). -/
  | otpCommandDone (ecc : Ecc)
  /-- A pending chunk save starts when the reserve check passes and a token is available, writing the older copy (R500).
  -/
  | logbookSaveStart (reserve : Bool)
  /-- A chunk copy write completes with its new sequence (R500). -/
  | logbookSaveDone (lost : Bool)
  /-- LOG_CTL.FLUSH saves every pending chunk without tokens (R503). -/
  | logFlush (m : Master) (w : Word)
  /-- A read of an RWV field returns the majority, rewrites a single differing copy and increments FIX_COUNT, or on a
  three-way disagreement triggers STAGE_VOTE_LOST or ACTIVE_VOTE_LOST (R57). -/
  | votedFieldRead (m : Master) (addr : BitVec 16) (found : List Found)
  /-- A read of RTC_TIME returns the master's shadow, or captures one first and returns STALE = 1 when none is held
  (R460). -/
  | rtcTimeRead (m : Master)
  /-- tSNS_FILT after B_CTL.SNS_RETRY, the re-check of the sense lines ends and the feedback returns to remote sense if
  the lines are good (R183). -/
  | snsRetryDone (c : Chan) (good : Bool)
  /-- The DATA or LINK island regains power good; CONT streams restart their settling, the kept DORMANT estimator record
  is formed, and the link may train (R424). -/
  | islandPowerReturn (isl : Island)
  /-- Clearing an MSI-X vector mask or the function mask sends the message held pending for that vector (R289). -/
  | msixVectorUnmasked (x : MsixWrite)
  /-- A feed rising above V_PRESENT sets FEED_STAT.PRESENT (R133). -/
  | feedPresent (f : FeedId)
  /-- An edge on MATE_N changes PE_STAT.MATE_RAW and starts the insertion debounce or the break filter (R127). -/
  | mateNLevelChange (low : Bool)
  /-- An edge on EJECT_N changes TW_STAT.EJECT and starts or abandons the ejector debounce (R381). -/
  | ejectNLevelChange (low : Bool)
  /-- Power-up of the AON island starts a POR: every field takes its Reset value, the seed is lost and the chip reset
  sequence begins (R504). -/
  | powerOnReset
  /-- RESET_N low for at least tRST_PW causes a chip reset with no drain; it also leaves SAFE and clears ATTEMPTS (R242).
  -/
  | resetNAsserted
  /-- Completion of the OTP digest checks enters RUN or HOLD, depending on whether a feed is valid, and starts priming
  (R41). -/
  | otpDigestChecksDone
  /-- PWRBTN_N held for tLONG opens the well valve and holds the feed gates off for tOPEN, dropping all power (R330). -/
  | longPress
  /-- At the end of tOPEN the valve closes, the feed gates are released and the device restarts from POR with LAST_RESET =
  0b101 (R330). -/
  | longPressOpenEnd
  /-- A PWRBTN_N press of at least tPRESS raises WELL event 0x0F, or wakes the device from DORMANT or SHIP (R330). -/
  | buttonPress
  /-- The end of validation sets PENDING, or FAILED with ERR, CHECK and ERR_ADDR (R71). -/
  | validationEnd
  /-- At the swap stroke time, or after a holding drain or transition ends, the banks exchange in one cycle and SWAP_TIME
  is stored (R70). -/
  | commitSwap
  /-- Within tCOPY of the swap the staging bank is filled from the active bank, STATE becomes DONE and ownership is
  released (R70). -/
  | commitCopyDone
  /-- After tOWN_IDLE with no access by the owner, ownership is released and the staging bank is reloaded (R69). -/
  | ownershipIdleRelease
  /-- A read byte is served from a snapshot that is captured at the register's first byte or by read-ahead (R79). -/
  | twDataByteRead
  /-- STOP or repeated START ends a transaction; an incomplete assembly word is discarded and PARTIAL is set (R78). -/
  | twStop
  /-- A read-ahead crossing completes and its capture is kept for the repeated transaction (R80). -/
  | twReadaheadDone
  /-- A completed capture left unused for longer than tXING_AON is discarded (R80). -/
  | twReadaheadExpired
  /-- A START or STOP off a byte boundary aborts the transaction and sets MISPLACED (R81). -/
  | twMisplaced
  /-- SDA read low while the device drives a 1 releases SDA for the rest of the transaction (R81). -/
  | twTxConflict
  /-- SCL or SDA held low for tTW_TO resets the interface to idle (R81). -/
  | twBusTimeout
  /-- Valid mains with MAINS_EN = 1 moves the time base from FREE or holdover to ACQUIRING (R90). -/
  | mainsValid
  /-- A phase error above JUMP_MAX × 512 on two consecutive zero crossings moves LOCKED to holdover (R90). -/
  | phaseJump
  /-- A holdover longer than tHOLD_AMBIG sets COUNT_SUSPECT (R93). -/
  | holdoverAmbiguous
  /-- At each angle slot the due contexts, automatic rotations and timed commands are launched in order (R106). -/
  | angleSlotStart
  /-- PCI Express link-down disables every ring and drops the queued records, but keeps the timed queue (R404). -/
  | linkDown
  /-- In D3hot, fetch, record writes and messages stop until D0 (R404). -/
  | d3hotEntry
  /-- Clearing Bus Master Enable halts the ACTIVE rings with cause 0x3 (R404). -/
  | busMasterCleared
  /-- MATE_N low for tMATE_DEB counts as mated (R127). -/
  | mateDebounced
  /-- MATE_N high for tMATE_FILT turns all feed gates off and sends both feeds to OFF (R128). -/
  | mateBreak
  /-- Every tWEAR_SAVE the bank wear is saved to the logbook (R146). -/
  | wearSave
  /-- VSYS below V_HDR_VIN_OFF for tVIN_FILT moves the pump to INPUT_LOW (R203). -/
  | pumpInputLow
  /-- An overload lasting tHDR_SHED with SHED_EN = 1 drains every rail outside the hold set (R205). -/
  | overloadShed
  /-- An overload persisting a further tHDR_SHED reports PERSIST_OVERLOAD (R205). -/
  | persistOverload
  /-- After a chip reset, once tOFF_MIN has passed since the last output stop, the auto prime starts (R242). -/
  | autoPrimeStart
  /-- The end of a reset drain lets the host or watchdog chip reset take effect (R242). -/
  | resetDrainDone
  /-- After the last request clears and tPFW_MIN ends, PFW_N is released (R264). -/
  | pfwRelease
  /-- A session reaching tPT_MAX ends with all of its kinds (R305). -/
  | ptSessionExpiry
  /-- The well sourcing above I_HO_DET for tHO_DET with the pump input-low, lost or yielding enters HOLD and asserts PFW
  (R318). -/
  | handoverDetect
  /-- After tHO_LEAD the shed drain starts (R318). -/
  | handoverLeadEnd
  /-- Once the hand-over is complete and a feed is stable (and the clean time has passed after a pre-emptive hand-over),
  the pump starts the hand-back (R322). -/
  | handbackStart
  /-- At the end of tHB_RAMP the pump regulates, the device enters RUN and the restart prime follows (R322). -/
  | handbackRampEnd
  /-- tCHG_DWELL after hand-back the charger enters QUAL (R322). -/
  | chgDwellEnd
  /-- WELL_BAT at or below V_CUT × CELLS for tCUT runs the cutoff drain, or opens the valve in SAFE (R323). -/
  | holdupCutoff
  /-- A valve drop above V_VALVE_DROP for 10 ms sets VALVE_FAULT (R314). -/
  | valveFault
  /-- A precharge or fast-charge timer expiry stops charging and latches CHG_FAULT (R328). -/
  | chargeTimerExpiry
  /-- Pack current below I_EOD for t_EOD ends the draw and learns or rejects the capacity (R346). -/
  | endOfDischarge
  /-- Every tZ_SAVE the impedance table and EST_EFC are saved (R350). -/
  | impedanceSave
  /-- PRESENT_N low for tPRES_DEB moves SOLE to LINKING (R368). -/
  | presentDebounced
  /-- A PRESENT_N break held for tPRES_FILT declares removal, and this device carries every closed slot (R374). -/
  | partnerRemoval
  /-- 16 consecutive heartbeats bring the link up and start the agreement check (R365). -/
  | twinLinkUp
  /-- No heartbeat within tHB_LOSS enters UNLINKED with droop (R365). -/
  | heartbeatLoss
  /-- If the link is not up within tLINK_WAIT, LINKING moves to UNLINKED (R368). -/
  | linkWaitTimeout
  /-- A complete 200-byte mirror with a valid CRC replaces the partner's mirror (R366). -/
  | mirrorPass
  /-- A received LEAVE_REQ is answered with LEAVE_ACK or LEAVE_NAK (R373). -/
  | leaveReq
  /-- A received LEND_REQ issues the twin-side lend request (R375). -/
  | lendReq
  /-- A received LEND_STOP stops lend mode (R375). -/
  | twinLendStop
  /-- EJECT_N low for tEJECT_DEB requests a leave (R373). -/
  | ejectDebounced
  /-- At the boundary in LEAVE_ACK, TIME_REF passes to the partner and the leaver's share ramps down (R373). -/
  | leaveBoundary
  /-- In HOLD with PRESENT_N low for tLEND_WAIT and no link up, AUTO_LEND starts lend (R375). -/
  | autoLendWaitEnd
  /-- No valid outbound frame within tMET_LINK marks the link lost (R432). -/
  | metLinkLoss
  /-- tMET_PROBE after the first auto prime ends, probing stops and MET_FITTED stays as found (R433). -/
  | metProbeEnd
  /-- No TIME for tMET_TIME_LOSS falls back to the 1 s own-oscillator cadence (R445). -/
  | metTimeLoss
  /-- The seal completes within tSEAL and the die is SEALED (R442). -/
  | sealDone
  /-- No crystal edge within tXTAL_DET switches the RTC to the fall-back oscillator (R454). -/
  | xtalFail
  /-- A crystal running for tXTAL_OK returns the RTC to the crystal (R454). -/
  | xtalQualified
  /-- At each second carry the calendar advances and the alarms are evaluated (R461). -/
  | rtcSecond
  /-- The last shift unit is applied and RTC event 0x06 is raised (R458). -/
  | shiftComplete
  /-- After tHRST, HOST_RST_N is released (R481). -/
  | hostResetPulseEnd
  /-- A fault-free tLADDER after every slot has served returns the ladder to step 0 (R480). -/
  | ladderReturn
  /-- tWDT_CLEAN with no fault clears ATTEMPTS (R482). -/
  | attemptsClear
  /-- Every tTOKEN one logbook token accrues, up to N_TOKEN_MAX (R502). -/
  | tokenAccrual
  /-- The host returns the function from D3hot to D0, and fetch, record writes and messages resume with the rings in their
  kept state (R404). -/
  | d0Entry
  /-- The held share of each 1 ms back-pressure period ends and DMA to the masked record rings may resume (R302). -/
  | recordBackPressureEnd
  /-- 1.5 s after the last PPS edge TB_STAT.PPS_SEEN clears, producing a status-change record (R113). -/
  | ppsSeenTimeout
deriving DecidableEq, Repr

end Sys2Proof
end

