-- ==== Sys2Proof/Decode.lean ====
section
/-! DEFINITION. The table gives none of its rows bits: no word spells a command, and every command comes with its operands in
the queue. -/

namespace Sys2Proof

/-- The command that a word of the table's bits spells: none. -/
def decodeTableWord (_nbits _w : Nat) : Option Instr := none

end Sys2Proof
end

