-- ==== Sys2Proof/Config.lean ====
section
/-! DEFINITION. What the spec leaves open: values that nothing constrains. Each is an opaque constant with no body, applied
to the number of free values drawn so far (`State.free`) or to what it depends on, so that no proof can rest on a value
of it. -/

namespace Sys2Proof

/-- The output voltage of a rail in mV that the device senses, by rail and time. -/
opaque Config.railMilliVolts : Nat → Nat → Nat

/-- The last digit of a sinc^N decimator's output over the samples of N whole strokes, newest stroke first: the spec gives its gain
to within 1 LSB and no rounding (R414). -/
opaque Config.sinc : Nat → List (List Nat) → Nat

/-- Strokes from the next boundary to the hand-over boundary that a LEAVE_ACK names (R373), by free value. -/
opaque Config.handOverDelay : Nat → Nat

/-- The SHA-256 digest over the metrology die's calibration region, whose byte layout the spec does not give, by the words
from I_GAIN on and the set-up code (R442). -/
opaque Config.sealDigest : List Nat → Nat

/-- What a seal that was cut off leaves as its digest (R442), by free value. -/
opaque Config.cutDigest : Nat → Nat

/-- Byte `i` of the metrology device key, which nothing can read (R447). -/
opaque Config.deviceKey : Nat → Byte

/-- The CAL_ID word, whose layout the spec does not give, and what the other words without a readable content read as,
by pointer (R441). -/
opaque Config.calWord : Nat → Nat

/-- A 12-bit extreme that does not fit its field, or of an interval without samples, by its value (R446). -/
opaque Config.metExtreme : Option Int → Nat

/-- A value midway between two codes rounds up (R446). -/
opaque Config.tieUp : Int → Bool

/-- How far the highest sector erase count leads the average, in 100 cycles, by the number of copies written (R502). -/
opaque Config.wearLead : Nat → Nat

/-- Which of several failing conditions within one commit check the device names (R71), by free value. -/
opaque Config.failPick : Nat → Nat

/-- A word of the VENDOR region (R490), by index. -/
opaque Config.vendorWord : Nat → Nat

/-- The bits of a word that an OTP command has burned when a chip reset cuts it off (R498), by free value. -/
opaque Config.partBurn : Nat → Nat

/-- The readings that a status register shows of a quantity the device measures without a command: by register key and
time. -/
opaque Config.measured : Nat → Nat → Nat

/-- What the loop converter of a rail samples, in LSB_E (R168), by rail, sense point and time in 156.25 ps. -/
opaque Config.feedback : Nat → Nat → Nat → Int

/-- The current of a rail's stage in mA that the device senses, by rail and time. -/
opaque Config.railMilliAmps : Nat → Nat → Int

/-- The slew in µV per µs at which the reference of an X channel or an LDO moves to a new setpoint: the spec gives these rails no
SR_DVS. -/
opaque Config.slewRate : Nat → Nat

/-- The current in 10 mA that the main pump may sink, where no rule sets it to 0. -/
opaque Config.pumpSink : Nat

/-- The slope in mA per mV with which the well's floor command falls to 0 through its band (R315). -/
opaque Config.floorSlope : Nat

/-- The discharge in mA, pack side, that holds VHDR at the well's floor (R315), by time. -/
opaque Config.floorDraw : Nat → Nat

/-- The charge current in mA that holds the pack at the charge voltage (R325), by that voltage in mV and time. -/
opaque Config.chargeNeed : Nat → Nat → Nat

/-- The discharge in mA at which WELL_BAT stays above the pack floor (R316), by the floor in mV and time. -/
opaque Config.packAllows : Nat → Nat → Nat

/-- The value that crossed its limit with an event whose command does not carry it (R281), by source, unit and time. -/
opaque Config.crossed : Nat → Nat → Nat → Int

/-- The 16 bits that hold a value outside their range (R281), by the value. -/
opaque Config.wideValue : Int → Nat

/-- By how many µV the reference of a twinned slot has to move for its own current to move by 10 mA, with which the share integrator closes
its error in tSHARE (R370), by slot. -/
opaque Config.shareGain : Nat → Nat

end Sys2Proof
end

