-- ==== Sys2Proof/Machine/Field.lean ====
section
/-! DEFINITION. What a register field is (R10 to R13): its place, its access type, its reset value, its keep class,
whether it is banked (R66), whether it is a running value (R61), and the values a write may give it. -/

namespace Sys2Proof.Machine

/-- The Type column of a register table (R10). -/
inductive FTyp where
  | rw | ro | rc | wo | rwv
deriving DecidableEq, Repr

/-- The Keep column of a register table (R12). -/
inductive Keep where
  | V | A | N | F
deriving DecidableEq, Repr

/-- One field of a register, at bits [hi:lo] of the register whose address (of instance 0) is `reg`. -/
structure Fld where
  reg : Nat
  hi : Nat
  lo : Nat
  typ : FTyp
  rst : Nat
  keep : Keep
  /-- the field has a staging and an active copy (R66) -/
  banked : Bool := false
  /-- the field is a running value: its changes form no status-change copy (R61) -/
  run : Bool := false
  /-- the values a write may give the field; empty for all (R56 check 8) -/
  rng : List (Nat × Nat) := []
deriving DecidableEq, Repr

/-- How an address of a register finds its instance. -/
inductive Win where
  /-- one register -/
  | one
  /-- `count` registers, `stride` bytes apart -/
  | arr (stride count : Nat)
  /-- each master has its own copy at the same address -/
  | perMaster
  /-- the context of the master's CTX_SEL -/
  | ctx
  /-- the channel, bank or segment of the master's CA_SEL -/
  | caCh | caBank | caSeg
  /-- the monitor of WM_SEL, the rail of SEQ_CNT_SEL -/
  | wm | cnt
  /-- the block of FH_SEL, the source of FC_SEL -/
  | fh | fc
  /-- the ring of HR_SEL -/
  | ring
  /-- the table point of EST_OCV_SEL, the table cell of EST_Z_SEL -/
  | ocv | zed
deriving DecidableEq, Repr

/-- A register of the map: the address of its instance 0, how its instances are found, and its fields. -/
structure RegSpec where
  base : Nat
  win : Win
  flds : List Fld
deriving DecidableEq, Repr

/-- The width of a field. -/
def Fld.width (f : Fld) : Nat := f.hi - f.lo + 1

/-- The key under which instance `i` of a field is held. -/
def Fld.key (f : Fld) (i : Nat) : Nat := i * 0x100000 + f.reg * 32 + f.lo

/-- A control-register field: read and write, voted or not (R53). -/
def Fld.isCtl (f : Fld) : Bool := f.typ == .rw || f.typ == .rwv

/-- The value lies within the field's own range (R56 check 8). -/
def Fld.inRange (f : Fld) (v : Nat) : Bool :=
  f.rng.isEmpty || f.rng.any (fun r => decide (r.1 ≤ v) && decide (v ≤ r.2))

/-- The field's value within a register word. -/
def Fld.ofWord (f : Fld) (w : Nat) : Nat := bitsOf w f.hi f.lo

/-- A register whose fields are all RW or RWV, apart from reserved bits (R53). -/
def RegSpec.isControl (r : RegSpec) : Bool := !r.flds.isEmpty && r.flds.all Fld.isCtl

/-- The bits of a register that no field covers: its reserved bits (R11). -/
def RegSpec.reservedMask (r : RegSpec) : Nat :=
  0xFFFFFFFF - r.flds.foldl (fun a f => a + (2 ^ f.width - 1) * 2 ^ f.lo) 0

/-- The instance that an address of an array of registers names. -/
def RegSpec.instAt (r : RegSpec) (addr : Nat) : Option Nat :=
  match r.win with
  | .arr stride count =>
    if r.base ≤ addr ∧ (addr - r.base) % stride = 0 ∧ (addr - r.base) / stride < count
    then some ((addr - r.base) / stride) else none
  | _ => if addr = r.base then some 0 else none

end Sys2Proof.Machine
end

