-- ==== Sys2Proof/Machine/RegMap.lean ====
section
/-! DEFINITION. The register map of the BRH-2460, one definition per field, written from the register tables of the
chapters (bits, type, reset value, keep class, range), and the list of registers in address order of their blocks
(R85). A field's docstring names its rule. Where instances of one register have different reset values, the field
holds the common one and `Fld.resetAt` (Machine/Ops.lean) gives the rest. -/

namespace Sys2Proof.Machine

namespace F

/-- ID.PART (R46). -/
def ID_PART : Fld := { reg := 0x0, hi := 31, lo := 16, typ := .ro, rst := 0x2460, keep := .V }
/-- ID.STEPPING (R46). -/
def ID_STEPPING : Fld := { reg := 0x0, hi := 15, lo := 8, typ := .ro, rst := 1, keep := .V }
/-- ID.MET_FITTED (R46). -/
def ID_MET_FITTED : Fld := { reg := 0x0, hi := 0, lo := 0, typ := .ro, rst := 0, keep := .V }
/-- PSTATE.LAST_RESET (R46). -/
def PSTATE_LAST_RESET : Fld := { reg := 0x10, hi := 14, lo := 12, typ := .ro, rst := 0, keep := .A }
/-- PSTATE.PREV_STATE (R46). -/
def PSTATE_PREV_STATE : Fld := { reg := 0x10, hi := 10, lo := 8, typ := .ro, rst := 0, keep := .A }
/-- PSTATE.STATE (R46). -/
def PSTATE_STATE : Fld := { reg := 0x10, hi := 2, lo := 0, typ := .ro, rst := 0, keep := .V }
/-- UNIT_STAT.DEGRADED (R46). -/
def UNIT_STAT_DEGRADED : Fld := { reg := 0x18, hi := 31, lo := 31, typ := .ro, rst := 0, keep := .V }
/-- UNIT_STAT.OSC_SEC_OK (R46). -/
def UNIT_STAT_OSC_SEC_OK : Fld := { reg := 0x18, hi := 23, lo := 23, typ := .ro, rst := 1, keep := .V }
/-- UNIT_STAT.OSC_PRI_OK (R46). -/
def UNIT_STAT_OSC_PRI_OK : Fld := { reg := 0x18, hi := 22, lo := 22, typ := .ro, rst := 1, keep := .V }
/-- UNIT_STAT.REF_OK (R46). -/
def UNIT_STAT_REF_OK : Fld := { reg := 0x18, hi := 21, lo := 19, typ := .ro, rst := 7, keep := .V }
/-- UNIT_STAT.SEQ_LANE_OK (R46). -/
def UNIT_STAT_SEQ_LANE_OK : Fld := { reg := 0x18, hi := 18, lo := 16, typ := .ro, rst := 7, keep := .V }
/-- UNIT_STAT.ISLAND_OK (R46). -/
def UNIT_STAT_ISLAND_OK : Fld := { reg := 0x18, hi := 8, lo := 0, typ := .ro, rst := 0x1ff, keep := .V }
/-- COMMIT_CTL.OWN_IDLE (R83). -/
def COMMIT_CTL_OWN_IDLE : Fld := { reg := 0x200, hi := 23, lo := 16, typ := .rw, rst := 0xa, keep := .F, rng := [(1, 255)] }
/-- COMMIT_CTL.OWNER_POLICY (R83). -/
def COMMIT_CTL_OWNER_POLICY : Fld := { reg := 0x200, hi := 9, lo := 8, typ := .rw, rst := 0, keep := .F, rng := [(0, 2)] }
/-- COMMIT_CTL.DISCARD (R83). -/
def COMMIT_CTL_DISCARD : Fld := { reg := 0x200, hi := 2, lo := 2, typ := .wo, rst := 0, keep := .V }
/-- COMMIT_CTL.ABORT (R83). -/
def COMMIT_CTL_ABORT : Fld := { reg := 0x200, hi := 1, lo := 1, typ := .wo, rst := 0, keep := .V }
/-- COMMIT_CTL.GO (R83). -/
def COMMIT_CTL_GO : Fld := { reg := 0x200, hi := 0, lo := 0, typ := .wo, rst := 0, keep := .V }
/-- COMMIT_AT_LO.AT (R83). -/
def COMMIT_AT_LO_AT : Fld := { reg := 0x204, hi := 31, lo := 0, typ := .rw, rst := 0, keep := .V }
/-- COMMIT_AT_HI.AT (R83). -/
def COMMIT_AT_HI_AT : Fld := { reg := 0x208, hi := 31, lo := 0, typ := .rw, rst := 0, keep := .V }
/-- COMMIT_STAT.ERR (R83). -/
def COMMIT_STAT_ERR : Fld := { reg := 0x20C, hi := 31, lo := 24, typ := .ro, rst := 0, keep := .V }
/-- COMMIT_STAT.CHECK (R83). -/
def COMMIT_STAT_CHECK : Fld := { reg := 0x20C, hi := 23, lo := 20, typ := .ro, rst := 0, keep := .V }
/-- COMMIT_STAT.OWNER (R83). -/
def COMMIT_STAT_OWNER : Fld := { reg := 0x20C, hi := 19, lo := 18, typ := .ro, rst := 0, keep := .V }
/-- COMMIT_STAT.STATE (R83). -/
def COMMIT_STAT_STATE : Fld := { reg := 0x20C, hi := 17, lo := 15, typ := .ro, rst := 0, keep := .V }
/-- COMMIT_STAT.ERR_ADDR (R83). -/
def COMMIT_STAT_ERR_ADDR : Fld := { reg := 0x20C, hi := 13, lo := 0, typ := .ro, rst := 0, keep := .V }
/-- COMMIT_SEQ.COUNT (R83). -/
def COMMIT_SEQ_COUNT : Fld := { reg := 0x210, hi := 15, lo := 0, typ := .ro, rst := 0, keep := .V }
/-- ACTIVE_CRC.CRC (R83). -/
def ACTIVE_CRC_CRC : Fld := { reg := 0x214, hi := 31, lo := 0, typ := .ro, rst := 0, keep := .V }
/-- SWAP_TIME.TIME (R83). -/
def SWAP_TIME_TIME : Fld := { reg := 0x218, hi := 63, lo := 0, typ := .ro, rst := 0, keep := .V }
/-- VIEW.ACTIVE (R83). -/
def VIEW_ACTIVE : Fld := { reg := 0x220, hi := 0, lo := 0, typ := .rw, rst := 0, keep := .V }
/-- LAST_ERR.CODE (R83). -/
def LAST_ERR_CODE : Fld := { reg := 0x224, hi := 31, lo := 24, typ := .rc, rst := 0, keep := .V }
/-- LAST_ERR.COUNT (R83). -/
def LAST_ERR_COUNT : Fld := { reg := 0x224, hi := 23, lo := 16, typ := .rc, rst := 0, keep := .V }
/-- LAST_ERR.ADDR (R83). -/
def LAST_ERR_ADDR : Fld := { reg := 0x224, hi := 13, lo := 0, typ := .rc, rst := 0, keep := .V }
/-- SCRUB.FIX_COUNT (R83). -/
def SCRUB_FIX_COUNT : Fld := { reg := 0x230, hi := 31, lo := 16, typ := .rc, rst := 0, keep := .V }
/-- SCRUB.PASS_COUNT (R83). -/
def SCRUB_PASS_COUNT : Fld := { reg := 0x230, hi := 15, lo := 0, typ := .ro, rst := 0, keep := .V, run := true }
/-- VOTE_STAT.ACTIVE_VOTE_LOST (R83). -/
def VOTE_STAT_ACTIVE_VOTE_LOST : Fld := { reg := 0x234, hi := 31, lo := 31, typ := .rc, rst := 0, keep := .V }
/-- VOTE_STAT.STAGE_VOTE_LOST (R83). -/
def VOTE_STAT_STAGE_VOTE_LOST : Fld := { reg := 0x234, hi := 30, lo := 30, typ := .rc, rst := 0, keep := .V }
/-- VOTE_STAT.ADDR (R83). -/
def VOTE_STAT_ADDR : Fld := { reg := 0x234, hi := 13, lo := 0, typ := .ro, rst := 0, keep := .V }
/-- TWB_CFG.ADDR (R83). -/
def TWB_CFG_ADDR : Fld := { reg := 0x240, hi := 6, lo := 0, typ := .ro, rst := 0x4c, keep := .V }
/-- TWB_STAT.BUSY_NACKS (R83). -/
def TWB_STAT_BUSY_NACKS : Fld := { reg := 0x244, hi := 31, lo := 16, typ := .rc, rst := 0, keep := .V }
/-- TWB_STAT.RA_END (R83). -/
def TWB_STAT_RA_END : Fld := { reg := 0x244, hi := 4, lo := 4, typ := .rc, rst := 0, keep := .V }
/-- TWB_STAT.TIMEOUT (R83). -/
def TWB_STAT_TIMEOUT : Fld := { reg := 0x244, hi := 3, lo := 3, typ := .rc, rst := 0, keep := .V }
/-- TWB_STAT.PARTIAL (R83). -/
def TWB_STAT_PARTIAL : Fld := { reg := 0x244, hi := 2, lo := 2, typ := .rc, rst := 0, keep := .V }
/-- TWB_STAT.TX_CONFLICT (R83). -/
def TWB_STAT_TX_CONFLICT : Fld := { reg := 0x244, hi := 1, lo := 1, typ := .rc, rst := 0, keep := .V }
/-- TWB_STAT.MISPLACED (R83). -/
def TWB_STAT_MISPLACED : Fld := { reg := 0x244, hi := 0, lo := 0, typ := .rc, rst := 0, keep := .V }
/-- MBX_REQ.OP (R84). -/
def MBX_REQ_OP : Fld := { reg := 0x3F00, hi := 31, lo := 30, typ := .wo, rst := 0, keep := .V }
/-- MBX_REQ.ADDR (R84). -/
def MBX_REQ_ADDR : Fld := { reg := 0x3F00, hi := 13, lo := 0, typ := .wo, rst := 0, keep := .V }
/-- MBX_STAT.ERR (R84). -/
def MBX_STAT_ERR : Fld := { reg := 0x3F04, hi := 31, lo := 24, typ := .ro, rst := 0, keep := .V }
/-- MBX_STAT.LEN (R84). -/
def MBX_STAT_LEN : Fld := { reg := 0x3F04, hi := 3, lo := 2, typ := .ro, rst := 0, keep := .V }
/-- MBX_STAT.BUSY (R84). -/
def MBX_STAT_BUSY : Fld := { reg := 0x3F04, hi := 1, lo := 1, typ := .ro, rst := 0, keep := .V }
/-- MBX_STAT.VALID (R84). -/
def MBX_STAT_VALID : Fld := { reg := 0x3F04, hi := 0, lo := 0, typ := .ro, rst := 0, keep := .V }
/-- MBX_DATA0.DATA (R84). -/
def MBX_DATA0_DATA : Fld := { reg := 0x3F10, hi := 31, lo := 0, typ := .rw, rst := 0, keep := .V }
/-- MBX_DATA1.DATA (R84). -/
def MBX_DATA1_DATA : Fld := { reg := 0x3F14, hi := 31, lo := 0, typ := .rw, rst := 0, keep := .V }
/-- MBX_DATA2.DATA (R84). -/
def MBX_DATA2_DATA : Fld := { reg := 0x3F18, hi := 31, lo := 0, typ := .rw, rst := 0, keep := .V }
/-- MBX_DATA3.DATA (R84). -/
def MBX_DATA3_DATA : Fld := { reg := 0x3F1C, hi := 31, lo := 0, typ := .rw, rst := 0, keep := .V }
/-- TB_CFG.PHASE_OFS (R113). -/
def TB_CFG_PHASE_OFS : Fld := { reg := 0x400, hi := 31, lo := 16, typ := .rw, rst := 0, keep := .F, banked := true }
/-- TB_CFG.JUMP_MAX (R113). -/
def TB_CFG_JUMP_MAX : Fld := { reg := 0x400, hi := 15, lo := 12, typ := .rw, rst := 4, keep := .F, banked := true, rng := [(1, 15)] }
/-- TB_CFG.RESID_LIM (R113). -/
def TB_CFG_RESID_LIM : Fld := { reg := 0x400, hi := 11, lo := 8, typ := .rw, rst := 2, keep := .F, banked := true, rng := [(1, 15)] }
/-- TB_CFG.NOM_60 (R113). -/
def TB_CFG_NOM_60 : Fld := { reg := 0x400, hi := 4, lo := 4, typ := .rw, rst := 0, keep := .F, banked := true }
/-- TB_CFG.REACQ_STEP (R113). -/
def TB_CFG_REACQ_STEP : Fld := { reg := 0x400, hi := 3, lo := 3, typ := .rw, rst := 0, keep := .F, banked := true }
/-- TB_CFG.PPS_EDGE (R113). -/
def TB_CFG_PPS_EDGE : Fld := { reg := 0x400, hi := 2, lo := 2, typ := .rw, rst := 0, keep := .F, banked := true }
/-- TB_CFG.PPS_EN (R113). -/
def TB_CFG_PPS_EN : Fld := { reg := 0x400, hi := 1, lo := 1, typ := .rw, rst := 0, keep := .F, banked := true }
/-- TB_CFG.MAINS_EN (R113). -/
def TB_CFG_MAINS_EN : Fld := { reg := 0x400, hi := 0, lo := 0, typ := .rw, rst := 1, keep := .F, banked := true }
/-- TB_STAT.REF_SEC (R113). -/
def TB_STAT_REF_SEC : Fld := { reg := 0x404, hi := 9, lo := 9, typ := .ro, rst := 0, keep := .V }
/-- TB_STAT.PPS_SEEN (R113). -/
def TB_STAT_PPS_SEEN : Fld := { reg := 0x404, hi := 8, lo := 8, typ := .ro, rst := 0, keep := .V }
/-- TB_STAT.AMPL_OK (R113). -/
def TB_STAT_AMPL_OK : Fld := { reg := 0x404, hi := 7, lo := 7, typ := .ro, rst := 0, keep := .V }
/-- TB_STAT.SLEWING (R113). -/
def TB_STAT_SLEWING : Fld := { reg := 0x404, hi := 6, lo := 6, typ := .ro, rst := 0, keep := .V }
/-- TB_STAT.ALIGNED (R113). -/
def TB_STAT_ALIGNED : Fld := { reg := 0x404, hi := 5, lo := 5, typ := .ro, rst := 0, keep := .V }
/-- TB_STAT.COUNT_SUSPECT (R113). -/
def TB_STAT_COUNT_SUSPECT : Fld := { reg := 0x404, hi := 4, lo := 4, typ := .ro, rst := 0, keep := .V }
/-- TB_STAT.LOCK (R113). -/
def TB_STAT_LOCK : Fld := { reg := 0x404, hi := 2, lo := 0, typ := .ro, rst := 0, keep := .V }
/-- TB_FREQ.FREQ (R113). -/
def TB_FREQ_FREQ : Fld := { reg := 0x408, hi := 16, lo := 0, typ := .ro, rst := 0, keep := .V, run := true }
/-- TB_EVT.LOSS (R113). -/
def TB_EVT_LOSS : Fld := { reg := 0x40C, hi := 31, lo := 24, typ := .rc, rst := 0, keep := .V }
/-- TB_EVT.JUMP (R113). -/
def TB_EVT_JUMP : Fld := { reg := 0x40C, hi := 23, lo := 16, typ := .rc, rst := 0, keep := .V }
/-- TB_EVT.REACQ (R113). -/
def TB_EVT_REACQ : Fld := { reg := 0x40C, hi := 15, lo := 8, typ := .rc, rst := 0, keep := .V }
/-- TB_EVT.ALIGN (R113). -/
def TB_EVT_ALIGN : Fld := { reg := 0x40C, hi := 7, lo := 0, typ := .rc, rst := 0, keep := .V }
/-- TB_HOLD.STROKES (R113). -/
def TB_HOLD_STROKES : Fld := { reg := 0x410, hi := 31, lo := 0, typ := .ro, rst := 0, keep := .V, run := true }
/-- TB_NOW.TIME (R113). -/
def TB_NOW_TIME : Fld := { reg := 0x418, hi := 63, lo := 0, typ := .ro, rst := 0, keep := .V }
/-- PPS_CAPT.TIME (R113). -/
def PPS_CAPT_TIME : Fld := { reg := 0x420, hi := 63, lo := 0, typ := .ro, rst := 0, keep := .V }
/-- ALIGN_TIME.TIME (R113). -/
def ALIGN_TIME_TIME : Fld := { reg := 0x428, hi := 63, lo := 0, typ := .rw, rst := 0, keep := .V }
/-- ALIGN_CTL.STEP_STROKES (R113). -/
def ALIGN_CTL_STEP_STROKES : Fld := { reg := 0x430, hi := 31, lo := 8, typ := .rw, rst := 0, keep := .V }
/-- ALIGN_CTL.STEP (R113). -/
def ALIGN_CTL_STEP : Fld := { reg := 0x430, hi := 1, lo := 1, typ := .wo, rst := 0, keep := .V }
/-- ALIGN_CTL.ARM (R113). -/
def ALIGN_CTL_ARM : Fld := { reg := 0x430, hi := 0, lo := 0, typ := .wo, rst := 0, keep := .V }
/-- ALIGN_STAT.RESULT (R113). -/
def ALIGN_STAT_RESULT : Fld := { reg := 0x434, hi := 31, lo := 24, typ := .ro, rst := 0, keep := .V }
/-- ALIGN_STAT.PENDING (R113). -/
def ALIGN_STAT_PENDING : Fld := { reg := 0x434, hi := 16, lo := 16, typ := .ro, rst := 0, keep := .V }
/-- ALIGN_STAT.RESID (R113). -/
def ALIGN_STAT_RESID : Fld := { reg := 0x434, hi := 15, lo := 0, typ := .ro, rst := 0, keep := .V }
/-- SCH_CTL.EN (R114). -/
def SCH_CTL_EN : Fld := { reg := 0x600, hi := 0, lo := 0, typ := .rw, rst := 1, keep := .F, banked := true }
/-- CTX_SEL.INDEX (R114). -/
def CTX_SEL_INDEX : Fld := { reg := 0x604, hi := 6, lo := 0, typ := .rw, rst := 0, keep := .V }
/-- CTX_CFG.MODE (R114). -/
def CTX_CFG_MODE : Fld := { reg := 0x610, hi := 31, lo := 30, typ := .rw, rst := 0, keep := .F, banked := true }
/-- CTX_CFG.LOCK_REQ (R114). -/
def CTX_CFG_LOCK_REQ : Fld := { reg := 0x610, hi := 29, lo := 29, typ := .rw, rst := 0, keep := .F, banked := true }
/-- CTX_CFG.NSTEPS (R114). -/
def CTX_CFG_NSTEPS : Fld := { reg := 0x610, hi := 28, lo := 24, typ := .rw, rst := 1, keep := .F, banked := true, rng := [(1, 16)] }
/-- CTX_CFG.ONESHOT (R114). -/
def CTX_CFG_ONESHOT : Fld := { reg := 0x610, hi := 23, lo := 23, typ := .rw, rst := 0, keep := .F, banked := true }
/-- CTX_CFG.DEADLINE (R114). -/
def CTX_CFG_DEADLINE : Fld := { reg := 0x610, hi := 19, lo := 0, typ := .rw, rst := 0x10000, keep := .F, banked := true, rng := [(1, 1048575)] }
/-- CTX_PER.PERIOD (R114). -/
def CTX_PER_PERIOD : Fld := { reg := 0x614, hi := 31, lo := 16, typ := .rw, rst := 1, keep := .F, banked := true, rng := [(1, 65535)] }
/-- CTX_PER.MODULO (R114). -/
def CTX_PER_MODULO : Fld := { reg := 0x614, hi := 15, lo := 0, typ := .rw, rst := 0, keep := .F, banked := true }
/-- CTX_SLOT.SLOT (R114). -/
def CTX_SLOT_SLOT : Fld := { reg := 0x618, hi := 7, lo := 0, typ := .rw, rst := 0, keep := .F, banked := true }
/-- CTX_LAUNCH.TIME (R114). -/
def CTX_LAUNCH_TIME : Fld := { reg := 0x620, hi := 63, lo := 0, typ := .rw, rst := 0, keep := .F, banked := true }
/-- CTX_STEP0.STEP (R114). -/
def CTX_STEP0_STEP : Fld := { reg := 0x630, hi := 31, lo := 0, typ := .rw, rst := 0, keep := .F, banked := true }
/-- CTX_STEP1.STEP (R114). -/
def CTX_STEP1_STEP : Fld := { reg := 0x634, hi := 31, lo := 0, typ := .rw, rst := 0, keep := .F, banked := true }
/-- CTX_STEP2.STEP (R114). -/
def CTX_STEP2_STEP : Fld := { reg := 0x638, hi := 31, lo := 0, typ := .rw, rst := 0, keep := .F, banked := true }
/-- CTX_STEP3.STEP (R114). -/
def CTX_STEP3_STEP : Fld := { reg := 0x63C, hi := 31, lo := 0, typ := .rw, rst := 0, keep := .F, banked := true }
/-- CTX_STEP4.STEP (R114). -/
def CTX_STEP4_STEP : Fld := { reg := 0x640, hi := 31, lo := 0, typ := .rw, rst := 0, keep := .F, banked := true }
/-- CTX_STEP5.STEP (R114). -/
def CTX_STEP5_STEP : Fld := { reg := 0x644, hi := 31, lo := 0, typ := .rw, rst := 0, keep := .F, banked := true }
/-- CTX_STEP6.STEP (R114). -/
def CTX_STEP6_STEP : Fld := { reg := 0x648, hi := 31, lo := 0, typ := .rw, rst := 0, keep := .F, banked := true }
/-- CTX_STEP7.STEP (R114). -/
def CTX_STEP7_STEP : Fld := { reg := 0x64C, hi := 31, lo := 0, typ := .rw, rst := 0, keep := .F, banked := true }
/-- CTX_STEP8.STEP (R114). -/
def CTX_STEP8_STEP : Fld := { reg := 0x650, hi := 31, lo := 0, typ := .rw, rst := 0, keep := .F, banked := true }
/-- CTX_STEP9.STEP (R114). -/
def CTX_STEP9_STEP : Fld := { reg := 0x654, hi := 31, lo := 0, typ := .rw, rst := 0, keep := .F, banked := true }
/-- CTX_STEP10.STEP (R114). -/
def CTX_STEP10_STEP : Fld := { reg := 0x658, hi := 31, lo := 0, typ := .rw, rst := 0, keep := .F, banked := true }
/-- CTX_STEP11.STEP (R114). -/
def CTX_STEP11_STEP : Fld := { reg := 0x65C, hi := 31, lo := 0, typ := .rw, rst := 0, keep := .F, banked := true }
/-- CTX_STEP12.STEP (R114). -/
def CTX_STEP12_STEP : Fld := { reg := 0x660, hi := 31, lo := 0, typ := .rw, rst := 0, keep := .F, banked := true }
/-- CTX_STEP13.STEP (R114). -/
def CTX_STEP13_STEP : Fld := { reg := 0x664, hi := 31, lo := 0, typ := .rw, rst := 0, keep := .F, banked := true }
/-- CTX_STEP14.STEP (R114). -/
def CTX_STEP14_STEP : Fld := { reg := 0x668, hi := 31, lo := 0, typ := .rw, rst := 0, keep := .F, banked := true }
/-- CTX_STEP15.STEP (R114). -/
def CTX_STEP15_STEP : Fld := { reg := 0x66C, hi := 31, lo := 0, typ := .rw, rst := 0, keep := .F, banked := true }
/-- CTX_STAT.STATE (R114). -/
def CTX_STAT_STATE : Fld := { reg := 0x670, hi := 31, lo := 28, typ := .ro, rst := 0, keep := .V }
/-- CTX_STAT.LAST_STEP (R114). -/
def CTX_STAT_LAST_STEP : Fld := { reg := 0x670, hi := 27, lo := 24, typ := .ro, rst := 0, keep := .V }
/-- CTX_STAT.ERR (R114). -/
def CTX_STAT_ERR : Fld := { reg := 0x670, hi := 23, lo := 16, typ := .ro, rst := 0, keep := .V }
/-- CTX_STAT.RUNS (R114). -/
def CTX_STAT_RUNS : Fld := { reg := 0x670, hi := 15, lo := 0, typ := .ro, rst := 0, keep := .V }
/-- CTX_MISSED.COUNT (R114). -/
def CTX_MISSED_COUNT : Fld := { reg := 0x674, hi := 15, lo := 0, typ := .rc, rst := 0, keep := .V }
/-- CTX_RUN.BUSY (R114). -/
def CTX_RUN_BUSY : Fld := { reg := 0x680, hi := 31, lo := 0, typ := .ro, rst := 0, keep := .V }
/-- SCH_STAT.CMD_SLOT_FULL (R114). -/
def SCH_STAT_CMD_SLOT_FULL : Fld := { reg := 0x690, hi := 31, lo := 16, typ := .rc, rst := 0, keep := .V }
/-- SCH_STAT.PEAK (R114). -/
def SCH_STAT_PEAK : Fld := { reg := 0x690, hi := 3, lo := 0, typ := .rc, rst := 0, keep := .V }
/-- SCH_ERR.VALID (R114). -/
def SCH_ERR_VALID : Fld := { reg := 0x694, hi := 15, lo := 15, typ := .ro, rst := 0, keep := .V }
/-- SCH_ERR.STEP (R114). -/
def SCH_ERR_STEP : Fld := { reg := 0x694, hi := 11, lo := 8, typ := .ro, rst := 0, keep := .V }
/-- SCH_ERR.CTX (R114). -/
def SCH_ERR_CTX : Fld := { reg := 0x694, hi := 6, lo := 0, typ := .ro, rst := 0, keep := .V }
/-- PE_CFG.STABLE (R133). -/
def PE_CFG_STABLE : Fld := { reg := 0x800, hi := 31, lo := 24, typ := .rw, rst := 0x14, keep := .F, banked := true, rng := [(1, 255)] }
/-- PE_CFG.MATE_DEB (R133). -/
def PE_CFG_MATE_DEB : Fld := { reg := 0x800, hi := 23, lo := 16, typ := .rw, rst := 0x32, keep := .F, banked := true, rng := [(1, 255)] }
/-- PE_CFG.RETRY_T (R133). -/
def PE_CFG_RETRY_T : Fld := { reg := 0x800, hi := 15, lo := 8, typ := .rw, rst := 0xa, keep := .F, banked := true, rng := [(1, 255)] }
/-- PE_CFG.RETRY_MAX (R133). -/
def PE_CFG_RETRY_MAX : Fld := { reg := 0x800, hi := 7, lo := 4, typ := .rwv, rst := 3, keep := .F, banked := true }
/-- PE_CFG.OR_MODE (R133). -/
def PE_CFG_OR_MODE : Fld := { reg := 0x800, hi := 3, lo := 2, typ := .rw, rst := 0, keep := .F, banked := true, rng := [(0, 2)] }
/-- PE_CFG.MATE_REQ (R133). -/
def PE_CFG_MATE_REQ : Fld := { reg := 0x800, hi := 1, lo := 1, typ := .rwv, rst := 1, keep := .F, banked := true }
/-- PE_BOARD.SHUNT_A (R133). -/
def PE_BOARD_SHUNT_A : Fld := { reg := 0x804, hi := 31, lo := 24, typ := .rw, rst := 0x14, keep := .F, banked := true, rng := [(1, 255)] }
/-- PE_BOARD.SHUNT_B (R133). -/
def PE_BOARD_SHUNT_B : Fld := { reg := 0x804, hi := 23, lo := 16, typ := .rw, rst := 0x14, keep := .F, banked := true, rng := [(1, 255)] }
/-- PE_BOARD.C_VSYS (R133). -/
def PE_BOARD_C_VSYS : Fld := { reg := 0x804, hi := 15, lo := 0, typ := .rw, rst := 0x1d6, keep := .F, banked := true, rng := [(1, 65535)] }
/-- PE_CTL.CLR_B (R133). -/
def PE_CTL_CLR_B : Fld := { reg := 0x808, hi := 1, lo := 1, typ := .wo, rst := 0, keep := .V }
/-- PE_CTL.CLR_A (R133). -/
def PE_CTL_CLR_A : Fld := { reg := 0x808, hi := 0, lo := 0, typ := .wo, rst := 0, keep := .V }
/-- PE_STAT.NO_FEED (R133). -/
def PE_STAT_NO_FEED : Fld := { reg := 0x80C, hi := 6, lo := 6, typ := .ro, rst := 1, keep := .V }
/-- PE_STAT.MATE (R133). -/
def PE_STAT_MATE : Fld := { reg := 0x80C, hi := 5, lo := 5, typ := .ro, rst := 0, keep := .V }
/-- PE_STAT.MATE_RAW (R133). -/
def PE_STAT_MATE_RAW : Fld := { reg := 0x80C, hi := 4, lo := 4, typ := .ro, rst := 0, keep := .V }
/-- PE_STAT.CARRY (R133). -/
def PE_STAT_CARRY : Fld := { reg := 0x80C, hi := 3, lo := 2, typ := .ro, rst := 0, keep := .V }
/-- PE_STAT.VALID_B (R133). -/
def PE_STAT_VALID_B : Fld := { reg := 0x80C, hi := 1, lo := 1, typ := .ro, rst := 0, keep := .V }
/-- PE_STAT.VALID_A (R133). -/
def PE_STAT_VALID_A : Fld := { reg := 0x80C, hi := 0, lo := 0, typ := .ro, rst := 0, keep := .V }
/-- FEED_WIN.UV (R133). -/
def FEED_WIN_UV : Fld := { reg := 0x810, hi := 31, lo := 24, typ := .rwv, rst := 0x44, keep := .F, banked := true, rng := [(64, 240)] }
/-- FEED_WIN.UV_HYS (R133). -/
def FEED_WIN_UV_HYS : Fld := { reg := 0x810, hi := 23, lo := 20, typ := .rwv, rst := 4, keep := .F, banked := true, rng := [(1, 15)] }
/-- FEED_WIN.OV (R133). -/
def FEED_WIN_OV : Fld := { reg := 0x810, hi := 15, lo := 8, typ := .rwv, rst := 0xb0, keep := .F, banked := true, rng := [(60, 190)] }
/-- FEED_CB.V_CB (R133). -/
def FEED_CB_V_CB : Fld := { reg := 0x814, hi := 31, lo := 24, typ := .rwv, rst := 0x64, keep := .F, banked := true, rng := [(20, 200)] }
/-- FEED_CB.T_CB (R133). -/
def FEED_CB_T_CB : Fld := { reg := 0x814, hi := 23, lo := 16, typ := .rwv, rst := 0x14, keep := .F, banked := true, rng := [(1, 200)] }
/-- FEED_CB.EN (R133). -/
def FEED_CB_EN : Fld := { reg := 0x814, hi := 0, lo := 0, typ := .rwv, rst := 1, keep := .F, banked := true }
/-- FEED_INRUSH.SR (R133). -/
def FEED_INRUSH_SR : Fld := { reg := 0x818, hi := 31, lo := 24, typ := .rw, rst := 0x14, keep := .F, banked := true, rng := [(5, 200)] }
/-- FEED_INRUSH.QUAL (R133). -/
def FEED_INRUSH_QUAL : Fld := { reg := 0x818, hi := 23, lo := 16, typ := .rw, rst := 0xa, keep := .F, banked := true, rng := [(1, 255)] }
/-- FEED_INRUSH.TMAX (R133). -/
def FEED_INRUSH_TMAX : Fld := { reg := 0x818, hi := 15, lo := 8, typ := .rw, rst := 0x3c, keep := .F, banked := true, rng := [(10, 255)] }
/-- FEED_STAT.STATE (R133). -/
def FEED_STAT_STATE : Fld := { reg := 0x81C, hi := 31, lo := 28, typ := .ro, rst := 0, keep := .V }
/-- FEED_STAT.VALID (R133). -/
def FEED_STAT_VALID : Fld := { reg := 0x81C, hi := 27, lo := 27, typ := .ro, rst := 0, keep := .V }
/-- FEED_STAT.STABLE (R133). -/
def FEED_STAT_STABLE : Fld := { reg := 0x81C, hi := 26, lo := 26, typ := .ro, rst := 0, keep := .V }
/-- FEED_STAT.OR_FWD (R133). -/
def FEED_STAT_OR_FWD : Fld := { reg := 0x81C, hi := 25, lo := 25, typ := .ro, rst := 0, keep := .V }
/-- FEED_STAT.PRESENT (R133). -/
def FEED_STAT_PRESENT : Fld := { reg := 0x81C, hi := 24, lo := 24, typ := .ro, rst := 0, keep := .V }
/-- FEED_STAT.RETRIES (R133). -/
def FEED_STAT_RETRIES : Fld := { reg := 0x81C, hi := 23, lo := 20, typ := .ro, rst := 0, keep := .V }
/-- FEED_STAT.CAUSE (R133). -/
def FEED_STAT_CAUSE : Fld := { reg := 0x81C, hi := 7, lo := 0, typ := .ro, rst := 0, keep := .V }
/-- FEED_EVT.TRIPS (R133). -/
def FEED_EVT_TRIPS : Fld := { reg := 0x820, hi := 31, lo := 24, typ := .rc, rst := 0, keep := .V }
/-- FEED_EVT.LOSSES (R133). -/
def FEED_EVT_LOSSES : Fld := { reg := 0x820, hi := 23, lo := 16, typ := .rc, rst := 0, keep := .V }
/-- FEED_EVT.BOUNCES (R133). -/
def FEED_EVT_BOUNCES : Fld := { reg := 0x820, hi := 15, lo := 8, typ := .rc, rst := 0, keep := .V }
/-- FEED_EVT.REVERSE (R133). -/
def FEED_EVT_REVERSE : Fld := { reg := 0x820, hi := 7, lo := 0, typ := .rc, rst := 0, keep := .V }
/-- FEED_MEAS.VOLT (R133). -/
def FEED_MEAS_VOLT : Fld := { reg := 0x824, hi := 31, lo := 16, typ := .ro, rst := 0, keep := .V, run := true }
/-- FEED_MEAS.CURR (R133). -/
def FEED_MEAS_CURR : Fld := { reg := 0x824, hi := 15, lo := 0, typ := .ro, rst := 0, keep := .V, run := true }
/-- PE_VSYS.VOLT (R133). -/
def PE_VSYS_VOLT : Fld := { reg := 0x850, hi := 15, lo := 0, typ := .ro, rst := 0, keep := .V, run := true }
/-- CA_SEL.SEG (R165). -/
def CA_SEL_SEG : Fld := { reg := 0x1200, hi := 26, lo := 16, typ := .rw, rst := 0, keep := .V }
/-- CA_SEL.ARRAY (R165). -/
def CA_SEL_ARRAY : Fld := { reg := 0x1200, hi := 8, lo := 8, typ := .rw, rst := 0, keep := .V }
/-- CA_SEL.CH (R165). -/
def CA_SEL_CH : Fld := { reg := 0x1200, hi := 3, lo := 0, typ := .rw, rst := 0, keep := .V, rng := [(0, 11)] }
/-- CA_SUMMARY.WORN (R165). -/
def CA_SUMMARY_WORN : Fld := { reg := 0x1204, hi := 27, lo := 16, typ := .ro, rst := 0, keep := .V }
/-- CA_SUMMARY.DERATED (R165). -/
def CA_SUMMARY_DERATED : Fld := { reg := 0x1204, hi := 11, lo := 0, typ := .ro, rst := 0, keep := .V }
/-- CA_GCFG.PROBE_CYC (R165). -/
def CA_GCFG_PROBE_CYC : Fld := { reg := 0x1208, hi := 31, lo := 24, typ := .rw, rst := 0x18, keep := .F, banked := true, rng := [(1, 255)] }
/-- CA_GCFG.SCAN_BG (R165). -/
def CA_GCFG_SCAN_BG : Fld := { reg := 0x1208, hi := 23, lo := 16, typ := .rw, rst := 0xa, keep := .F, banked := true, rng := [(1, 255)] }
/-- CA_GCFG.FLUSH_MAX (R165). -/
def CA_GCFG_FLUSH_MAX : Fld := { reg := 0x1208, hi := 11, lo := 8, typ := .rwv, rst := 8, keep := .F, banked := true, rng := [(1, 15)] }
/-- CA_CFG.ADAPT_EN (R165). -/
def CA_CFG_ADAPT_EN : Fld := { reg := 0x1210, hi := 31, lo := 31, typ := .rw, rst := 1, keep := .F, banked := true }
/-- CA_CFG.MIN_BANKS (R165). -/
def CA_CFG_MIN_BANKS : Fld := { reg := 0x1210, hi := 27, lo := 24, typ := .rw, rst := 0, keep := .F, banked := true }
/-- CA_CFG.ADAPT_HOLD (R165). -/
def CA_CFG_ADAPT_HOLD : Fld := { reg := 0x1210, hi := 23, lo := 16, typ := .rw, rst := 0x14, keep := .F, banked := true, rng := [(1, 255)] }
/-- CA_CFG.STEP_DET (R165). -/
def CA_CFG_STEP_DET : Fld := { reg := 0x1210, hi := 15, lo := 8, typ := .rw, rst := 0x19, keep := .F, banked := true, rng := [(5, 100)] }
/-- CA_CFG.REST (R165). -/
def CA_CFG_REST : Fld := { reg := 0x1210, hi := 7, lo := 4, typ := .rw, rst := 2, keep := .F, banked := true, rng := [(0, 4)] }
/-- CA_ROT.ROT_PERIOD (R165). -/
def CA_ROT_ROT_PERIOD : Fld := { reg := 0x1214, hi := 31, lo := 16, typ := .rw, rst := 0xbb8, keep := .F, banked := true, rng := [(1, 65535)] }
/-- CA_ROT.ROT_SLOT (R165). -/
def CA_ROT_ROT_SLOT : Fld := { reg := 0x1214, hi := 15, lo := 8, typ := .rw, rst := 0, keep := .F, banked := true }
/-- CA_ROT.ROT_AUTO (R165). -/
def CA_ROT_ROT_AUTO : Fld := { reg := 0x1214, hi := 0, lo := 0, typ := .rw, rst := 1, keep := .F, banked := true }
/-- CA_PROBE.GLEAK_LIM (R165). -/
def CA_PROBE_GLEAK_LIM : Fld := { reg := 0x1218, hi := 31, lo := 24, typ := .rw, rst := 0xa, keep := .F, banked := true, rng := [(1, 255)] }
/-- CA_PROBE.VTH_LIM (R165). -/
def CA_PROBE_VTH_LIM : Fld := { reg := 0x1218, hi := 23, lo := 16, typ := .rw, rst := 0x1e, keep := .F, banked := true, rng := [(1, 255)] }
/-- CA_STAT.ACTIVE (R165). -/
def CA_STAT_ACTIVE : Fld := { reg := 0x1220, hi := 31, lo := 28, typ := .ro, rst := 0xf, keep := .V, run := true }
/-- CA_STAT.FROZEN (R165). -/
def CA_STAT_FROZEN : Fld := { reg := 0x1220, hi := 27, lo := 27, typ := .ro, rst := 0, keep := .V, run := true }
/-- CA_STAT.FLUSHING (R165). -/
def CA_STAT_FLUSHING : Fld := { reg := 0x1220, hi := 26, lo := 26, typ := .ro, rst := 0, keep := .V }
/-- CA_STAT.PROBING (R165). -/
def CA_STAT_PROBING : Fld := { reg := 0x1220, hi := 25, lo := 25, typ := .ro, rst := 0, keep := .V, run := true }
/-- CA_STAT.ROTATING (R165). -/
def CA_STAT_ROTATING : Fld := { reg := 0x1220, hi := 24, lo := 24, typ := .ro, rst := 0, keep := .V, run := true }
/-- CA_STAT.LOST (R165). -/
def CA_STAT_LOST : Fld := { reg := 0x1220, hi := 23, lo := 23, typ := .ro, rst := 0, keep := .V }
/-- CA_STAT.WORN (R165). -/
def CA_STAT_WORN : Fld := { reg := 0x1220, hi := 22, lo := 22, typ := .ro, rst := 0, keep := .V }
/-- CA_STAT.DERATED (R165). -/
def CA_STAT_DERATED : Fld := { reg := 0x1220, hi := 21, lo := 21, typ := .ro, rst := 0, keep := .V }
/-- CA_STAT.MAP_LOST (R165). -/
def CA_STAT_MAP_LOST : Fld := { reg := 0x1220, hi := 20, lo := 20, typ := .ro, rst := 0, keep := .V }
/-- CA_STAT.I_EFF (R165). -/
def CA_STAT_I_EFF : Fld := { reg := 0x1220, hi := 15, lo := 0, typ := .ro, rst := 0x1770, keep := .V }
/-- CA_COUNT.HS_RET (R165). -/
def CA_COUNT_HS_RET : Fld := { reg := 0x1224, hi := 26, lo := 16, typ := .ro, rst := 0, keep := .N }
/-- CA_COUNT.LS_RET (R165). -/
def CA_COUNT_LS_RET : Fld := { reg := 0x1224, hi := 10, lo := 0, typ := .ro, rst := 0, keep := .N }
/-- CA_EVT.FLUSH_OK (R165). -/
def CA_EVT_FLUSH_OK : Fld := { reg := 0x1228, hi := 31, lo := 24, typ := .rc, rst := 0, keep := .V }
/-- CA_EVT.FLUSH_FAIL (R165). -/
def CA_EVT_FLUSH_FAIL : Fld := { reg := 0x1228, hi := 23, lo := 16, typ := .rc, rst := 0, keep := .V }
/-- CA_EVT.UNCONF (R165). -/
def CA_EVT_UNCONF : Fld := { reg := 0x1228, hi := 15, lo := 8, typ := .rc, rst := 0, keep := .V }
/-- CA_EVT.EXT_SHORT (R165). -/
def CA_EVT_EXT_SHORT : Fld := { reg := 0x1228, hi := 7, lo := 0, typ := .rc, rst := 0, keep := .V }
/-- CA_LAST.ARRAY (R165). -/
def CA_LAST_ARRAY : Fld := { reg := 0x122C, hi := 31, lo := 31, typ := .ro, rst := 0, keep := .N }
/-- CA_LAST.SEG (R165). -/
def CA_LAST_SEG : Fld := { reg := 0x122C, hi := 26, lo := 16, typ := .ro, rst := 0, keep := .N }
/-- CA_LAST.CAUSE (R165). -/
def CA_LAST_CAUSE : Fld := { reg := 0x122C, hi := 10, lo := 8, typ := .ro, rst := 0, keep := .N }
/-- CA_BANK.DRIVER_OK (R165). -/
def CA_BANK_DRIVER_OK : Fld := { reg := 0x1230, hi := 31, lo := 31, typ := .ro, rst := 1, keep := .N }
/-- CA_BANK.ACTIVE (R165). -/
def CA_BANK_ACTIVE : Fld := { reg := 0x1230, hi := 30, lo := 30, typ := .ro, rst := 0, keep := .V }
/-- CA_BANK.RESTING (R165). -/
def CA_BANK_RESTING : Fld := { reg := 0x1230, hi := 23, lo := 16, typ := .ro, rst := 0, keep := .V }
/-- CA_BANK.RETIRED (R165). -/
def CA_BANK_RETIRED : Fld := { reg := 0x1230, hi := 15, lo := 8, typ := .ro, rst := 0, keep := .N }
/-- CA_BANK.GOOD (R165). -/
def CA_BANK_GOOD : Fld := { reg := 0x1230, hi := 7, lo := 0, typ := .ro, rst := 0x40, keep := .V }
/-- CA_WEAR.WEAR (R165). -/
def CA_WEAR_WEAR : Fld := { reg := 0x1234, hi := 31, lo := 0, typ := .ro, rst := 0, keep := .N, run := true }
/-- CA_SEG.CAUSE (R165). -/
def CA_SEG_CAUSE : Fld := { reg := 0x1238, hi := 10, lo := 8, typ := .ro, rst := 0, keep := .N }
/-- CA_SEG.SUSPECT (R165). -/
def CA_SEG_SUSPECT : Fld := { reg := 0x1238, hi := 7, lo := 7, typ := .ro, rst := 0, keep := .V }
/-- CA_SEG.LINK_OPEN (R165). -/
def CA_SEG_LINK_OPEN : Fld := { reg := 0x1238, hi := 6, lo := 6, typ := .ro, rst := 0, keep := .V }
/-- CA_SEG.GATE_EN (R165). -/
def CA_SEG_GATE_EN : Fld := { reg := 0x1238, hi := 5, lo := 5, typ := .ro, rst := 0, keep := .V }
/-- CA_SEG.HEALTH (R165). -/
def CA_SEG_HEALTH : Fld := { reg := 0x1238, hi := 2, lo := 0, typ := .ro, rst := 0, keep := .N }
/-- CA_CTL.KEY (R165). -/
def CA_CTL_KEY : Fld := { reg := 0x123C, hi := 31, lo := 24, typ := .wo, rst := 0, keep := .V }
/-- CA_CTL.RETIRE (R165). -/
def CA_CTL_RETIRE : Fld := { reg := 0x123C, hi := 3, lo := 3, typ := .wo, rst := 0, keep := .V }
/-- CA_CTL.ROTATE (R165). -/
def CA_CTL_ROTATE : Fld := { reg := 0x123C, hi := 2, lo := 2, typ := .wo, rst := 0, keep := .V }
/-- CA_CTL.SCAN (R165). -/
def CA_CTL_SCAN : Fld := { reg := 0x123C, hi := 1, lo := 1, typ := .wo, rst := 0, keep := .V }
/-- CA_CTL.PROBE (R165). -/
def CA_CTL_PROBE : Fld := { reg := 0x123C, hi := 0, lo := 0, typ := .wo, rst := 0, keep := .V }
/-- B_CFG.PAIR (R197). -/
def B_CFG_PAIR : Fld := { reg := 0xC00, hi := 31, lo := 31, typ := .rwv, rst := 0, keep := .F, banked := true }
/-- B_CFG.SNS_LOCAL (R197). -/
def B_CFG_SNS_LOCAL : Fld := { reg := 0xC00, hi := 30, lo := 30, typ := .rw, rst := 0, keep := .F, banked := true }
/-- B_CFG.HICCUP_EN (R197). -/
def B_CFG_HICCUP_EN : Fld := { reg := 0xC00, hi := 29, lo := 29, typ := .rwv, rst := 0, keep := .F, banked := true }
/-- B_CFG.HICCUP_MAX (R197). -/
def B_CFG_HICCUP_MAX : Fld := { reg := 0xC00, hi := 28, lo := 25, typ := .rw, rst := 3, keep := .F, banked := true, rng := [(1, 15)] }
/-- B_CFG.PREBIAS (R197). -/
def B_CFG_PREBIAS : Fld := { reg := 0xC00, hi := 24, lo := 24, typ := .rw, rst := 1, keep := .F, banked := true }
/-- B_CFG.PHASE (R197). -/
def B_CFG_PHASE : Fld := { reg := 0xC00, hi := 21, lo := 16, typ := .rw, rst := 0, keep := .F, banked := true }
/-- B_CFG.PERIOD (R197). -/
def B_CFG_PERIOD : Fld := { reg := 0xC00, hi := 15, lo := 0, typ := .rw, rst := 0x1900, keep := .F, banked := true, rng := [(2667, 16000)] }
/-- B_VSET.VSET (R197). -/
def B_VSET_VSET : Fld := { reg := 0xC04, hi := 15, lo := 0, typ := .rwv, rst := 0xa0, keep := .F, banked := true, rng := [(100, 1100)] }
/-- B_VLIM.VMAX (R197). -/
def B_VLIM_VMAX : Fld := { reg := 0xC08, hi := 31, lo := 16, typ := .rwv, rst := 0x44c, keep := .F, banked := true, rng := [(100, 1100)] }
/-- B_VLIM.VMIN (R197). -/
def B_VLIM_VMIN : Fld := { reg := 0xC08, hi := 15, lo := 0, typ := .rwv, rst := 0x64, keep := .F, banked := true, rng := [(100, 1100)] }
/-- B_ILIM.I_NEG (R197). -/
def B_ILIM_I_NEG : Fld := { reg := 0xC0C, hi := 31, lo := 16, typ := .rwv, rst := 0x3e8, keep := .F, banked := true, rng := [(0, 3000)] }
/-- B_ILIM.ILIM (R197). -/
def B_ILIM_ILIM : Fld := { reg := 0xC0C, hi := 15, lo := 0, typ := .rwv, rst := 0x1770, keep := .F, banked := true, rng := [(100, 12000)] }
/-- B_LOOP.SLOPE (R197). -/
def B_LOOP_SLOPE : Fld := { reg := 0xC10, hi := 31, lo := 24, typ := .rwv, rst := 0x37, keep := .F, banked := true, rng := [(1, 255)] }
/-- B_LOOP.L_DECL (R197). -/
def B_LOOP_L_DECL : Fld := { reg := 0xC10, hi := 23, lo := 16, typ := .rw, rst := 0x32, keep := .F, banked := true, rng := [(17, 235)] }
/-- B_LOOP.DVS_SR (R197). -/
def B_LOOP_DVS_SR : Fld := { reg := 0xC10, hi := 15, lo := 8, typ := .rw, rst := 0xa, keep := .F, banked := true, rng := [(1, 255)] }
/-- B_COEF0.COEF (R197). -/
def B_COEF0_COEF : Fld := { reg := 0xC14, hi := 23, lo := 0, typ := .rwv, rst := 0xfadf, keep := .F, banked := true }
/-- B_COEF1.COEF (R197). -/
def B_COEF1_COEF : Fld := { reg := 0xC18, hi := 23, lo := 0, typ := .rwv, rst := 0xf48, keep := .F, banked := true }
/-- B_COEF2.COEF (R197). -/
def B_COEF2_COEF : Fld := { reg := 0xC1C, hi := 23, lo := 0, typ := .rwv, rst := 0xff1469, keep := .F, banked := true }
/-- B_COEF3.COEF (R197). -/
def B_COEF3_COEF : Fld := { reg := 0xC20, hi := 23, lo := 0, typ := .rwv, rst := 0x11ec, keep := .F, banked := true }
/-- B_COEF4.COEF (R197). -/
def B_COEF4_COEF : Fld := { reg := 0xC24, hi := 23, lo := 0, typ := .rwv, rst := 0xfffe14, keep := .F, banked := true }
/-- B_SS.STALL_MARGIN (R197). -/
def B_SS_STALL_MARGIN : Fld := { reg := 0xC28, hi := 31, lo := 24, typ := .rw, rst := 0x14, keep := .F, banked := true, rng := [(1, 255)] }
/-- B_SS.STALL_T (R197). -/
def B_SS_STALL_T : Fld := { reg := 0xC28, hi := 23, lo := 16, typ := .rw, rst := 0x32, keep := .F, banked := true, rng := [(1, 255)] }
/-- B_SS.HICCUP_T (R197). -/
def B_SS_HICCUP_T : Fld := { reg := 0xC28, hi := 15, lo := 8, typ := .rw, rst := 0xa, keep := .F, banked := true, rng := [(1, 255)] }
/-- B_SS.OC_T (R197). -/
def B_SS_OC_T : Fld := { reg := 0xC28, hi := 7, lo := 0, typ := .rwv, rst := 0xa, keep := .F, banked := true, rng := [(1, 255)] }
/-- B_DECL.I_LOAD (R197). -/
def B_DECL_I_LOAD : Fld := { reg := 0xC2C, hi := 15, lo := 0, typ := .rw, rst := 0, keep := .F, banked := true, rng := [(0, 12000)] }
/-- B_TEMP.T_SHUT (R197). -/
def B_TEMP_T_SHUT : Fld := { reg := 0xC30, hi := 31, lo := 24, typ := .rwv, rst := 0x82, keep := .F, banked := true, rng := [(100, 140)] }
/-- B_TEMP.T_WARN (R197). -/
def B_TEMP_T_WARN : Fld := { reg := 0xC30, hi := 23, lo := 16, typ := .rw, rst := 0x73, keep := .F, banked := true, rng := [(80, 135)] }
/-- B_TEL.TEL_WIN (R197). -/
def B_TEL_TEL_WIN : Fld := { reg := 0xC34, hi := 31, lo := 16, typ := .rw, rst := 0x64, keep := .F, banked := true, rng := [(1, 65535)] }
/-- B_TEL.REC_DIV (R197). -/
def B_TEL_REC_DIV : Fld := { reg := 0xC34, hi := 15, lo := 8, typ := .rw, rst := 0, keep := .F, banked := true }
/-- B_CTL.SNS_RETRY (R197). -/
def B_CTL_SNS_RETRY : Fld := { reg := 0xC38, hi := 0, lo := 0, typ := .wo, rst := 0, keep := .V }
/-- B_STAT.STATE (R197). -/
def B_STAT_STATE : Fld := { reg := 0xC40, hi := 31, lo := 28, typ := .ro, rst := 0, keep := .V }
/-- B_STAT.CTRL_SPARE (R197). -/
def B_STAT_CTRL_SPARE : Fld := { reg := 0xC40, hi := 27, lo := 27, typ := .ro, rst := 0, keep := .V }
/-- B_STAT.SOLO (R197). -/
def B_STAT_SOLO : Fld := { reg := 0xC40, hi := 26, lo := 26, typ := .ro, rst := 0, keep := .V }
/-- B_STAT.SNS_LOST (R197). -/
def B_STAT_SNS_LOST : Fld := { reg := 0xC40, hi := 25, lo := 25, typ := .ro, rst := 0, keep := .V }
/-- B_STAT.IN_LIMIT (R197). -/
def B_STAT_IN_LIMIT : Fld := { reg := 0xC40, hi := 24, lo := 24, typ := .ro, rst := 0, keep := .V, run := true }
/-- B_STAT.T_WARN (R197). -/
def B_STAT_T_WARN : Fld := { reg := 0xC40, hi := 23, lo := 23, typ := .ro, rst := 0, keep := .V }
/-- B_STAT.SPARE_FREE (R197). -/
def B_STAT_SPARE_FREE : Fld := { reg := 0xC40, hi := 22, lo := 22, typ := .ro, rst := 1, keep := .V }
/-- B_STAT.ILIM_RUN (R197). -/
def B_STAT_ILIM_RUN : Fld := { reg := 0xC40, hi := 15, lo := 0, typ := .ro, rst := 0x1770, keep := .V }
/-- B_TEL_VI.I_AVG (R197). -/
def B_TEL_VI_I_AVG : Fld := { reg := 0xC44, hi := 31, lo := 16, typ := .ro, rst := 0, keep := .V, run := true }
/-- B_TEL_VI.V_AVG (R197). -/
def B_TEL_VI_V_AVG : Fld := { reg := 0xC44, hi := 15, lo := 0, typ := .ro, rst := 0, keep := .V, run := true }
/-- B_TEL_PT.T (R197). -/
def B_TEL_PT_T : Fld := { reg := 0xC48, hi := 31, lo := 16, typ := .ro, rst := 0, keep := .V, run := true }
/-- B_TEL_PT.P_AVG (R197). -/
def B_TEL_PT_P_AVG : Fld := { reg := 0xC48, hi := 15, lo := 0, typ := .ro, rst := 0, keep := .V, run := true }
/-- B_PK_V.V_MAX (R197). -/
def B_PK_V_V_MAX : Fld := { reg := 0xC4C, hi := 31, lo := 16, typ := .rc, rst := 0, keep := .V, run := true }
/-- B_PK_V.V_MIN (R197). -/
def B_PK_V_V_MIN : Fld := { reg := 0xC4C, hi := 15, lo := 0, typ := .rc, rst := 0xffff, keep := .V, run := true }
/-- B_PK_IT.I_MAX (R197). -/
def B_PK_IT_I_MAX : Fld := { reg := 0xC50, hi := 31, lo := 16, typ := .rc, rst := 0x8000, keep := .V, run := true }
/-- B_PK_IT.T_MAX (R197). -/
def B_PK_IT_T_MAX : Fld := { reg := 0xC50, hi := 15, lo := 0, typ := .rc, rst := 0x8000, keep := .V, run := true }
/-- B_CTLR.MISMATCH (R197). -/
def B_CTLR_MISMATCH : Fld := { reg := 0xC54, hi := 31, lo := 24, typ := .ro, rst := 0, keep := .N }
/-- B_CTLR.HEALTH (R197). -/
def B_CTLR_HEALTH : Fld := { reg := 0xC54, hi := 1, lo := 0, typ := .ro, rst := 0, keep := .N }
/-- B_EVT.STALLS (R197). -/
def B_EVT_STALLS : Fld := { reg := 0xC58, hi := 31, lo := 24, typ := .rc, rst := 0, keep := .V }
/-- B_EVT.OC (R197). -/
def B_EVT_OC : Fld := { reg := 0xC58, hi := 23, lo := 16, typ := .rc, rst := 0, keep := .V }
/-- B_EVT.SNS_LOSS (R197). -/
def B_EVT_SNS_LOSS : Fld := { reg := 0xC58, hi := 15, lo := 8, typ := .rc, rst := 0, keep := .V }
/-- B_EVT.OT (R197). -/
def B_EVT_OT : Fld := { reg := 0xC58, hi := 7, lo := 0, typ := .rc, rst := 0, keep := .V }
/-- HDR_CFG.PERIOD (R222). -/
def HDR_CFG_PERIOD : Fld := { reg := 0xA00, hi := 31, lo := 16, typ := .rw, rst := 0x6400, keep := .F, banked := true, rng := [(12800, 32000)] }
/-- HDR_CFG.FC (R222). -/
def HDR_CFG_FC : Fld := { reg := 0xA00, hi := 15, lo := 8, typ := .rw, rst := 0x3c, keep := .F, banked := true, rng := [(4, 160)] }
/-- HDR_CFG.SHED_EN (R222). -/
def HDR_CFG_SHED_EN : Fld := { reg := 0xA00, hi := 0, lo := 0, typ := .rwv, rst := 1, keep := .F, banked := true }
/-- HDR_VSET.VSET (R222). -/
def HDR_VSET_VSET : Fld := { reg := 0xA04, hi := 15, lo := 0, typ := .rwv, rst := 0x4b0, keep := .F, banked := true, rng := [(1000, 1320)] }
/-- HDR_ILIM.I_PH (R222). -/
def HDR_ILIM_I_PH : Fld := { reg := 0xA08, hi := 31, lo := 16, typ := .rwv, rst := 0x578, keep := .F, banked := true, rng := [(100, 1500)] }
/-- HDR_ILIM.ILIM (R222). -/
def HDR_ILIM_ILIM : Fld := { reg := 0xA08, hi := 15, lo := 0, typ := .rwv, rst := 0x9c4, keep := .F, banked := true, rng := [(100, 2500)] }
/-- HDR_BOARD.L_PH (R222). -/
def HDR_BOARD_L_PH : Fld := { reg := 0xA0C, hi := 31, lo := 24, typ := .rw, rst := 0x21, keep := .F, banked := true, rng := [(10, 220)] }
/-- HDR_BOARD.SHUNT (R222). -/
def HDR_BOARD_SHUNT : Fld := { reg := 0xA0C, hi := 23, lo := 16, typ := .rw, rst := 0xa, keep := .F, banked := true, rng := [(1, 255)] }
/-- HDR_BOARD.C_HDR (R222). -/
def HDR_BOARD_C_HDR : Fld := { reg := 0xA0C, hi := 15, lo := 0, typ := .rw, rst := 0xc8, keep := .F, banked := true, rng := [(100, 65535)] }
/-- HDR_SS.STALL_MARGIN (R222). -/
def HDR_SS_STALL_MARGIN : Fld := { reg := 0xA10, hi := 31, lo := 24, typ := .rw, rst := 0x19, keep := .F, banked := true, rng := [(1, 255)] }
/-- HDR_SS.STALL_T (R222). -/
def HDR_SS_STALL_T : Fld := { reg := 0xA10, hi := 23, lo := 16, typ := .rw, rst := 0x32, keep := .F, banked := true, rng := [(1, 255)] }
/-- HDR_SS.OC_T (R222). -/
def HDR_SS_OC_T : Fld := { reg := 0xA10, hi := 15, lo := 8, typ := .rwv, rst := 0xa, keep := .F, banked := true, rng := [(1, 255)] }
/-- HDR_SS.SHED_T (R222). -/
def HDR_SS_SHED_T : Fld := { reg := 0xA10, hi := 7, lo := 0, typ := .rw, rst := 0xa, keep := .F, banked := true, rng := [(1, 255)] }
/-- HDR_TEL.TEL_WIN (R222). -/
def HDR_TEL_TEL_WIN : Fld := { reg := 0xA14, hi := 31, lo := 16, typ := .rw, rst := 0x64, keep := .F, banked := true, rng := [(1, 65535)] }
/-- HDR_TEL.REC_DIV (R222). -/
def HDR_TEL_REC_DIV : Fld := { reg := 0xA14, hi := 15, lo := 8, typ := .rw, rst := 0, keep := .F, banked := true }
/-- HDR_CTL.PH_RETRY (R222). -/
def HDR_CTL_PH_RETRY : Fld := { reg := 0xA18, hi := 2, lo := 0, typ := .wo, rst := 0, keep := .V }
/-- HDR_STAT.STATE (R222). -/
def HDR_STAT_STATE : Fld := { reg := 0xA1C, hi := 31, lo := 28, typ := .ro, rst := 0, keep := .V }
/-- HDR_STAT.LIVE (R222). -/
def HDR_STAT_LIVE : Fld := { reg := 0xA1C, hi := 27, lo := 25, typ := .ro, rst := 7, keep := .V }
/-- HDR_STAT.OVERLOAD (R222). -/
def HDR_STAT_OVERLOAD : Fld := { reg := 0xA1C, hi := 24, lo := 24, typ := .ro, rst := 0, keep := .V, run := true }
/-- HDR_STAT.IN_LIMIT (R222). -/
def HDR_STAT_IN_LIMIT : Fld := { reg := 0xA1C, hi := 23, lo := 23, typ := .ro, rst := 0, keep := .V, run := true }
/-- HDR_STAT.ILIM_RUN (R222). -/
def HDR_STAT_ILIM_RUN : Fld := { reg := 0xA1C, hi := 15, lo := 0, typ := .ro, rst := 0x9c4, keep := .V }
/-- HDR_PH.MISMATCH (R222). -/
def HDR_PH_MISMATCH : Fld := { reg := 0xA20, hi := 31, lo := 24, typ := .ro, rst := 0, keep := .N }
/-- HDR_PH.CAUSE (R222). -/
def HDR_PH_CAUSE : Fld := { reg := 0xA20, hi := 23, lo := 20, typ := .ro, rst := 0, keep := .V }
/-- HDR_PH.I_AVG (R222). -/
def HDR_PH_I_AVG : Fld := { reg := 0xA20, hi := 15, lo := 0, typ := .ro, rst := 0, keep := .V, run := true }
/-- HDR_EVT.PH_LOSS (R222). -/
def HDR_EVT_PH_LOSS : Fld := { reg := 0xA30, hi := 31, lo := 24, typ := .rc, rst := 0, keep := .V }
/-- HDR_EVT.SHEDS (R222). -/
def HDR_EVT_SHEDS : Fld := { reg := 0xA30, hi := 23, lo := 16, typ := .rc, rst := 0, keep := .V }
/-- HDR_EVT.OC (R222). -/
def HDR_EVT_OC : Fld := { reg := 0xA30, hi := 15, lo := 8, typ := .rc, rst := 0, keep := .V }
/-- HDR_EVT.STALLS (R222). -/
def HDR_EVT_STALLS : Fld := { reg := 0xA30, hi := 7, lo := 0, typ := .rc, rst := 0, keep := .V }
/-- X_CFG.HICCUP_EN (R222). -/
def X_CFG_HICCUP_EN : Fld := { reg := 0xA80, hi := 31, lo := 31, typ := .rwv, rst := 0, keep := .F, banked := true }
/-- X_CFG.HICCUP_MAX (R222). -/
def X_CFG_HICCUP_MAX : Fld := { reg := 0xA80, hi := 30, lo := 27, typ := .rw, rst := 3, keep := .F, banked := true, rng := [(1, 15)] }
/-- X_CFG.FC (R222). -/
def X_CFG_FC : Fld := { reg := 0xA80, hi := 23, lo := 16, typ := .rw, rst := 0x28, keep := .F, banked := true, rng := [(4, 160)] }
/-- X_CFG.PERIOD (R222). -/
def X_CFG_PERIOD : Fld := { reg := 0xA80, hi := 15, lo := 0, typ := .rw, rst := 0x5355, keep := .F, banked := true, rng := [(10667, 64000)] }
/-- X_VSET.VSET (R222). -/
def X_VSET_VSET : Fld := { reg := 0xA84, hi := 15, lo := 0, typ := .rwv, rst := 0x4b0, keep := .F, banked := true, rng := [(500, 2800)] }
/-- X_VLIM.VMAX (R222). -/
def X_VLIM_VMAX : Fld := { reg := 0xA88, hi := 31, lo := 16, typ := .rwv, rst := 0xaf0, keep := .F, banked := true, rng := [(500, 2800)] }
/-- X_VLIM.VMIN (R222). -/
def X_VLIM_VMIN : Fld := { reg := 0xA88, hi := 15, lo := 0, typ := .rwv, rst := 0x1f4, keep := .F, banked := true, rng := [(500, 2800)] }
/-- X_ILIM.ILIM (R222). -/
def X_ILIM_ILIM : Fld := { reg := 0xA8C, hi := 15, lo := 0, typ := .rwv, rst := 0x1f4, keep := .F, banked := true, rng := [(50, 1500)] }
/-- X_BOARD.SHUNT (R222). -/
def X_BOARD_SHUNT : Fld := { reg := 0xA90, hi := 31, lo := 24, typ := .rw, rst := 0x32, keep := .F, banked := true, rng := [(1, 255)] }
/-- X_BOARD.L_DECL (R222). -/
def X_BOARD_L_DECL : Fld := { reg := 0xA90, hi := 23, lo := 16, typ := .rw, rst := 0x2f, keep := .F, banked := true, rng := [(10, 220)] }
/-- X_BOARD.C_OUT (R222). -/
def X_BOARD_C_OUT : Fld := { reg := 0xA90, hi := 15, lo := 0, typ := .rw, rst := 0x1d6, keep := .F, banked := true, rng := [(10, 65535)] }
/-- X_DECL.EFF (R222). -/
def X_DECL_EFF : Fld := { reg := 0xA94, hi := 31, lo := 24, typ := .rw, rst := 0x5a, keep := .F, banked := true, rng := [(50, 100)] }
/-- X_DECL.I_LOAD (R222). -/
def X_DECL_I_LOAD : Fld := { reg := 0xA94, hi := 15, lo := 0, typ := .rw, rst := 0, keep := .F, banked := true, rng := [(0, 15000)] }
/-- X_SS.STALL_MARGIN (R222). -/
def X_SS_STALL_MARGIN : Fld := { reg := 0xA98, hi := 31, lo := 24, typ := .rw, rst := 0x14, keep := .F, banked := true, rng := [(1, 255)] }
/-- X_SS.STALL_T (R222). -/
def X_SS_STALL_T : Fld := { reg := 0xA98, hi := 23, lo := 16, typ := .rw, rst := 0x32, keep := .F, banked := true, rng := [(1, 255)] }
/-- X_SS.HICCUP_T (R222). -/
def X_SS_HICCUP_T : Fld := { reg := 0xA98, hi := 15, lo := 8, typ := .rw, rst := 0xa, keep := .F, banked := true, rng := [(1, 255)] }
/-- X_SS.OC_T (R222). -/
def X_SS_OC_T : Fld := { reg := 0xA98, hi := 7, lo := 0, typ := .rwv, rst := 0xa, keep := .F, banked := true, rng := [(1, 255)] }
/-- X_TEL.TEL_WIN (R222). -/
def X_TEL_TEL_WIN : Fld := { reg := 0xA9C, hi := 31, lo := 16, typ := .rw, rst := 0x64, keep := .F, banked := true, rng := [(1, 65535)] }
/-- X_TEL.REC_DIV (R222). -/
def X_TEL_REC_DIV : Fld := { reg := 0xA9C, hi := 15, lo := 8, typ := .rw, rst := 0, keep := .F, banked := true }
/-- X_STAT.STATE (R222). -/
def X_STAT_STATE : Fld := { reg := 0xAA0, hi := 31, lo := 28, typ := .ro, rst := 0, keep := .V }
/-- X_STAT.CTRL_SPARE (R222). -/
def X_STAT_CTRL_SPARE : Fld := { reg := 0xAA0, hi := 27, lo := 27, typ := .ro, rst := 0, keep := .V }
/-- X_STAT.SOLO (R222). -/
def X_STAT_SOLO : Fld := { reg := 0xAA0, hi := 26, lo := 26, typ := .ro, rst := 0, keep := .V }
/-- X_STAT.MODE (R222). -/
def X_STAT_MODE : Fld := { reg := 0xAA0, hi := 25, lo := 24, typ := .ro, rst := 0, keep := .V, run := true }
/-- X_STAT.IN_LIMIT (R222). -/
def X_STAT_IN_LIMIT : Fld := { reg := 0xAA0, hi := 23, lo := 23, typ := .ro, rst := 0, keep := .V, run := true }
/-- X_STAT.ILIM_RUN (R222). -/
def X_STAT_ILIM_RUN : Fld := { reg := 0xAA0, hi := 15, lo := 0, typ := .ro, rst := 0x1f4, keep := .V }
/-- X_EVT.STALLS (R222). -/
def X_EVT_STALLS : Fld := { reg := 0xAA4, hi := 31, lo := 24, typ := .rc, rst := 0, keep := .V }
/-- X_EVT.OC (R222). -/
def X_EVT_OC : Fld := { reg := 0xAA4, hi := 23, lo := 16, typ := .rc, rst := 0, keep := .V }
/-- X_EVT.OV (R222). -/
def X_EVT_OV : Fld := { reg := 0xAA4, hi := 15, lo := 8, typ := .rc, rst := 0, keep := .V }
/-- X_EVT.MISMATCH (R222). -/
def X_EVT_MISMATCH : Fld := { reg := 0xAA4, hi := 7, lo := 0, typ := .ro, rst := 0, keep := .N }
/-- L_CFG.IN_SEL (R222). -/
def L_CFG_IN_SEL : Fld := { reg := 0xB00, hi := 31, lo := 28, typ := .rw, rst := 0xc, keep := .F, banked := true, rng := [(0, 12)] }
/-- L_CFG.VSET (R222). -/
def L_CFG_VSET : Fld := { reg := 0xB00, hi := 15, lo := 0, typ := .rwv, rst := 0xa0, keep := .F, banked := true, rng := [(160, 1000)] }
/-- L_VLIM.VMAX (R222). -/
def L_VLIM_VMAX : Fld := { reg := 0xB04, hi := 31, lo := 16, typ := .rwv, rst := 0x3e8, keep := .F, banked := true, rng := [(160, 1000)] }
/-- L_VLIM.VMIN (R222). -/
def L_VLIM_VMIN : Fld := { reg := 0xB04, hi := 15, lo := 0, typ := .rwv, rst := 0xa0, keep := .F, banked := true, rng := [(160, 1000)] }
/-- L_ILIM.I_LOAD (R222). -/
def L_ILIM_I_LOAD : Fld := { reg := 0xB08, hi := 31, lo := 16, typ := .rw, rst := 0, keep := .F, banked := true, rng := [(0, 1000)] }
/-- L_ILIM.ILIM (R222). -/
def L_ILIM_ILIM : Fld := { reg := 0xB08, hi := 15, lo := 0, typ := .rwv, rst := 0x1f4, keep := .F, banked := true, rng := [(50, 1200)] }
/-- L_STAT.STATE (R222). -/
def L_STAT_STATE : Fld := { reg := 0xB0C, hi := 31, lo := 28, typ := .ro, rst := 0, keep := .V }
/-- L_STAT.IN_LIMIT (R222). -/
def L_STAT_IN_LIMIT : Fld := { reg := 0xB0C, hi := 27, lo := 27, typ := .ro, rst := 0, keep := .V, run := true }
/-- L_STAT.V_AVG (R222). -/
def L_STAT_V_AVG : Fld := { reg := 0xB0C, hi := 15, lo := 0, typ := .ro, rst := 0, keep := .V, run := true }
/-- S_CFG.SHUNT (R222). -/
def S_CFG_SHUNT : Fld := { reg := 0xB70, hi := 31, lo := 24, typ := .rw, rst := 0x64, keep := .F, banked := true, rng := [(1, 255)] }
/-- S_CFG.T_LIM (R222). -/
def S_CFG_T_LIM : Fld := { reg := 0xB70, hi := 23, lo := 16, typ := .rwv, rst := 0x14, keep := .F, banked := true, rng := [(1, 255)] }
/-- S_CFG.ILIM (R222). -/
def S_CFG_ILIM : Fld := { reg := 0xB70, hi := 15, lo := 0, typ := .rwv, rst := 0xbb8, keep := .F, banked := true, rng := [(100, 3000)] }
/-- S_DECL.I_LOAD (R222). -/
def S_DECL_I_LOAD : Fld := { reg := 0xB74, hi := 15, lo := 0, typ := .rw, rst := 0, keep := .F, banked := true, rng := [(0, 3000)] }
/-- S_STAT.STATE (R222). -/
def S_STAT_STATE : Fld := { reg := 0xB78, hi := 31, lo := 28, typ := .ro, rst := 0, keep := .V }
/-- S_STAT.IN_LIMIT (R222). -/
def S_STAT_IN_LIMIT : Fld := { reg := 0xB78, hi := 27, lo := 27, typ := .ro, rst := 0, keep := .V, run := true }
/-- S_STAT.REV_BLOCK (R222). -/
def S_STAT_REV_BLOCK : Fld := { reg := 0xB78, hi := 26, lo := 26, typ := .ro, rst := 0, keep := .V }
/-- S_STAT.I_AVG (R222). -/
def S_STAT_I_AVG : Fld := { reg := 0xB78, hi := 15, lo := 0, typ := .ro, rst := 0, keep := .V, run := true }
/-- S_EVT.OC (R222). -/
def S_EVT_OC : Fld := { reg := 0xB7C, hi := 31, lo := 24, typ := .rc, rst := 0, keep := .V }
/-- S_EVT.REV (R222). -/
def S_EVT_REV : Fld := { reg := 0xB7C, hi := 23, lo := 16, typ := .rc, rst := 0, keep := .V }
/-- LS_TEL.TEL_WIN (R222). -/
def LS_TEL_TEL_WIN : Fld := { reg := 0xBA0, hi := 31, lo := 16, typ := .rw, rst := 0x64, keep := .F, banked := true, rng := [(1, 65535)] }
/-- LS_TEL.REC_DIV (R222). -/
def LS_TEL_REC_DIV : Fld := { reg := 0xBA0, hi := 15, lo := 8, typ := .rw, rst := 0, keep := .F, banked := true }
/-- SEQ_CFG.OFF_MIN (R250). -/
def SEQ_CFG_OFF_MIN : Fld := { reg := 0x1400, hi := 31, lo := 24, typ := .rw, rst := 0x32, keep := .F, banked := true, rng := [(1, 255)] }
/-- SEQ_CFG.AUTO_GROUPS (R250). -/
def SEQ_CFG_AUTO_GROUPS : Fld := { reg := 0x1400, hi := 23, lo := 16, typ := .rwv, rst := 1, keep := .F, banked := true }
/-- SEQ_CFG.PFW_LEAD (R250). -/
def SEQ_CFG_PFW_LEAD : Fld := { reg := 0x1400, hi := 15, lo := 8, typ := .rw, rst := 0xa, keep := .F, banked := true, rng := [(1, 255)] }
/-- SEQ_CFG.FLT_QUAL (R250). -/
def SEQ_CFG_FLT_QUAL : Fld := { reg := 0x1400, hi := 7, lo := 0, typ := .rwv, rst := 5, keep := .F, banked := true, rng := [(3, 255)] }
/-- SEQ_CFG2.GROUP_ORDER (R250). -/
def SEQ_CFG2_GROUP_ORDER : Fld := { reg := 0x1404, hi := 1, lo := 1, typ := .rwv, rst := 1, keep := .F, banked := true }
/-- SEQ_CFG2.AUTO_RESTART (R250). -/
def SEQ_CFG2_AUTO_RESTART : Fld := { reg := 0x1404, hi := 0, lo := 0, typ := .rwv, rst := 1, keep := .F, banked := true }
/-- SEQ_CTL.UNLATCH (R250). -/
def SEQ_CTL_UNLATCH : Fld := { reg := 0x1408, hi := 0, lo := 0, typ := .wo, rst := 0, keep := .V }
/-- SEQ_STAT.OP (R250). -/
def SEQ_STAT_OP : Fld := { reg := 0x140C, hi := 31, lo := 24, typ := .ro, rst := 0, keep := .V }
/-- SEQ_STAT.LATCHED (R250). -/
def SEQ_STAT_LATCHED : Fld := { reg := 0x140C, hi := 23, lo := 23, typ := .ro, rst := 0, keep := .A }
/-- SEQ_STAT.PFW_REQ (R250). -/
def SEQ_STAT_PFW_REQ : Fld := { reg := 0x140C, hi := 22, lo := 22, typ := .ro, rst := 0, keep := .V }
/-- SEQ_STAT.LATCH_RAIL (R250). -/
def SEQ_STAT_LATCH_RAIL : Fld := { reg := 0x140C, hi := 15, lo := 8, typ := .ro, rst := 0xff, keep := .A }
/-- SEQ_GOOD.MASK (R250). -/
def SEQ_GOOD_MASK : Fld := { reg := 0x1410, hi := 23, lo := 0, typ := .ro, rst := 0, keep := .V }
/-- SEQ_PRIMED.MASK (R250). -/
def SEQ_PRIMED_MASK : Fld := { reg := 0x1414, hi := 23, lo := 0, typ := .ro, rst := 0, keep := .V }
/-- SEQ_LANE.RETIRED (R250). -/
def SEQ_LANE_RETIRED : Fld := { reg := 0x1418, hi := 26, lo := 24, typ := .ro, rst := 0, keep := .V }
/-- SEQ_LANE.SYNC2 (R250). -/
def SEQ_LANE_SYNC2 : Fld := { reg := 0x1418, hi := 23, lo := 16, typ := .rc, rst := 0, keep := .V }
/-- SEQ_LANE.SYNC1 (R250). -/
def SEQ_LANE_SYNC1 : Fld := { reg := 0x1418, hi := 15, lo := 8, typ := .rc, rst := 0, keep := .V }
/-- SEQ_LANE.SYNC0 (R250). -/
def SEQ_LANE_SYNC0 : Fld := { reg := 0x1418, hi := 7, lo := 0, typ := .rc, rst := 0, keep := .V }
/-- SEQ_LAST.EVENT (R250). -/
def SEQ_LAST_EVENT : Fld := { reg := 0x141C, hi := 31, lo := 24, typ := .ro, rst := 0, keep := .V }
/-- SEQ_LAST.CAUSE (R250). -/
def SEQ_LAST_CAUSE : Fld := { reg := 0x141C, hi := 23, lo := 16, typ := .ro, rst := 0, keep := .V }
/-- SEQ_LAST.RAIL (R250). -/
def SEQ_LAST_RAIL : Fld := { reg := 0x141C, hi := 7, lo := 0, typ := .ro, rst := 0xff, keep := .V }
/-- SEQ_CNT_SEL.RAIL (R250). -/
def SEQ_CNT_SEL_RAIL : Fld := { reg := 0x1420, hi := 4, lo := 0, typ := .rw, rst := 0, keep := .V, rng := [(0, 23)] }
/-- SEQ_CNT0.START_FAIL (R250). -/
def SEQ_CNT0_START_FAIL : Fld := { reg := 0x1424, hi := 31, lo := 16, typ := .ro, rst := 0, keep := .N }
/-- SEQ_CNT0.UV (R250). -/
def SEQ_CNT0_UV : Fld := { reg := 0x1424, hi := 15, lo := 0, typ := .ro, rst := 0, keep := .N }
/-- SEQ_CNT1.OV (R250). -/
def SEQ_CNT1_OV : Fld := { reg := 0x1428, hi := 31, lo := 16, typ := .ro, rst := 0, keep := .N }
/-- SEQ_CNT1.OC (R250). -/
def SEQ_CNT1_OC : Fld := { reg := 0x1428, hi := 15, lo := 0, typ := .ro, rst := 0, keep := .N }
/-- SEQ_CNT2.FLUSH (R250). -/
def SEQ_CNT2_FLUSH : Fld := { reg := 0x142C, hi := 31, lo := 16, typ := .ro, rst := 0, keep := .N }
/-- SEQ_CNT2.HICCUP (R250). -/
def SEQ_CNT2_HICCUP : Fld := { reg := 0x142C, hi := 15, lo := 0, typ := .ro, rst := 0, keep := .N }
/-- SEQ_CNT3.BACKFEED (R250). -/
def SEQ_CNT3_BACKFEED : Fld := { reg := 0x1430, hi := 31, lo := 16, typ := .ro, rst := 0, keep := .N }
/-- SQ_DEP.DEP (R250). -/
def SQ_DEP_DEP : Fld := { reg := 0x1500, hi := 23, lo := 0, typ := .rwv, rst := 0, keep := .F, banked := true }
/-- SQ_CFG.STANDPIPE (R250). -/
def SQ_CFG_STANDPIPE : Fld := { reg := 0x1504, hi := 31, lo := 31, typ := .rwv, rst := 0, keep := .F, banked := true }
/-- SQ_CFG.HOLD (R250). -/
def SQ_CFG_HOLD : Fld := { reg := 0x1504, hi := 30, lo := 30, typ := .rwv, rst := 0, keep := .F, banked := true }
/-- SQ_CFG.SF_POLICY (R250). -/
def SQ_CFG_SF_POLICY : Fld := { reg := 0x1504, hi := 29, lo := 29, typ := .rwv, rst := 0, keep := .F, banked := true }
/-- SQ_CFG.RUN_SCOPE (R250). -/
def SQ_CFG_RUN_SCOPE : Fld := { reg := 0x1504, hi := 27, lo := 26, typ := .rwv, rst := 0, keep := .F, banked := true, rng := [(0, 2)] }
/-- SQ_CFG.SF_RETRIES (R250). -/
def SQ_CFG_SF_RETRIES : Fld := { reg := 0x1504, hi := 25, lo := 24, typ := .rwv, rst := 0, keep := .F, banked := true }
/-- SQ_CFG.GROUP (R250). -/
def SQ_CFG_GROUP : Fld := { reg := 0x1504, hi := 23, lo := 20, typ := .rwv, rst := 0xf, keep := .F, banked := true, rng := [(0, 7), (15, 15)] }
/-- SQ_CFG.DELAY_P (R250). -/
def SQ_CFG_DELAY_P : Fld := { reg := 0x1504, hi := 15, lo := 8, typ := .rw, rst := 0, keep := .F, banked := true }
/-- SQ_CFG.DELAY_D (R250). -/
def SQ_CFG_DELAY_D : Fld := { reg := 0x1504, hi := 7, lo := 0, typ := .rw, rst := 0, keep := .F, banked := true }
/-- SQ_PRIME_A.SR (R250). -/
def SQ_PRIME_A_SR : Fld := { reg := 0x1508, hi := 31, lo := 16, typ := .rw, rst := 0x64, keep := .F, banked := true, rng := [(1, 65535)] }
/-- SQ_PRIME_A.ILIM_P (R250). -/
def SQ_PRIME_A_ILIM_P : Fld := { reg := 0x1508, hi := 15, lo := 0, typ := .rwv, rst := 0x32, keep := .F, banked := true, rng := [(1, 2500)] }
/-- SQ_PRIME_B.PG_DL (R250). -/
def SQ_PRIME_B_PG_DL : Fld := { reg := 0x150C, hi := 31, lo := 16, typ := .rwv, rst := 0x2710, keep := .F, banked := true, rng := [(1, 65535)] }
/-- SQ_PRIME_B.C_OUT (R250). -/
def SQ_PRIME_B_C_OUT : Fld := { reg := 0x150C, hi := 15, lo := 0, typ := .rw, rst := 0x64, keep := .F, banked := true, rng := [(1, 65535)] }
/-- SQ_DRAIN.SR_D (R250). -/
def SQ_DRAIN_SR_D : Fld := { reg := 0x1510, hi := 31, lo := 16, typ := .rw, rst := 0x64, keep := .F, banked := true, rng := [(1, 65535)] }
/-- SQ_DRAIN.DRAIN_T (R250). -/
def SQ_DRAIN_DRAIN_T : Fld := { reg := 0x1510, hi := 15, lo := 8, typ := .rwv, rst := 0x14, keep := .F, banked := true, rng := [(1, 255)] }
/-- SQ_DRAIN.ACT_DIS (R250). -/
def SQ_DRAIN_ACT_DIS : Fld := { reg := 0x1510, hi := 7, lo := 7, typ := .rwv, rst := 1, keep := .F, banked := true }
/-- SQ_DRAIN.DIS_T (R250). -/
def SQ_DRAIN_DIS_T : Fld := { reg := 0x1510, hi := 6, lo := 0, typ := .rwv, rst := 0xa, keep := .F, banked := true, rng := [(1, 127)] }
/-- SQ_RSTAT.STEP (R250). -/
def SQ_RSTAT_STEP : Fld := { reg := 0x1514, hi := 31, lo := 28, typ := .ro, rst := 0, keep := .V }
/-- SQ_RSTAT.RUN_FAULT (R250). -/
def SQ_RSTAT_RUN_FAULT : Fld := { reg := 0x1514, hi := 27, lo := 27, typ := .ro, rst := 0, keep := .V }
/-- SQ_RSTAT.BACKFEED (R250). -/
def SQ_RSTAT_BACKFEED : Fld := { reg := 0x1514, hi := 26, lo := 26, typ := .ro, rst := 0, keep := .V }
/-- SQ_RSTAT.START_FAILED (R250). -/
def SQ_RSTAT_START_FAILED : Fld := { reg := 0x1514, hi := 25, lo := 25, typ := .ro, rst := 0, keep := .V }
/-- SQ_RSTAT.CAUSE (R250). -/
def SQ_RSTAT_CAUSE : Fld := { reg := 0x1514, hi := 23, lo := 16, typ := .ro, rst := 0, keep := .V }
/-- SQ_RSTAT.T_PG (R250). -/
def SQ_RSTAT_T_PG : Fld := { reg := 0x1514, hi := 15, lo := 0, typ := .ro, rst := 0, keep := .V }
/-- WM_GCFG.AUDIT_CYC (R276). -/
def WM_GCFG_AUDIT_CYC : Fld := { reg := 0x1800, hi := 31, lo := 24, typ := .rw, rst := 0xa, keep := .F, banked := true, rng := [(1, 255)] }
/-- WM_GCFG.AUDIT_TOL (R276). -/
def WM_GCFG_AUDIT_TOL : Fld := { reg := 0x1800, hi := 23, lo := 16, typ := .rw, rst := 8, keep := .F, banked := true, rng := [(1, 255)] }
/-- WM_GCFG.AUDIT_EN (R276). -/
def WM_GCFG_AUDIT_EN : Fld := { reg := 0x1800, hi := 0, lo := 0, typ := .rw, rst := 1, keep := .F, banked := true }
/-- WM_OUT.MASK (R276). -/
def WM_OUT_MASK : Fld := { reg := 0x1804, hi := 31, lo := 0, typ := .ro, rst := 0xffffffff, keep := .V, run := true }
/-- WM_RST_OUT.MASK (R276). -/
def WM_RST_OUT_MASK : Fld := { reg := 0x1808, hi := 31, lo := 0, typ := .ro, rst := 0xffffffff, keep := .V, run := true }
/-- WM_AUDIT.FAILS (R276). -/
def WM_AUDIT_FAILS : Fld := { reg := 0x180C, hi := 31, lo := 24, typ := .rc, rst := 0, keep := .V }
/-- WM_AUDIT.LAST_FAIL (R276). -/
def WM_AUDIT_LAST_FAIL : Fld := { reg := 0x180C, hi := 23, lo := 16, typ := .ro, rst := 0xff, keep := .V }
/-- WM_AUDIT.PASSES (R276). -/
def WM_AUDIT_PASSES : Fld := { reg := 0x180C, hi := 15, lo := 0, typ := .ro, rst := 0, keep := .V }
/-- WM_RB_CTL.GO (R276). -/
def WM_RB_CTL_GO : Fld := { reg := 0x1810, hi := 31, lo := 31, typ := .wo, rst := 0, keep := .V }
/-- WM_RB_CTL.INDEX (R276). -/
def WM_RB_CTL_INDEX : Fld := { reg := 0x1810, hi := 7, lo := 0, typ := .wo, rst := 0, keep := .V }
/-- WM_RB_DATA.VALID (R276). -/
def WM_RB_DATA_VALID : Fld := { reg := 0x1814, hi := 31, lo := 31, typ := .ro, rst := 0, keep := .V }
/-- WM_RB_DATA.VALUE (R276). -/
def WM_RB_DATA_VALUE : Fld := { reg := 0x1814, hi := 15, lo := 0, typ := .ro, rst := 0, keep := .V }
/-- SUP_STAT.DIPS (R276). -/
def SUP_STAT_DIPS : Fld := { reg := 0x1818, hi := 31, lo := 24, typ := .rc, rst := 0, keep := .V }
/-- SUP_STAT.LOSSES (R276). -/
def SUP_STAT_LOSSES : Fld := { reg := 0x1818, hi := 23, lo := 16, typ := .rc, rst := 0, keep := .V }
/-- SUP_STAT.BELOW_RST (R276). -/
def SUP_STAT_BELOW_RST : Fld := { reg := 0x1818, hi := 1, lo := 1, typ := .ro, rst := 0, keep := .V }
/-- SUP_STAT.BELOW_WARN (R276). -/
def SUP_STAT_BELOW_WARN : Fld := { reg := 0x1818, hi := 0, lo := 0, typ := .ro, rst := 0, keep := .V }
/-- PFW_STAT.ASSERTS (R276). -/
def PFW_STAT_ASSERTS : Fld := { reg := 0x181C, hi := 31, lo := 24, typ := .rc, rst := 0, keep := .V }
/-- PFW_STAT.ASSERTED (R276). -/
def PFW_STAT_ASSERTED : Fld := { reg := 0x181C, hi := 4, lo := 4, typ := .ro, rst := 1, keep := .V }
/-- PFW_STAT.RESET (R276). -/
def PFW_STAT_RESET : Fld := { reg := 0x181C, hi := 3, lo := 3, typ := .ro, rst := 1, keep := .V }
/-- PFW_STAT.HANDOVER (R276). -/
def PFW_STAT_HANDOVER : Fld := { reg := 0x181C, hi := 2, lo := 2, typ := .ro, rst := 0, keep := .V }
/-- PFW_STAT.SUPPLY (R276). -/
def PFW_STAT_SUPPLY : Fld := { reg := 0x181C, hi := 1, lo := 1, typ := .ro, rst := 0, keep := .V }
/-- PFW_STAT.SEQ (R276). -/
def PFW_STAT_SEQ : Fld := { reg := 0x181C, hi := 0, lo := 0, typ := .ro, rst := 0, keep := .V }
/-- WM_WAKE.VALID (R276). -/
def WM_WAKE_VALID : Fld := { reg := 0x1820, hi := 7, lo := 7, typ := .ro, rst := 0, keep := .A }
/-- WM_WAKE.MON (R276). -/
def WM_WAKE_MON : Fld := { reg := 0x1820, hi := 2, lo := 0, typ := .ro, rst := 0, keep := .A }
/-- WM_SEL.MON (R276). -/
def WM_SEL_MON : Fld := { reg := 0x1824, hi := 4, lo := 0, typ := .rw, rst := 0, keep := .V }
/-- WM_ERR.VALID (R276). -/
def WM_ERR_VALID : Fld := { reg := 0x1828, hi := 15, lo := 15, typ := .ro, rst := 0, keep := .V }
/-- WM_ERR.MON (R276). -/
def WM_ERR_MON : Fld := { reg := 0x1828, hi := 4, lo := 0, typ := .ro, rst := 0, keep := .V }
/-- WM_MSTAT.WARN_EXC (R276). -/
def WM_MSTAT_WARN_EXC : Fld := { reg := 0x1840, hi := 31, lo := 24, typ := .rc, rst := 0, keep := .V }
/-- WM_MSTAT.RST_EXC (R276). -/
def WM_MSTAT_RST_EXC : Fld := { reg := 0x1840, hi := 23, lo := 16, typ := .rc, rst := 0, keep := .V }
/-- WM_MSTAT.DAC_FAIL (R276). -/
def WM_MSTAT_DAC_FAIL : Fld := { reg := 0x1840, hi := 15, lo := 12, typ := .ro, rst := 0, keep := .V }
/-- WM_MSTAT.PG (R276). -/
def WM_MSTAT_PG : Fld := { reg := 0x1840, hi := 5, lo := 5, typ := .ro, rst := 0, keep := .V }
/-- WM_MSTAT.BLANK (R276). -/
def WM_MSTAT_BLANK : Fld := { reg := 0x1840, hi := 4, lo := 4, typ := .ro, rst := 0, keep := .V }
/-- WM_MSTAT.BELOW_RST (R276). -/
def WM_MSTAT_BELOW_RST : Fld := { reg := 0x1840, hi := 3, lo := 3, typ := .ro, rst := 0, keep := .V }
/-- WM_MSTAT.BELOW_WARN (R276). -/
def WM_MSTAT_BELOW_WARN : Fld := { reg := 0x1840, hi := 2, lo := 2, typ := .ro, rst := 0, keep := .V }
/-- WM_MSTAT.ABOVE_WARN (R276). -/
def WM_MSTAT_ABOVE_WARN : Fld := { reg := 0x1840, hi := 1, lo := 1, typ := .ro, rst := 0, keep := .V }
/-- WM_MSTAT.ABOVE_RST (R276). -/
def WM_MSTAT_ABOVE_RST : Fld := { reg := 0x1840, hi := 0, lo := 0, typ := .ro, rst := 0, keep := .V }
/-- WM_CFG.MODE (R276). -/
def WM_CFG_MODE : Fld := { reg := 0x1830, hi := 31, lo := 30, typ := .rwv, rst := 1, keep := .F, banked := true }
/-- WM_CFG.HYST (R276). -/
def WM_CFG_HYST : Fld := { reg := 0x1830, hi := 29, lo := 27, typ := .rwv, rst := 0, keep := .F, banked := true, rng := [(0, 4)] }
/-- WM_CFG.RES (R276). -/
def WM_CFG_RES : Fld := { reg := 0x1830, hi := 26, lo := 24, typ := .rwv, rst := 6, keep := .F, banked := true, rng := [(0, 6)] }
/-- WM_CFG.WAKE_EN (R276). -/
def WM_CFG_WAKE_EN : Fld := { reg := 0x1830, hi := 23, lo := 23, typ := .rw, rst := 0, keep := .F, banked := true }
/-- WM_CFG.WAKE_SEL (R276). -/
def WM_CFG_WAKE_SEL : Fld := { reg := 0x1830, hi := 22, lo := 22, typ := .rw, rst := 0, keep := .F, banked := true }
/-- WM_CFG.PGQ (R276). -/
def WM_CFG_PGQ : Fld := { reg := 0x1830, hi := 15, lo := 8, typ := .rwv, rst := 0xa, keep := .F, banked := true, rng := [(1, 255)] }
/-- WM_LVL_LO.RST_LO (R276). -/
def WM_LVL_LO_RST_LO : Fld := { reg := 0x1834, hi := 31, lo := 16, typ := .rwv, rst := 0x64, keep := .F, banked := true }
/-- WM_LVL_LO.WARN_LO (R276). -/
def WM_LVL_LO_WARN_LO : Fld := { reg := 0x1834, hi := 15, lo := 0, typ := .rwv, rst := 0x32, keep := .F, banked := true }
/-- WM_LVL_HI.RST_HI (R276). -/
def WM_LVL_HI_RST_HI : Fld := { reg := 0x1838, hi := 31, lo := 16, typ := .rwv, rst := 0x64, keep := .F, banked := true }
/-- WM_LVL_HI.WARN_HI (R276). -/
def WM_LVL_HI_WARN_HI : Fld := { reg := 0x1838, hi := 15, lo := 0, typ := .rwv, rst := 0x32, keep := .F, banked := true }
/-- TC_GCFG.TRIP_RUN (R277). -/
def TC_GCFG_TRIP_RUN : Fld := { reg := 0x1A00, hi := 7, lo := 0, typ := .rwv, rst := 0x40, keep := .F, banked := true, rng := [(1, 255)] }
/-- TC_TRIPPED0.MASK (R277). -/
def TC_TRIPPED0_MASK : Fld := { reg := 0x1A04, hi := 31, lo := 0, typ := .rc, rst := 0, keep := .V }
/-- TC_TRIPPED1.MASK (R277). -/
def TC_TRIPPED1_MASK : Fld := { reg := 0x1A08, hi := 3, lo := 0, typ := .rc, rst := 0, keep := .V }
/-- TC_STAT.TRIPS (R277). -/
def TC_STAT_TRIPS : Fld := { reg := 0x1A40, hi := 31, lo := 16, typ := .rc, rst := 0, keep := .V, run := true }
/-- TC_STAT.DAC_FAIL (R277). -/
def TC_STAT_DAC_FAIL : Fld := { reg := 0x1A40, hi := 7, lo := 7, typ := .ro, rst := 0, keep := .V }
/-- TC_STAT.ARMED (R277). -/
def TC_STAT_ARMED : Fld := { reg := 0x1A40, hi := 6, lo := 6, typ := .ro, rst := 0, keep := .V }
/-- TC_STAT.OUT (R277). -/
def TC_STAT_OUT : Fld := { reg := 0x1A40, hi := 5, lo := 5, typ := .ro, rst := 0, keep := .V, run := true }
/-- TC_CFG.MODE (R277). -/
def TC_CFG_MODE : Fld := { reg := 0x1B00, hi := 31, lo := 30, typ := .rwv, rst := 0, keep := .F, banked := true, rng := [(0, 1)] }
/-- TC_CFG.HYST (R277). -/
def TC_CFG_HYST : Fld := { reg := 0x1B00, hi := 29, lo := 27, typ := .rwv, rst := 0, keep := .F, banked := true, rng := [(0, 4)] }
/-- TC_CFG.RES (R277). -/
def TC_CFG_RES : Fld := { reg := 0x1B00, hi := 26, lo := 24, typ := .rwv, rst := 6, keep := .F, banked := true, rng := [(0, 6)] }
/-- TC_CFG.THRESH (R277). -/
def TC_CFG_THRESH : Fld := { reg := 0x1B00, hi := 15, lo := 0, typ := .rwv, rst := 0, keep := .F, banked := true }
/-- FH_GCFG.IRQ_MODE (R309). -/
def FH_GCFG_IRQ_MODE : Fld := { reg := 0x3200, hi := 1, lo := 0, typ := .rw, rst := 0, keep := .F, banked := true, rng := [(0, 2)] }
/-- FAULT_STAT.SAFE (R309). -/
def FAULT_STAT_SAFE : Fld := { reg := 0x3204, hi := 31, lo := 31, typ := .ro, rst := 0, keep := .V }
/-- FAULT_STAT.FAULT_N (R309). -/
def FAULT_STAT_FAULT_N : Fld := { reg := 0x3204, hi := 30, lo := 30, typ := .ro, rst := 0, keep := .V }
/-- FAULT_STAT.MASK (R309). -/
def FAULT_STAT_MASK : Fld := { reg := 0x3204, hi := 22, lo := 0, typ := .ro, rst := 0, keep := .V }
/-- SEVERE.MASK (R309). -/
def SEVERE_MASK : Fld := { reg := 0x3208, hi := 22, lo := 0, typ := .ro, rst := 0, keep := .V }
/-- SAFE_CAUSE.VALID (R309). -/
def SAFE_CAUSE_VALID : Fld := { reg := 0x320C, hi := 31, lo := 31, typ := .ro, rst := 0, keep := .A }
/-- SAFE_CAUSE.BLOCK (R309). -/
def SAFE_CAUSE_BLOCK : Fld := { reg := 0x320C, hi := 20, lo := 16, typ := .ro, rst := 0, keep := .A }
/-- SAFE_CAUSE.EVENT (R309). -/
def SAFE_CAUSE_EVENT : Fld := { reg := 0x320C, hi := 15, lo := 8, typ := .ro, rst := 0, keep := .A }
/-- SAFE_MAP0.MAP (R309). -/
def SAFE_MAP0_MAP : Fld := { reg := 0x3210, hi := 31, lo := 0, typ := .rwv, rst := 0, keep := .F, banked := true }
/-- SAFE_MAP1.MAP (R309). -/
def SAFE_MAP1_MAP : Fld := { reg := 0x3214, hi := 15, lo := 0, typ := .rwv, rst := 0, keep := .F, banked := true }
/-- SAFE_SIG.HOLD (R309). -/
def SAFE_SIG_HOLD : Fld := { reg := 0x3218, hi := 15, lo := 8, typ := .rwv, rst := 0, keep := .F, banked := true }
/-- SAFE_SIG.LEVEL (R309). -/
def SAFE_SIG_LEVEL : Fld := { reg := 0x3218, hi := 7, lo := 0, typ := .rwv, rst := 0, keep := .F, banked := true }
/-- FH_SEL.BLOCK (R309). -/
def FH_SEL_BLOCK : Fld := { reg := 0x3220, hi := 4, lo := 0, typ := .rw, rst := 0, keep := .V, rng := [(0, 22)] }
/-- FH_CTL.SEV_CLR (R309). -/
def FH_CTL_SEV_CLR : Fld := { reg := 0x3224, hi := 1, lo := 1, typ := .wo, rst := 0, keep := .V }
/-- FH_CTL.HIST_CLR (R309). -/
def FH_CTL_HIST_CLR : Fld := { reg := 0x3224, hi := 0, lo := 0, typ := .wo, rst := 0, keep := .V }
/-- FH_INFO.NEXT_SEQ (R309). -/
def FH_INFO_NEXT_SEQ : Fld := { reg := 0x3228, hi := 31, lo := 24, typ := .ro, rst := 0, keep := .V }
/-- FH_INFO.OVERWRITES (R309). -/
def FH_INFO_OVERWRITES : Fld := { reg := 0x3228, hi := 23, lo := 16, typ := .rc, rst := 0, keep := .V }
/-- FH_INFO.FROZEN (R309). -/
def FH_INFO_FROZEN : Fld := { reg := 0x3228, hi := 7, lo := 7, typ := .ro, rst := 0, keep := .V }
/-- FH_INFO.ENTRIES (R309). -/
def FH_INFO_ENTRIES : Fld := { reg := 0x3228, hi := 3, lo := 0, typ := .ro, rst := 0, keep := .V }
/-- SAFE_TIME.TIME (R309). -/
def SAFE_TIME_TIME : Fld := { reg := 0x3230, hi := 63, lo := 0, typ := .ro, rst := 0, keep := .A }
/-- FB_STAT.EVENTS (R309). -/
def FB_STAT_EVENTS : Fld := { reg := 0x3300, hi := 31, lo := 24, typ := .rc, rst := 0, keep := .V }
/-- FB_STAT.LAST (R309). -/
def FB_STAT_LAST : Fld := { reg := 0x3300, hi := 23, lo := 16, typ := .ro, rst := 0, keep := .V }
/-- FB_STAT.SEVERE (R309). -/
def FB_STAT_SEVERE : Fld := { reg := 0x3300, hi := 15, lo := 15, typ := .ro, rst := 0, keep := .V }
/-- FB_STAT.FROZEN (R309). -/
def FB_STAT_FROZEN : Fld := { reg := 0x3300, hi := 14, lo := 14, typ := .ro, rst := 0, keep := .V }
/-- FB_STAT.STANDING (R309). -/
def FB_STAT_STANDING : Fld := { reg := 0x3300, hi := 13, lo := 13, typ := .ro, rst := 0, keep := .V }
/-- FB_STAT.HIGH (R309). -/
def FB_STAT_HIGH : Fld := { reg := 0x3300, hi := 10, lo := 8, typ := .rc, rst := 0, keep := .V }
/-- FB_STAT.PEND (R309). -/
def FB_STAT_PEND : Fld := { reg := 0x3300, hi := 0, lo := 0, typ := .rc, rst := 0, keep := .V }
/-- FB_CFG.IRQ_EN (R309). -/
def FB_CFG_IRQ_EN : Fld := { reg := 0x3380, hi := 31, lo := 31, typ := .rw, rst := 1, keep := .F, banked := true }
/-- FB_CFG.FREEZE (R309). -/
def FB_CFG_FREEZE : Fld := { reg := 0x3380, hi := 30, lo := 30, typ := .rw, rst := 0, keep := .F, banked := true }
/-- FB_CFG.VEC (R309). -/
def FB_CFG_VEC : Fld := { reg := 0x3380, hi := 4, lo := 0, typ := .rw, rst := 0, keep := .F, banked := true }
/-- FC_SEL.BLOCK (R309). -/
def FC_SEL_BLOCK : Fld := { reg := 0x3400, hi := 20, lo := 16, typ := .rw, rst := 0, keep := .V, rng := [(0, 22)] }
/-- FC_SEL.EVENT (R309). -/
def FC_SEL_EVENT : Fld := { reg := 0x3400, hi := 7, lo := 0, typ := .rw, rst := 1, keep := .V }
/-- FC_CLASS.SEV_CLASS (R309). -/
def FC_CLASS_SEV_CLASS : Fld := { reg := 0x3404, hi := 10, lo := 8, typ := .rwv, rst := 0, keep := .F, banked := true, rng := [(0, 4)] }
/-- FC_CLASS.CLASS (R309). -/
def FC_CLASS_CLASS : Fld := { reg := 0x3404, hi := 6, lo := 4, typ := .rwv, rst := 0, keep := .F, banked := true, rng := [(0, 4)] }
/-- FC_CLASS.GROUP (R309). -/
def FC_CLASS_GROUP : Fld := { reg := 0x3404, hi := 2, lo := 0, typ := .rwv, rst := 0, keep := .F, banked := true }
/-- FC_SEV.W (R309). -/
def FC_SEV_W : Fld := { reg := 0x3408, hi := 31, lo := 16, typ := .rwv, rst := 0x3e8, keep := .F, banked := true, rng := [(1, 65535)] }
/-- FC_SEV.UNIT (R309). -/
def FC_SEV_UNIT : Fld := { reg := 0x3408, hi := 15, lo := 15, typ := .rwv, rst := 0, keep := .F, banked := true }
/-- FC_SEV.N (R309). -/
def FC_SEV_N : Fld := { reg := 0x3408, hi := 7, lo := 0, typ := .rwv, rst := 0, keep := .F, banked := true }
/-- FC_STAT.TOTAL (R309). -/
def FC_STAT_TOTAL : Fld := { reg := 0x340C, hi := 31, lo := 16, typ := .ro, rst := 0, keep := .V, run := true }
/-- FC_STAT.IN_WIN (R309). -/
def FC_STAT_IN_WIN : Fld := { reg := 0x340C, hi := 15, lo := 8, typ := .ro, rst := 0, keep := .V, run := true }
/-- FC_STAT.SEVERE (R309). -/
def FC_STAT_SEVERE : Fld := { reg := 0x340C, hi := 0, lo := 0, typ := .ro, rst := 0, keep := .V, run := true }
/-- PT_KEY.KEY (R310). -/
def PT_KEY_KEY : Fld := { reg := 0x3E00, hi := 15, lo := 0, typ := .wo, rst := 0, keep := .V }
/-- PT_CTL.CLEAR_ALL (R310). -/
def PT_CTL_CLEAR_ALL : Fld := { reg := 0x3E04, hi := 1, lo := 1, typ := .wo, rst := 0, keep := .V }
/-- PT_CTL.LOCK (R310). -/
def PT_CTL_LOCK : Fld := { reg := 0x3E04, hi := 0, lo := 0, typ := .wo, rst := 0, keep := .V }
/-- PT_STAT.UNLOCKS (R310). -/
def PT_STAT_UNLOCKS : Fld := { reg := 0x3E08, hi := 31, lo := 16, typ := .ro, rst := 0, keep := .N }
/-- PT_STAT.REFUSED (R310). -/
def PT_STAT_REFUSED : Fld := { reg := 0x3E08, hi := 15, lo := 8, typ := .rc, rst := 0, keep := .V }
/-- PT_STAT.UNLOCKED (R310). -/
def PT_STAT_UNLOCKED : Fld := { reg := 0x3E08, hi := 5, lo := 5, typ := .ro, rst := 0, keep := .V }
/-- PT_STAT.ALLOWED (R310). -/
def PT_STAT_ALLOWED : Fld := { reg := 0x3E08, hi := 4, lo := 4, typ := .ro, rst := 0, keep := .V }
/-- PT_STAT.ACTIVE (R310). -/
def PT_STAT_ACTIVE : Fld := { reg := 0x3E08, hi := 3, lo := 0, typ := .ro, rst := 0, keep := .V }
/-- PT_REMAIN.SESSION (R310). -/
def PT_REMAIN_SESSION : Fld := { reg := 0x3E0C, hi := 31, lo := 16, typ := .ro, rst := 0, keep := .V, run := true }
/-- PT_TTL.TTL (R310). -/
def PT_TTL_TTL : Fld := { reg := 0x3E10, hi := 9, lo := 0, typ := .rw, rst := 0x3c, keep := .V, rng := [(1, 600)] }
/-- PT_DB.RING (R310). -/
def PT_DB_RING : Fld := { reg := 0x3E14, hi := 23, lo := 16, typ := .rw, rst := 0, keep := .V }
/-- PT_DB.DELAY (R310). -/
def PT_DB_DELAY : Fld := { reg := 0x3E14, hi := 15, lo := 0, typ := .rw, rst := 0, keep := .V }
/-- PT_BP.RING (R310). -/
def PT_BP_RING : Fld := { reg := 0x3E18, hi := 31, lo := 16, typ := .rw, rst := 0, keep := .V }
/-- PT_BP.DUTY (R310). -/
def PT_BP_DUTY : Fld := { reg := 0x3E18, hi := 15, lo := 8, typ := .rw, rst := 0, keep := .V }
/-- PT_SKEW.SKEW (R310). -/
def PT_SKEW_SKEW : Fld := { reg := 0x3E1C, hi := 15, lo := 0, typ := .rw, rst := 0, keep := .V }
/-- PT_WM_MASK.MASK (R310). -/
def PT_WM_MASK_MASK : Fld := { reg := 0x3E20, hi := 31, lo := 0, typ := .rw, rst := 0, keep := .V }
/-- PT_WM_DLY.DELAY (R310). -/
def PT_WM_DLY_DELAY : Fld := { reg := 0x3E24, hi := 15, lo := 0, typ := .rw, rst := 0, keep := .V }
/-- PT_EXP0.LEFT_HI (R310). -/
def PT_EXP0_LEFT_HI : Fld := { reg := 0x3E28, hi := 25, lo := 16, typ := .ro, rst := 0, keep := .V, run := true }
/-- PT_EXP0.LEFT_LO (R310). -/
def PT_EXP0_LEFT_LO : Fld := { reg := 0x3E28, hi := 9, lo := 0, typ := .ro, rst := 0, keep := .V, run := true }
/-- PT_EXP1.LEFT_HI (R310). -/
def PT_EXP1_LEFT_HI : Fld := { reg := 0x3E2C, hi := 25, lo := 16, typ := .ro, rst := 0, keep := .V, run := true }
/-- PT_EXP1.LEFT_LO (R310). -/
def PT_EXP1_LEFT_LO : Fld := { reg := 0x3E2C, hi := 9, lo := 0, typ := .ro, rst := 0, keep := .V, run := true }
/-- WELL_CFG.VREG (R335). -/
def WELL_CFG_VREG : Fld := { reg := 0x1C00, hi := 31, lo := 16, typ := .rwv, rst := 0x488, keep := .F, banked := true, rng := [(1000, 1290)] }
/-- WELL_CFG.I_DCHG (R335). -/
def WELL_CFG_I_DCHG : Fld := { reg := 0x1C00, hi := 15, lo := 8, typ := .rwv, rst := 0xc8, keep := .F, banked := true, rng := [(10, 200)] }
/-- WELL_CFG.CHG_EN (R335). -/
def WELL_CFG_CHG_EN : Fld := { reg := 0x1C00, hi := 1, lo := 1, typ := .rw, rst := 1, keep := .F, banked := true }
/-- WELL_CFG.EN (R335). -/
def WELL_CFG_EN : Fld := { reg := 0x1C00, hi := 0, lo := 0, typ := .rwv, rst := 1, keep := .F, banked := true }
/-- WELL_HO.HO_LEAD (R335). -/
def WELL_HO_HO_LEAD : Fld := { reg := 0x1C04, hi := 31, lo := 24, typ := .rw, rst := 0xa, keep := .F, banked := true }
/-- WELL_HO.HB_RAMP (R335). -/
def WELL_HO_HB_RAMP : Fld := { reg := 0x1C04, hi := 23, lo := 16, typ := .rw, rst := 5, keep := .F, banked := true, rng := [(1, 255)] }
/-- WELL_HO.DWELL (R335). -/
def WELL_HO_DWELL : Fld := { reg := 0x1C04, hi := 15, lo := 8, typ := .rw, rst := 0xa, keep := .F, banked := true, rng := [(1, 255)] }
/-- WELL_HO.PRE_HOLD (R335). -/
def WELL_HO_PRE_HOLD : Fld := { reg := 0x1C04, hi := 7, lo := 0, typ := .rw, rst := 0x3c, keep := .F, banked := true, rng := [(1, 255)] }
/-- WELL_PACK.CHEM (R335). -/
def WELL_PACK_CHEM : Fld := { reg := 0x1C08, hi := 31, lo := 31, typ := .rw, rst := 0, keep := .F, banked := true }
/-- WELL_PACK.CELLS (R335). -/
def WELL_PACK_CELLS : Fld := { reg := 0x1C08, hi := 30, lo := 28, typ := .rw, rst := 4, keep := .F, banked := true, rng := [(3, 5)] }
/-- WELL_PACK.T_CUT (R335). -/
def WELL_PACK_T_CUT : Fld := { reg := 0x1C08, hi := 23, lo := 16, typ := .rw, rst := 0xa, keep := .F, banked := true, rng := [(1, 255)] }
/-- WELL_PACK.V_CUT (R335). -/
def WELL_PACK_V_CUT : Fld := { reg := 0x1C08, hi := 15, lo := 0, typ := .rwv, rst := 0xaf0, keep := .F, banked := true, rng := [(2500, 3600)] }
/-- WELL_CHG_V.V_CHG (R335). -/
def WELL_CHG_V_V_CHG : Fld := { reg := 0x1C0C, hi := 31, lo := 16, typ := .rwv, rst := 0xe10, keep := .F, banked := true, rng := [(3400, 4200)] }
/-- WELL_CHG_V.V_PRE (R335). -/
def WELL_CHG_V_V_PRE : Fld := { reg := 0x1C0C, hi := 15, lo := 8, typ := .rw, rst := 0x7d, keep := .F, banked := true, rng := [(100, 150)] }
/-- WELL_CHG_V.RECHG (R335). -/
def WELL_CHG_V_RECHG : Fld := { reg := 0x1C0C, hi := 7, lo := 0, typ := .rw, rst := 0xf, keep := .F, banked := true, rng := [(5, 50)] }
/-- WELL_CHG_I.I_CC (R335). -/
def WELL_CHG_I_I_CC : Fld := { reg := 0x1C10, hi := 31, lo := 24, typ := .rwv, rst := 0x50, keep := .F, banked := true, rng := [(2, 80)] }
/-- WELL_CHG_I.I_PRE (R335). -/
def WELL_CHG_I_I_PRE : Fld := { reg := 0x1C10, hi := 23, lo := 16, typ := .rw, rst := 0x14, keep := .F, banked := true, rng := [(5, 100)] }
/-- WELL_CHG_I.I_TERM (R335). -/
def WELL_CHG_I_I_TERM : Fld := { reg := 0x1C10, hi := 15, lo := 8, typ := .rw, rst := 0x14, keep := .F, banked := true, rng := [(5, 255)] }
/-- WELL_CHG_T.T_PRE (R335). -/
def WELL_CHG_T_T_PRE : Fld := { reg := 0x1C14, hi := 31, lo := 24, typ := .rw, rst := 0x1e, keep := .F, banked := true, rng := [(1, 255)] }
/-- WELL_CHG_T.T_FAST (R335). -/
def WELL_CHG_T_T_FAST : Fld := { reg := 0x1C14, hi := 23, lo := 16, typ := .rw, rst := 0x50, keep := .F, banked := true, rng := [(1, 255)] }
/-- WELL_CHG_T.T_TAPER (R335). -/
def WELL_CHG_T_T_TAPER : Fld := { reg := 0x1C14, hi := 15, lo := 8, typ := .rw, rst := 0x3c, keep := .F, banked := true, rng := [(1, 255)] }
/-- WELL_CHG_T.T_TOPOFF (R335). -/
def WELL_CHG_T_T_TOPOFF : Fld := { reg := 0x1C14, hi := 7, lo := 0, typ := .rw, rst := 0x1e, keep := .F, banked := true }
/-- WELL_ZONE.T1 (R335). -/
def WELL_ZONE_T1 : Fld := { reg := 0x1C18, hi := 31, lo := 24, typ := .rw, rst := 0, keep := .F, banked := true }
/-- WELL_ZONE.T2 (R335). -/
def WELL_ZONE_T2 : Fld := { reg := 0x1C18, hi := 23, lo := 16, typ := .rw, rst := 0xa, keep := .F, banked := true }
/-- WELL_ZONE.T3 (R335). -/
def WELL_ZONE_T3 : Fld := { reg := 0x1C18, hi := 15, lo := 8, typ := .rw, rst := 0x2d, keep := .F, banked := true }
/-- WELL_ZONE.T4 (R335). -/
def WELL_ZONE_T4 : Fld := { reg := 0x1C18, hi := 7, lo := 0, typ := .rw, rst := 0x37, keep := .F, banked := true }
/-- WELL_ADJ.COOL_PCT (R335). -/
def WELL_ADJ_COOL_PCT : Fld := { reg := 0x1C1C, hi := 31, lo := 24, typ := .rw, rst := 0x32, keep := .F, banked := true, rng := [(10, 100)] }
/-- WELL_ADJ.WARM_DV (R335). -/
def WELL_ADJ_WARM_DV : Fld := { reg := 0x1C1C, hi := 23, lo := 16, typ := .rw, rst := 0xa, keep := .F, banked := true, rng := [(0, 30)] }
/-- WELL_ADJ.T_FOLD (R335). -/
def WELL_ADJ_T_FOLD : Fld := { reg := 0x1C1C, hi := 15, lo := 8, typ := .rwv, rst := 0x69, keep := .F, banked := true, rng := [(85, 125)] }
/-- WELL_BOARD.ISHUNT (R335). -/
def WELL_BOARD_ISHUNT : Fld := { reg := 0x1C20, hi := 31, lo := 24, typ := .rw, rst := 0xa, keep := .F, banked := true, rng := [(1, 255)] }
/-- WELL_BOARD.PSHUNT (R335). -/
def WELL_BOARD_PSHUNT : Fld := { reg := 0x1C20, hi := 23, lo := 16, typ := .rw, rst := 0xa, keep := .F, banked := true, rng := [(1, 255)] }
/-- WELL_BOARD.L_DECL (R335). -/
def WELL_BOARD_L_DECL : Fld := { reg := 0x1C20, hi := 15, lo := 8, typ := .rw, rst := 0x21, keep := .F, banked := true, rng := [(10, 220)] }
/-- WELL_BOARD.EFF (R335). -/
def WELL_BOARD_EFF : Fld := { reg := 0x1C20, hi := 7, lo := 0, typ := .rw, rst := 0x5f, keep := .F, banked := true, rng := [(50, 100)] }
/-- WELL_NTC.BETA (R335). -/
def WELL_NTC_BETA : Fld := { reg := 0x1C24, hi := 31, lo := 16, typ := .rw, rst := 0xd6b, keep := .F, banked := true, rng := [(2500, 5000)] }
/-- WELL_NTC.NOM (R335). -/
def WELL_NTC_NOM : Fld := { reg := 0x1C24, hi := 15, lo := 0, typ := .rw, rst := 0x3e8, keep := .F, banked := true, rng := [(100, 65535)] }
/-- WELL_LEND.I_LEND (R335). -/
def WELL_LEND_I_LEND : Fld := { reg := 0x1C28, hi := 31, lo := 24, typ := .rw, rst := 0x28, keep := .F, banked := true, rng := [(10, 80)] }
/-- WELL_LEND.V_LEND_MIN (R335). -/
def WELL_LEND_V_LEND_MIN : Fld := { reg := 0x1C28, hi := 23, lo := 16, typ := .rw, rst := 0xa0, keep := .F, banked := true, rng := [(100, 200)] }
/-- WELL_LEND.LEND_SHUNT (R335). -/
def WELL_LEND_LEND_SHUNT : Fld := { reg := 0x1C28, hi := 15, lo := 8, typ := .rw, rst := 0x32, keep := .F, banked := true, rng := [(1, 255)] }
/-- WELL_BTN.T_LONG (R335). -/
def WELL_BTN_T_LONG : Fld := { reg := 0x1C2C, hi := 31, lo := 24, typ := .rw, rst := 8, keep := .F, banked := true, rng := [(4, 16)] }
/-- WELL_BTN.T_PRESS (R335). -/
def WELL_BTN_T_PRESS : Fld := { reg := 0x1C2C, hi := 23, lo := 16, typ := .rw, rst := 5, keep := .F, banked := true, rng := [(1, 100)] }
/-- WELL_CTL.KEY (R335). -/
def WELL_CTL_KEY : Fld := { reg := 0x1C30, hi := 31, lo := 24, typ := .wo, rst := 0, keep := .V }
/-- WELL_CTL.CHG_RESTART (R335). -/
def WELL_CTL_CHG_RESTART : Fld := { reg := 0x1C30, hi := 6, lo := 6, typ := .wo, rst := 0, keep := .V }
/-- WELL_CTL.CLR_CHG (R335). -/
def WELL_CTL_CLR_CHG : Fld := { reg := 0x1C30, hi := 5, lo := 5, typ := .wo, rst := 0, keep := .V }
/-- WELL_CTL.LEND_STOP (R335). -/
def WELL_CTL_LEND_STOP : Fld := { reg := 0x1C30, hi := 4, lo := 4, typ := .wo, rst := 0, keep := .V }
/-- WELL_CTL.LEND_START (R335). -/
def WELL_CTL_LEND_START : Fld := { reg := 0x1C30, hi := 3, lo := 3, typ := .wo, rst := 0, keep := .V }
/-- WELL_CTL.SHIP (R335). -/
def WELL_CTL_SHIP : Fld := { reg := 0x1C30, hi := 2, lo := 2, typ := .wo, rst := 0, keep := .V }
/-- WELL_CTL.DORMANT (R335). -/
def WELL_CTL_DORMANT : Fld := { reg := 0x1C30, hi := 1, lo := 1, typ := .wo, rst := 0, keep := .V }
/-- WELL_STAT.CONV (R335). -/
def WELL_STAT_CONV : Fld := { reg := 0x1C40, hi := 31, lo := 28, typ := .ro, rst := 0, keep := .V }
/-- WELL_STAT.DIR (R335). -/
def WELL_STAT_DIR : Fld := { reg := 0x1C40, hi := 27, lo := 26, typ := .ro, rst := 0, keep := .V, run := true }
/-- WELL_STAT.FLOOR (R335). -/
def WELL_STAT_FLOOR : Fld := { reg := 0x1C40, hi := 25, lo := 25, typ := .ro, rst := 0, keep := .V, run := true }
/-- WELL_STAT.VALVE (R335). -/
def WELL_STAT_VALVE : Fld := { reg := 0x1C40, hi := 24, lo := 24, typ := .ro, rst := 0, keep := .V }
/-- WELL_STAT.VALVE_FAULT (R335). -/
def WELL_STAT_VALVE_FAULT : Fld := { reg := 0x1C40, hi := 23, lo := 23, typ := .ro, rst := 0, keep := .V }
/-- WELL_STAT.NO_PACK (R335). -/
def WELL_STAT_NO_PACK : Fld := { reg := 0x1C40, hi := 22, lo := 22, typ := .ro, rst := 1, keep := .V }
/-- WELL_STAT.CTRL_SPARE (R335). -/
def WELL_STAT_CTRL_SPARE : Fld := { reg := 0x1C40, hi := 21, lo := 21, typ := .ro, rst := 0, keep := .V }
/-- WELL_STAT.SOLO (R335). -/
def WELL_STAT_SOLO : Fld := { reg := 0x1C40, hi := 20, lo := 20, typ := .ro, rst := 0, keep := .V }
/-- WELL_STAT.HO (R335). -/
def WELL_STAT_HO : Fld := { reg := 0x1C40, hi := 19, lo := 17, typ := .ro, rst := 0, keep := .V }
/-- WELL_CSTAT.CHG (R335). -/
def WELL_CSTAT_CHG : Fld := { reg := 0x1C44, hi := 31, lo := 28, typ := .ro, rst := 0, keep := .V }
/-- WELL_CSTAT.ZONE (R335). -/
def WELL_CSTAT_ZONE : Fld := { reg := 0x1C44, hi := 27, lo := 25, typ := .ro, rst := 2, keep := .V }
/-- WELL_CSTAT.FOLD (R335). -/
def WELL_CSTAT_FOLD : Fld := { reg := 0x1C44, hi := 24, lo := 24, typ := .ro, rst := 0, keep := .V }
/-- WELL_CSTAT.DILATED (R335). -/
def WELL_CSTAT_DILATED : Fld := { reg := 0x1C44, hi := 23, lo := 23, typ := .ro, rst := 0, keep := .V }
/-- WELL_CSTAT.SUSP (R335). -/
def WELL_CSTAT_SUSP : Fld := { reg := 0x1C44, hi := 22, lo := 20, typ := .ro, rst := 0, keep := .V }
/-- WELL_CSTAT.CHG_FAULT (R335). -/
def WELL_CSTAT_CHG_FAULT : Fld := { reg := 0x1C44, hi := 19, lo := 19, typ := .ro, rst := 0, keep := .A }
/-- WELL_CSTAT.FLT_CAUSE (R335). -/
def WELL_CSTAT_FLT_CAUSE : Fld := { reg := 0x1C44, hi := 18, lo := 16, typ := .ro, rst := 0, keep := .A }
/-- WELL_TMR.COUNT (R335). -/
def WELL_TMR_COUNT : Fld := { reg := 0x1C48, hi := 31, lo := 16, typ := .ro, rst := 0, keep := .V, run := true }
/-- WELL_TMR.WALL (R335). -/
def WELL_TMR_WALL : Fld := { reg := 0x1C48, hi := 15, lo := 0, typ := .ro, rst := 0, keep := .V, run := true }
/-- WELL_MEAS.V_PACK (R335). -/
def WELL_MEAS_V_PACK : Fld := { reg := 0x1C4C, hi := 31, lo := 16, typ := .ro, rst := 0, keep := .V, run := true }
/-- WELL_MEAS.I_PACK (R335). -/
def WELL_MEAS_I_PACK : Fld := { reg := 0x1C4C, hi := 15, lo := 0, typ := .ro, rst := 0, keep := .V, run := true }
/-- WELL_MEAS2.T_PACK (R335). -/
def WELL_MEAS2_T_PACK : Fld := { reg := 0x1C50, hi := 31, lo := 16, typ := .ro, rst := 0, keep := .V, run := true }
/-- WELL_MEAS2.I_LEND (R335). -/
def WELL_MEAS2_I_LEND : Fld := { reg := 0x1C50, hi := 15, lo := 0, typ := .ro, rst := 0, keep := .V, run := true }
/-- WELL_EVT.HO (R335). -/
def WELL_EVT_HO : Fld := { reg := 0x1C54, hi := 31, lo := 24, typ := .rc, rst := 0, keep := .V }
/-- WELL_EVT.PRE (R335). -/
def WELL_EVT_PRE : Fld := { reg := 0x1C54, hi := 23, lo := 16, typ := .rc, rst := 0, keep := .V }
/-- WELL_EVT.HB (R335). -/
def WELL_EVT_HB : Fld := { reg := 0x1C54, hi := 15, lo := 8, typ := .rc, rst := 0, keep := .V }
/-- WELL_EVT.CHG_FLT (R335). -/
def WELL_EVT_CHG_FLT : Fld := { reg := 0x1C54, hi := 7, lo := 0, typ := .rc, rst := 0, keep := .V }
/-- WELL_CTLR.MISMATCH (R335). -/
def WELL_CTLR_MISMATCH : Fld := { reg := 0x1C58, hi := 31, lo := 24, typ := .ro, rst := 0, keep := .N }
/-- WELL_CTLR.HEALTH (R335). -/
def WELL_CTLR_HEALTH : Fld := { reg := 0x1C58, hi := 1, lo := 0, typ := .ro, rst := 0, keep := .N }
/-- EST_CFG.C_RATED (R356). -/
def EST_CFG_C_RATED : Fld := { reg := 0x1E00, hi := 31, lo := 16, typ := .rw, rst := 0x7d0, keep := .F, banked := true, rng := [(50, 6000)] }
/-- EST_CFG.LEARN_WT (R356). -/
def EST_CFG_LEARN_WT : Fld := { reg := 0x1E00, hi := 15, lo := 12, typ := .rw, rst := 4, keep := .F, banked := true, rng := [(1, 8)] }
/-- EST_CFG.DORM_INT (R356). -/
def EST_CFG_DORM_INT : Fld := { reg := 0x1E00, hi := 11, lo := 8, typ := .rw, rst := 1, keep := .F, banked := true, rng := [(1, 15)] }
/-- EST_CFG.LEARN_EN (R356). -/
def EST_CFG_LEARN_EN : Fld := { reg := 0x1E00, hi := 0, lo := 0, typ := .rw, rst := 1, keep := .F, banked := true }
/-- EST_LVL.SOC_WARN (R356). -/
def EST_LVL_SOC_WARN : Fld := { reg := 0x1E04, hi := 31, lo := 24, typ := .rw, rst := 0x14, keep := .F, banked := true, rng := [(1, 100)] }
/-- EST_LVL.SOC_CRIT (R356). -/
def EST_LVL_SOC_CRIT : Fld := { reg := 0x1E04, hi := 23, lo := 16, typ := .rw, rst := 0xa, keep := .F, banked := true, rng := [(1, 100)] }
/-- EST_LVL.I_EOD (R356). -/
def EST_LVL_I_EOD : Fld := { reg := 0x1E04, hi := 15, lo := 8, typ := .rw, rst := 0x32, keep := .F, banked := true, rng := [(5, 255)] }
/-- EST_LVL.T_EOD (R356). -/
def EST_LVL_T_EOD : Fld := { reg := 0x1E04, hi := 7, lo := 0, typ := .rw, rst := 0x3c, keep := .F, banked := true, rng := [(1, 255)] }
/-- EST_REC.REC_DIV (R356). -/
def EST_REC_REC_DIV : Fld := { reg := 0x1E08, hi := 15, lo := 8, typ := .rw, rst := 0, keep := .F, banked := true }
/-- EST_OCV_SEL.CHEM (R356). -/
def EST_OCV_SEL_CHEM : Fld := { reg := 0x1E0C, hi := 8, lo := 8, typ := .rw, rst := 0, keep := .V }
/-- EST_OCV_SEL.POINT (R356). -/
def EST_OCV_SEL_POINT : Fld := { reg := 0x1E0C, hi := 4, lo := 0, typ := .rw, rst := 0, keep := .V }
/-- EST_OCV.V (R356). -/
def EST_OCV_V : Fld := { reg := 0x1E10, hi := 15, lo := 0, typ := .rw, rst := 0, keep := .F, banked := true, rng := [(20000, 45000)] }
/-- EST_Z_SEL.TPT (R356). -/
def EST_Z_SEL_TPT : Fld := { reg := 0x1E14, hi := 6, lo := 4, typ := .rw, rst := 0, keep := .V, rng := [(0, 5)] }
/-- EST_Z_SEL.SBIN (R356). -/
def EST_Z_SEL_SBIN : Fld := { reg := 0x1E14, hi := 2, lo := 0, typ := .rw, rst := 0, keep := .V }
/-- EST_Z.UPDATES (R356). -/
def EST_Z_UPDATES : Fld := { reg := 0x1E18, hi := 23, lo := 16, typ := .ro, rst := 0, keep := .N }
/-- EST_Z.Z (R356). -/
def EST_Z_Z : Fld := { reg := 0x1E18, hi := 15, lo := 0, typ := .ro, rst := 0xc8, keep := .N }
/-- EST_STAT.SOC (R356). -/
def EST_STAT_SOC : Fld := { reg := 0x1E20, hi := 31, lo := 24, typ := .ro, rst := 0xff, keep := .A }
/-- EST_STAT.SOC_C (R356). -/
def EST_STAT_SOC_C : Fld := { reg := 0x1E20, hi := 23, lo := 16, typ := .ro, rst := 0xff, keep := .A }
/-- EST_STAT.CONFLICT (R356). -/
def EST_STAT_CONFLICT : Fld := { reg := 0x1E20, hi := 15, lo := 15, typ := .ro, rst := 0, keep := .A }
/-- EST_STAT.SLOW (R356). -/
def EST_STAT_SLOW : Fld := { reg := 0x1E20, hi := 14, lo := 14, typ := .ro, rst := 0, keep := .V }
/-- EST_STAT.WINDOW (R356). -/
def EST_STAT_WINDOW : Fld := { reg := 0x1E20, hi := 13, lo := 13, typ := .ro, rst := 0, keep := .A }
/-- EST_STAT.DRAW (R356). -/
def EST_STAT_DRAW : Fld := { reg := 0x1E20, hi := 12, lo := 12, typ := .ro, rst := 0, keep := .V }
/-- EST_STAT.SAVE_PEND (R356). -/
def EST_STAT_SAVE_PEND : Fld := { reg := 0x1E20, hi := 11, lo := 11, typ := .ro, rst := 0, keep := .V }
/-- EST_STAT.DATA_LOST (R356). -/
def EST_STAT_DATA_LOST : Fld := { reg := 0x1E20, hi := 10, lo := 10, typ := .ro, rst := 0, keep := .V }
/-- EST_STAT.LOW (R356). -/
def EST_STAT_LOW : Fld := { reg := 0x1E20, hi := 9, lo := 9, typ := .ro, rst := 0, keep := .V }
/-- EST_STAT.CRIT (R356). -/
def EST_STAT_CRIT : Fld := { reg := 0x1E20, hi := 8, lo := 8, typ := .ro, rst := 0, keep := .V }
/-- EST_CAP.C_LEARN (R356). -/
def EST_CAP_C_LEARN : Fld := { reg := 0x1E24, hi := 31, lo := 16, typ := .ro, rst := 0, keep := .N }
/-- EST_CAP.LEARNS (R356). -/
def EST_CAP_LEARNS : Fld := { reg := 0x1E24, hi := 15, lo := 8, typ := .ro, rst := 0, keep := .N }
/-- EST_CAP.REJECTS (R356). -/
def EST_CAP_REJECTS : Fld := { reg := 0x1E24, hi := 7, lo := 0, typ := .ro, rst := 0, keep := .N }
/-- EST_EFC.EFC (R356). -/
def EST_EFC_EFC : Fld := { reg := 0x1E28, hi := 31, lo := 0, typ := .ro, rst := 0, keep := .N }
/-- EST_REMAIN.REMAIN (R356). -/
def EST_REMAIN_REMAIN : Fld := { reg := 0x1E2C, hi := 31, lo := 16, typ := .ro, rst := 0xffff, keep := .V, run := true }
/-- EST_REMAIN.Q_DRAW (R356). -/
def EST_REMAIN_Q_DRAW : Fld := { reg := 0x1E2C, hi := 15, lo := 0, typ := .ro, rst := 0, keep := .V, run := true }
/-- EST_QC.QC (R356). -/
def EST_QC_QC : Fld := { reg := 0x1E30, hi := 31, lo := 0, typ := .ro, rst := 0, keep := .A, run := true }
/-- EST_EVT.CONFLICTS (R356). -/
def EST_EVT_CONFLICTS : Fld := { reg := 0x1E34, hi := 31, lo := 24, typ := .rc, rst := 0, keep := .V }
/-- EST_EVT.ABANDONED (R356). -/
def EST_EVT_ABANDONED : Fld := { reg := 0x1E34, hi := 23, lo := 16, typ := .rc, rst := 0, keep := .V }
/-- EST_EVT.DEFERRED (R356). -/
def EST_EVT_DEFERRED : Fld := { reg := 0x1E34, hi := 15, lo := 8, typ := .rc, rst := 0, keep := .V }
/-- EST_EVT.DORM_SAMPLES (R356). -/
def EST_EVT_DORM_SAMPLES : Fld := { reg := 0x1E34, hi := 7, lo := 0, typ := .rc, rst := 0, keep := .V }
/-- EST_CTL.KEY (R356). -/
def EST_CTL_KEY : Fld := { reg := 0x1E38, hi := 31, lo := 24, typ := .wo, rst := 0, keep := .V }
/-- EST_CTL.NEW_PACK (R356). -/
def EST_CTL_NEW_PACK : Fld := { reg := 0x1E38, hi := 3, lo := 3, typ := .wo, rst := 0, keep := .V }
/-- EST_CTL.RESYNC (R356). -/
def EST_CTL_RESYNC : Fld := { reg := 0x1E38, hi := 2, lo := 2, typ := .wo, rst := 0, keep := .V }
/-- EST_CTL.LEARN_STOP (R356). -/
def EST_CTL_LEARN_STOP : Fld := { reg := 0x1E38, hi := 1, lo := 1, typ := .wo, rst := 0, keep := .V }
/-- EST_CTL.LEARN_START (R356). -/
def EST_CTL_LEARN_START : Fld := { reg := 0x1E38, hi := 0, lo := 0, typ := .wo, rst := 0, keep := .V }
/-- TW_CFG.EN (R381). -/
def TW_CFG_EN : Fld := { reg := 0x2000, hi := 31, lo := 31, typ := .rwv, rst := 0, keep := .F, banked := true }
/-- TW_CFG.AUTO_LEND (R381). -/
def TW_CFG_AUTO_LEND : Fld := { reg := 0x2000, hi := 30, lo := 30, typ := .rw, rst := 1, keep := .F, banked := true }
/-- TW_CFG.AUTO_JOIN (R381). -/
def TW_CFG_AUTO_JOIN : Fld := { reg := 0x2000, hi := 29, lo := 29, typ := .rw, rst := 1, keep := .F, banked := true }
/-- TW_CFG.LEND_SOC (R381). -/
def TW_CFG_LEND_SOC : Fld := { reg := 0x2000, hi := 23, lo := 16, typ := .rw, rst := 0x32, keep := .F, banked := true, rng := [(10, 100)] }
/-- TW_CFG.RAMP (R381). -/
def TW_CFG_RAMP : Fld := { reg := 0x2000, hi := 15, lo := 8, typ := .rw, rst := 8, keep := .F, banked := true, rng := [(1, 255)] }
/-- TW_CFG.ANG_TOL (R381). -/
def TW_CFG_ANG_TOL : Fld := { reg := 0x2000, hi := 7, lo := 0, typ := .rw, rst := 4, keep := .F, banked := true, rng := [(1, 255)] }
/-- TW_SLOT.RAIL (R381). -/
def TW_SLOT_RAIL : Fld := { reg := 0x2010, hi := 31, lo := 24, typ := .rwv, rst := 0xff, keep := .F, banked := true, rng := [(1, 20), (255, 255)] }
/-- TW_SLOT.SHARE (R381). -/
def TW_SLOT_SHARE : Fld := { reg := 0x2010, hi := 23, lo := 16, typ := .rwv, rst := 0x32, keep := .F, banked := true, rng := [(10, 90)] }
/-- TW_SLOT.DROOP (R381). -/
def TW_SLOT_DROOP : Fld := { reg := 0x2010, hi := 15, lo := 8, typ := .rwv, rst := 0xa, keep := .F, banked := true, rng := [(1, 255)] }
/-- TW_CTL.REJOIN (R381). -/
def TW_CTL_REJOIN : Fld := { reg := 0x2030, hi := 2, lo := 2, typ := .wo, rst := 0, keep := .V }
/-- TW_CTL.JOIN (R381). -/
def TW_CTL_JOIN : Fld := { reg := 0x2030, hi := 1, lo := 1, typ := .wo, rst := 0, keep := .V }
/-- TW_CTL.LEAVE (R381). -/
def TW_CTL_LEAVE : Fld := { reg := 0x2030, hi := 0, lo := 0, typ := .wo, rst := 0, keep := .V }
/-- TW_STAT.STATE (R381). -/
def TW_STAT_STATE : Fld := { reg := 0x2040, hi := 31, lo := 28, typ := .ro, rst := 0, keep := .V }
/-- TW_STAT.ROLE (R381). -/
def TW_STAT_ROLE : Fld := { reg := 0x2040, hi := 27, lo := 27, typ := .ro, rst := 0, keep := .V }
/-- TW_STAT.PRESENT (R381). -/
def TW_STAT_PRESENT : Fld := { reg := 0x2040, hi := 26, lo := 26, typ := .ro, rst := 0, keep := .V }
/-- TW_STAT.HB (R381). -/
def TW_STAT_HB : Fld := { reg := 0x2040, hi := 25, lo := 25, typ := .ro, rst := 0, keep := .V }
/-- TW_STAT.TIME_REF (R381). -/
def TW_STAT_TIME_REF : Fld := { reg := 0x2040, hi := 24, lo := 24, typ := .ro, rst := 0, keep := .V }
/-- TW_STAT.SAFE_TO_PULL (R381). -/
def TW_STAT_SAFE_TO_PULL : Fld := { reg := 0x2040, hi := 23, lo := 23, typ := .ro, rst := 0, keep := .V }
/-- TW_STAT.PARTNER_LEFT (R381). -/
def TW_STAT_PARTNER_LEFT : Fld := { reg := 0x2040, hi := 22, lo := 22, typ := .ro, rst := 0, keep := .V }
/-- TW_STAT.EJECT (R381). -/
def TW_STAT_EJECT : Fld := { reg := 0x2040, hi := 21, lo := 21, typ := .ro, rst := 0, keep := .V }
/-- TW_STAT.DROOP (R381). -/
def TW_STAT_DROOP : Fld := { reg := 0x2040, hi := 15, lo := 8, typ := .ro, rst := 0, keep := .V }
/-- TW_STAT.CLOSED (R381). -/
def TW_STAT_CLOSED : Fld := { reg := 0x2040, hi := 7, lo := 0, typ := .ro, rst := 0, keep := .V }
/-- TW_CHECK.DISAGREE (R381). -/
def TW_CHECK_DISAGREE : Fld := { reg := 0x2044, hi := 31, lo := 24, typ := .ro, rst := 0, keep := .V }
/-- TW_CHECK.ANG_DIFF (R381). -/
def TW_CHECK_ANG_DIFF : Fld := { reg := 0x2044, hi := 15, lo := 0, typ := .ro, rst := 0, keep := .V, run := true }
/-- TW_PARTNER.SOC (R381). -/
def TW_PARTNER_SOC : Fld := { reg := 0x2048, hi := 31, lo := 24, typ := .ro, rst := 0xff, keep := .V }
/-- TW_PARTNER.STATE (R381). -/
def TW_PARTNER_STATE : Fld := { reg := 0x2048, hi := 23, lo := 20, typ := .ro, rst := 0, keep := .V }
/-- TW_PARTNER.PSTATE (R381). -/
def TW_PARTNER_PSTATE : Fld := { reg := 0x2048, hi := 19, lo := 17, typ := .ro, rst := 0, keep := .V }
/-- TW_PARTNER.FLAGS (R381). -/
def TW_PARTNER_FLAGS : Fld := { reg := 0x2048, hi := 16, lo := 9, typ := .ro, rst := 0, keep := .V }
/-- TW_PARTNER_CRC.CRC (R381). -/
def TW_PARTNER_CRC_CRC : Fld := { reg := 0x204C, hi := 31, lo := 0, typ := .ro, rst := 0, keep := .V }
/-- TW_LINK.CRC_ERR (R381). -/
def TW_LINK_CRC_ERR : Fld := { reg := 0x2050, hi := 31, lo := 16, typ := .rc, rst := 0, keep := .V }
/-- TW_LINK.CODE_ERR (R381). -/
def TW_LINK_CODE_ERR : Fld := { reg := 0x2050, hi := 15, lo := 8, typ := .rc, rst := 0, keep := .V }
/-- TW_LINK.LOSSES (R381). -/
def TW_LINK_LOSSES : Fld := { reg := 0x2050, hi := 7, lo := 0, typ := .rc, rst := 0, keep := .V }
/-- TW_EVT.JOINS (R381). -/
def TW_EVT_JOINS : Fld := { reg := 0x2054, hi := 31, lo := 24, typ := .rc, rst := 0, keep := .V }
/-- TW_EVT.LEAVES (R381). -/
def TW_EVT_LEAVES : Fld := { reg := 0x2054, hi := 23, lo := 16, typ := .rc, rst := 0, keep := .V }
/-- TW_EVT.REMOVALS (R381). -/
def TW_EVT_REMOVALS : Fld := { reg := 0x2054, hi := 15, lo := 8, typ := .rc, rst := 0, keep := .V }
/-- TW_EVT.REV_OPEN (R381). -/
def TW_EVT_REV_OPEN : Fld := { reg := 0x2054, hi := 7, lo := 0, typ := .rc, rst := 0, keep := .V }
/-- TW_I.PARTNER (R381). -/
def TW_I_PARTNER : Fld := { reg := 0x2060, hi := 31, lo := 16, typ := .ro, rst := 0, keep := .V, run := true }
/-- TW_I.OWN (R381). -/
def TW_I_OWN : Fld := { reg := 0x2060, hi := 15, lo := 0, typ := .ro, rst := 0, keep := .V, run := true }
/-- HR_STAT.LINK (R408). -/
def HR_STAT_LINK : Fld := { reg := 0x2200, hi := 31, lo := 30, typ := .ro, rst := 0, keep := .V }
/-- HR_STAT.SPEED (R408). -/
def HR_STAT_SPEED : Fld := { reg := 0x2200, hi := 29, lo := 28, typ := .ro, rst := 0, keep := .V }
/-- HR_STAT.BME (R408). -/
def HR_STAT_BME : Fld := { reg := 0x2200, hi := 27, lo := 27, typ := .ro, rst := 0, keep := .V }
/-- HR_STAT.MSIX_EN (R408). -/
def HR_STAT_MSIX_EN : Fld := { reg := 0x2200, hi := 26, lo := 26, typ := .ro, rst := 0, keep := .V }
/-- HR_STAT.MSIX_FMASK (R408). -/
def HR_STAT_MSIX_FMASK : Fld := { reg := 0x2200, hi := 25, lo := 25, typ := .ro, rst := 0, keep := .V }
/-- HR_STAT.D3HOT (R408). -/
def HR_STAT_D3HOT : Fld := { reg := 0x2200, hi := 24, lo := 24, typ := .ro, rst := 0, keep := .V }
/-- HR_STAT.MPS (R408). -/
def HR_STAT_MPS : Fld := { reg := 0x2200, hi := 23, lo := 21, typ := .ro, rst := 0, keep := .V }
/-- HR_STAT.MRRS (R408). -/
def HR_STAT_MRRS : Fld := { reg := 0x2200, hi := 20, lo := 18, typ := .ro, rst := 2, keep := .V }
/-- HR_CTL.ACTION (R408). -/
def HR_CTL_ACTION : Fld := { reg := 0x2204, hi := 9, lo := 8, typ := .wo, rst := 0, keep := .V }
/-- HR_CTL.RING (R408). -/
def HR_CTL_RING : Fld := { reg := 0x2204, hi := 4, lo := 0, typ := .wo, rst := 0, keep := .V }
/-- HR_EVT.LINK_DOWN (R408). -/
def HR_EVT_LINK_DOWN : Fld := { reg := 0x2208, hi := 31, lo := 24, typ := .rc, rst := 0, keep := .V }
/-- HR_EVT.HOT_RESET (R408). -/
def HR_EVT_HOT_RESET : Fld := { reg := 0x2208, hi := 23, lo := 16, typ := .rc, rst := 0, keep := .V }
/-- HR_EVT.DB_REFUSED (R408). -/
def HR_EVT_DB_REFUSED : Fld := { reg := 0x2208, hi := 15, lo := 8, typ := .rc, rst := 0, keep := .V }
/-- HR_EVT.EXEC_CRC (R408). -/
def HR_EVT_EXEC_CRC : Fld := { reg := 0x2208, hi := 7, lo := 0, typ := .rc, rst := 0, keep := .V }
/-- HR_UNROUTED.COUNT (R408). -/
def HR_UNROUTED_COUNT : Fld := { reg := 0x220C, hi := 31, lo := 0, typ := .rc, rst := 0, keep := .V, run := true }
/-- TQ_STAT.PEAK (R408). -/
def TQ_STAT_PEAK : Fld := { reg := 0x2210, hi := 13, lo := 8, typ := .rc, rst := 0, keep := .V, run := true }
/-- TQ_STAT.ENTRIES (R408). -/
def TQ_STAT_ENTRIES : Fld := { reg := 0x2210, hi := 5, lo := 0, typ := .ro, rst := 0, keep := .V, run := true }
/-- RR_ROUTE_EN.EN (R408). -/
def RR_ROUTE_EN_EN : Fld := { reg := 0x2214, hi := 14, lo := 1, typ := .rw, rst := 0x3dbc, keep := .F, banked := true }
/-- RR_ROUTE0.RING (R408). -/
def RR_ROUTE0_RING : Fld := { reg := 0x2218, hi := 31, lo := 0, typ := .rw, rst := 0, keep := .F, banked := true }
/-- RR_ROUTE1.RING (R408). -/
def RR_ROUTE1_RING : Fld := { reg := 0x221C, hi := 23, lo := 0, typ := .rw, rst := 0, keep := .F, banked := true }
/-- HR_SEL.RING (R408). -/
def HR_SEL_RING : Fld := { reg := 0x2220, hi := 4, lo := 0, typ := .rw, rst := 0, keep := .V }
/-- HR_RATE.TOTAL (R408). -/
def HR_RATE_TOTAL : Fld := { reg := 0x2224, hi := 31, lo := 0, typ := .ro, rst := 0, keep := .V }
/-- HR_ERR.VALID (R408). -/
def HR_ERR_VALID : Fld := { reg := 0x2228, hi := 15, lo := 15, typ := .ro, rst := 0, keep := .V }
/-- HR_ERR.RING (R408). -/
def HR_ERR_RING : Fld := { reg := 0x2228, hi := 4, lo := 0, typ := .ro, rst := 0, keep := .V }
/-- RG_BASE_LO.BASE (R408). -/
def RG_BASE_LO_BASE : Fld := { reg := 0x2240, hi := 31, lo := 6, typ := .rw, rst := 0, keep := .V }
/-- RG_BASE_HI.BASE_HI (R408). -/
def RG_BASE_HI_BASE_HI : Fld := { reg := 0x2244, hi := 31, lo := 0, typ := .rw, rst := 0, keep := .V }
/-- RG_CFG.SEQ_CHK (R408). -/
def RG_CFG_SEQ_CHK : Fld := { reg := 0x2248, hi := 8, lo := 8, typ := .rw, rst := 0, keep := .V }
/-- RG_CFG.DEPTH_LOG2 (R408). -/
def RG_CFG_DEPTH_LOG2 : Fld := { reg := 0x2248, hi := 3, lo := 0, typ := .rw, rst := 4, keep := .V, rng := [(4, 12)] }
/-- RG_DECL.RATE (R408). -/
def RG_DECL_RATE : Fld := { reg := 0x224C, hi := 23, lo := 0, typ := .rw, rst := 0, keep := .F, banked := true, rng := [(0, 9765625)] }
/-- RG_SVC.SVC (R408). -/
def RG_SVC_SVC : Fld := { reg := 0x2250, hi := 15, lo := 0, typ := .rw, rst := 0x64, keep := .F, banked := true, rng := [(1, 65535)] }
/-- RG_IRQ.IRQ_TIME (R408). -/
def RG_IRQ_IRQ_TIME : Fld := { reg := 0x2254, hi := 31, lo := 16, typ := .rw, rst := 0, keep := .F, banked := true }
/-- RG_IRQ.IRQ_CNT (R408). -/
def RG_IRQ_IRQ_CNT : Fld := { reg := 0x2254, hi := 15, lo := 8, typ := .rw, rst := 1, keep := .F, banked := true }
/-- RG_IRQ.VEC (R408). -/
def RG_IRQ_VEC : Fld := { reg := 0x2254, hi := 4, lo := 0, typ := .rw, rst := 0x1f, keep := .F, banked := true }
/-- RG_STAT.STATE (R408). -/
def RG_STAT_STATE : Fld := { reg := 0x2258, hi := 31, lo := 28, typ := .ro, rst := 0, keep := .V }
/-- RG_STAT.CAUSE (R408). -/
def RG_STAT_CAUSE : Fld := { reg := 0x2258, hi := 27, lo := 24, typ := .ro, rst := 0, keep := .V }
/-- RG_STAT.DEV_POS (R408). -/
def RG_STAT_DEV_POS : Fld := { reg := 0x2258, hi := 12, lo := 0, typ := .ro, rst := 0, keep := .V, run := true }
/-- RG_HOST.EXPECT_SEQ (R408). -/
def RG_HOST_EXPECT_SEQ : Fld := { reg := 0x225C, hi := 31, lo := 16, typ := .ro, rst := 0, keep := .V, run := true }
/-- RG_HOST.HOST_POS (R408). -/
def RG_HOST_HOST_POS : Fld := { reg := 0x225C, hi := 12, lo := 0, typ := .ro, rst := 0, keep := .V, run := true }
/-- RG_EVT.DROPS (R408). -/
def RG_EVT_DROPS : Fld := { reg := 0x2260, hi := 31, lo := 16, typ := .rc, rst := 0, keep := .V }
/-- RG_EVT.QPEAK (R408). -/
def RG_EVT_QPEAK : Fld := { reg := 0x2260, hi := 15, lo := 8, typ := .rc, rst := 0, keep := .V, run := true }
/-- RG_EVT.CRC_FAIL (R408). -/
def RG_EVT_CRC_FAIL : Fld := { reg := 0x2260, hi := 7, lo := 0, typ := .rc, rst := 0, keep := .V }
/-- MEAS_GCFG.OW_PER (R427). -/
def MEAS_GCFG_OW_PER : Fld := { reg := 0x2400, hi := 31, lo := 24, typ := .rw, rst := 0xa, keep := .F, banked := true, rng := [(1, 255)] }
/-- MEAS_GCFG.OW_THR (R427). -/
def MEAS_GCFG_OW_THR : Fld := { reg := 0x2400, hi := 23, lo := 16, typ := .rw, rst := 0x14, keep := .F, banked := true, rng := [(1, 255)] }
/-- MEAS_GCFG.OW_I (R427). -/
def MEAS_GCFG_OW_I : Fld := { reg := 0x2400, hi := 15, lo := 15, typ := .rw, rst := 0, keep := .F, banked := true }
/-- MEAS_GCFG.TRIG_EDGE (R427). -/
def MEAS_GCFG_TRIG_EDGE : Fld := { reg := 0x2400, hi := 14, lo := 14, typ := .rw, rst := 0, keep := .F, banked := true }
/-- MEAS_BLK.EN (R427). -/
def MEAS_BLK_EN : Fld := { reg := 0x2404, hi := 31, lo := 31, typ := .rw, rst := 0, keep := .F, banked := true }
/-- MEAS_BLK.PAIR (R427). -/
def MEAS_BLK_PAIR : Fld := { reg := 0x2404, hi := 4, lo := 4, typ := .rw, rst := 0, keep := .F, banked := true }
/-- MEAS_BLK.SRC (R427). -/
def MEAS_BLK_SRC : Fld := { reg := 0x2404, hi := 2, lo := 0, typ := .rw, rst := 0, keep := .F, banked := true }
/-- MEAS_OW.MODE (R427). -/
def MEAS_OW_MODE : Fld := { reg := 0x2408, hi := 31, lo := 0, typ := .rw, rst := 0, keep := .F, banked := true }
/-- MEAS_STAT.FREE0 (R427). -/
def MEAS_STAT_FREE0 : Fld := { reg := 0x2410, hi := 31, lo := 27, typ := .ro, rst := 0x10, keep := .V }
/-- MEAS_STAT.FREE1 (R427). -/
def MEAS_STAT_FREE1 : Fld := { reg := 0x2410, hi := 26, lo := 22, typ := .ro, rst := 0x10, keep := .V }
/-- MEAS_STAT.BLK_ACTIVE (R427). -/
def MEAS_STAT_BLK_ACTIVE : Fld := { reg := 0x2410, hi := 21, lo := 21, typ := .ro, rst := 0, keep := .V }
/-- MEAS_STAT.OPEN (R427). -/
def MEAS_STAT_OPEN : Fld := { reg := 0x2410, hi := 15, lo := 0, typ := .ro, rst := 0, keep := .V }
/-- MEAS_EVT.BORROWED (R427). -/
def MEAS_EVT_BORROWED : Fld := { reg := 0x2414, hi := 31, lo := 16, typ := .rc, rst := 0, keep := .V, run := true }
/-- MEAS_EVT.OPEN_EVENTS (R427). -/
def MEAS_EVT_OPEN_EVENTS : Fld := { reg := 0x2414, hi := 15, lo := 8, typ := .rc, rst := 0, keep := .V }
/-- MEAS_EVT.XCHK_FAIL (R427). -/
def MEAS_EVT_XCHK_FAIL : Fld := { reg := 0x2414, hi := 7, lo := 0, typ := .rc, rst := 0, keep := .V }
/-- MEAS_XCHK.DIFF (R427). -/
def MEAS_XCHK_DIFF : Fld := { reg := 0x2418, hi := 31, lo := 16, typ := .ro, rst := 0, keep := .V }
/-- MS_CFG.TRIG (R427). -/
def MS_CFG_TRIG : Fld := { reg := 0x2440, hi := 31, lo := 30, typ := .rw, rst := 0, keep := .F, banked := true }
/-- MS_CFG.CH (R427). -/
def MS_CFG_CH : Fld := { reg := 0x2440, hi := 29, lo := 24, typ := .rw, rst := 0, keep := .F, banked := true }
/-- MS_CFG.SLOTS_LOG2 (R427). -/
def MS_CFG_SLOTS_LOG2 : Fld := { reg := 0x2440, hi := 22, lo := 20, typ := .rw, rst := 0, keep := .F, banked := true, rng := [(0, 4)] }
/-- MS_CFG.FRAME_DIV (R427). -/
def MS_CFG_FRAME_DIV : Fld := { reg := 0x2440, hi := 19, lo := 12, typ := .rw, rst := 0, keep := .F, banked := true }
/-- MS_CFG.BLOCKS (R427). -/
def MS_CFG_BLOCKS : Fld := { reg := 0x2440, hi := 7, lo := 0, typ := .rw, rst := 1, keep := .F, banked := true }
/-- MS_FILT.N (R427). -/
def MS_FILT_N : Fld := { reg := 0x2444, hi := 26, lo := 24, typ := .rw, rst := 0, keep := .F, banked := true, rng := [(0, 4)] }
/-- MS_FILT.AVG (R427). -/
def MS_FILT_AVG : Fld := { reg := 0x2444, hi := 15, lo := 8, typ := .rw, rst := 0, keep := .F, banked := true }
/-- MS_FILT.SHIFT (R427). -/
def MS_FILT_SHIFT : Fld := { reg := 0x2444, hi := 3, lo := 0, typ := .rw, rst := 0, keep := .F, banked := true, rng := [(0, 8)] }
/-- MS_RES.COUNT (R427). -/
def MS_RES_COUNT : Fld := { reg := 0x2448, hi := 31, lo := 16, typ := .ro, rst := 0, keep := .V, run := true }
/-- MS_RES.VALUE (R427). -/
def MS_RES_VALUE : Fld := { reg := 0x2448, hi := 15, lo := 0, typ := .ro, rst := 0xffff, keep := .V, run := true }
/-- MS_STAT.STATE (R427). -/
def MS_STAT_STATE : Fld := { reg := 0x244C, hi := 31, lo := 28, typ := .ro, rst := 0, keep := .V }
/-- MS_STAT.TRIG_MISSED (R427). -/
def MS_STAT_TRIG_MISSED : Fld := { reg := 0x244C, hi := 23, lo := 16, typ := .rc, rst := 0, keep := .V }
/-- MS_STAT.DISPLACED (R427). -/
def MS_STAT_DISPLACED : Fld := { reg := 0x244C, hi := 15, lo := 0, typ := .rc, rst := 0, keep := .V, run := true }
/-- MET_CFG.PULSE_QTY (R453). -/
def MET_CFG_PULSE_QTY : Fld := { reg := 0x2600, hi := 3, lo := 2, typ := .rw, rst := 0, keep := .V, banked := true }
/-- MET_CFG.CADENCE (R453). -/
def MET_CFG_CADENCE : Fld := { reg := 0x2600, hi := 1, lo := 0, typ := .rw, rst := 0, keep := .V, banked := true, rng := [(0, 2)] }
/-- MET_STAT.LIFE (R453). -/
def MET_STAT_LIFE : Fld := { reg := 0x2604, hi := 31, lo := 30, typ := .ro, rst := 0, keep := .V }
/-- MET_STAT.LINK (R453). -/
def MET_STAT_LINK : Fld := { reg := 0x2604, hi := 29, lo := 29, typ := .ro, rst := 0, keep := .V }
/-- MET_STAT.INTEGRITY (R453). -/
def MET_STAT_INTEGRITY : Fld := { reg := 0x2604, hi := 28, lo := 28, typ := .ro, rst := 0, keep := .V }
/-- MET_STAT.CHECK (R453). -/
def MET_STAT_CHECK : Fld := { reg := 0x2604, hi := 27, lo := 27, typ := .ro, rst := 0, keep := .V }
/-- MET_STAT.OVER (R453). -/
def MET_STAT_OVER : Fld := { reg := 0x2604, hi := 26, lo := 26, typ := .ro, rst := 0, keep := .V }
/-- MET_STAT.TIME_OK (R453). -/
def MET_STAT_TIME_OK : Fld := { reg := 0x2604, hi := 25, lo := 25, typ := .ro, rst := 0, keep := .V }
/-- MET_STAT.CAL_EN (R453). -/
def MET_STAT_CAL_EN : Fld := { reg := 0x2604, hi := 24, lo := 24, typ := .ro, rst := 0, keep := .V }
/-- MET_STAT.QUEUED (R453). -/
def MET_STAT_QUEUED : Fld := { reg := 0x2604, hi := 15, lo := 0, typ := .ro, rst := 0, keep := .V, run := true }
/-- MET_LINK.CRC_ERR (R453). -/
def MET_LINK_CRC_ERR : Fld := { reg := 0x2608, hi := 31, lo := 24, typ := .rc, rst := 0, keep := .V }
/-- MET_LINK.LOSSES (R453). -/
def MET_LINK_LOSSES : Fld := { reg := 0x2608, hi := 23, lo := 16, typ := .rc, rst := 0, keep := .V }
/-- MET_LINK.BAD_CMD (R453). -/
def MET_LINK_BAD_CMD : Fld := { reg := 0x2608, hi := 15, lo := 8, typ := .rc, rst := 0, keep := .V }
/-- MET_LINK.LOST (R453). -/
def MET_LINK_LOST : Fld := { reg := 0x2608, hi := 7, lo := 0, typ := .rc, rst := 0, keep := .V }
/-- MET_SEAL.EVENTS (R453). -/
def MET_SEAL_EVENTS : Fld := { reg := 0x260C, hi := 27, lo := 16, typ := .ro, rst := 0, keep := .V }
/-- MET_SEAL.RESTARTS (R453). -/
def MET_SEAL_RESTARTS : Fld := { reg := 0x260C, hi := 15, lo := 0, typ := .ro, rst := 0, keep := .V }
/-- MET_LAST.SEQ (R453). -/
def MET_LAST_SEQ : Fld := { reg := 0x2610, hi := 31, lo := 16, typ := .ro, rst := 0, keep := .V }
/-- MET_LAST.FLAGS (R453). -/
def MET_LAST_FLAGS : Fld := { reg := 0x2610, hi := 3, lo := 0, typ := .ro, rst := 0, keep := .V }
/-- RTC_CTL.KEY (R473). -/
def RTC_CTL_KEY : Fld := { reg := 0x2800, hi := 31, lo := 24, typ := .wo, rst := 0, keep := .V }
/-- RTC_CTL.HALT_CLR (R473). -/
def RTC_CTL_HALT_CLR : Fld := { reg := 0x2800, hi := 1, lo := 1, typ := .wo, rst := 0, keep := .V }
/-- RTC_CTL.HALT_SET (R473). -/
def RTC_CTL_HALT_SET : Fld := { reg := 0x2800, hi := 0, lo := 0, typ := .wo, rst := 0, keep := .V }
/-- RTC_STAT.HALTED (R473). -/
def RTC_STAT_HALTED : Fld := { reg := 0x2804, hi := 31, lo := 31, typ := .ro, rst := 0, keep := .A }
/-- RTC_STAT.XTAL_FAIL (R473). -/
def RTC_STAT_XTAL_FAIL : Fld := { reg := 0x2804, hi := 30, lo := 30, typ := .ro, rst := 1, keep := .A }
/-- RTC_STAT.TIME_VALID (R473). -/
def RTC_STAT_TIME_VALID : Fld := { reg := 0x2804, hi := 29, lo := 29, typ := .ro, rst := 0, keep := .A }
/-- RTC_STAT.DISCONT (R473). -/
def RTC_STAT_DISCONT : Fld := { reg := 0x2804, hi := 28, lo := 28, typ := .ro, rst := 0, keep := .A }
/-- RTC_STAT.ALM1 (R473). -/
def RTC_STAT_ALM1 : Fld := { reg := 0x2804, hi := 25, lo := 25, typ := .rc, rst := 0, keep := .A }
/-- RTC_STAT.ALM0 (R473). -/
def RTC_STAT_ALM0 : Fld := { reg := 0x2804, hi := 24, lo := 24, typ := .rc, rst := 0, keep := .A }
/-- RTC_STAT.SHIFT_LEFT (R473). -/
def RTC_STAT_SHIFT_LEFT : Fld := { reg := 0x2804, hi := 15, lo := 0, typ := .ro, rst := 0, keep := .A, run := true }
/-- RTC_TRIM.TRIM (R473). -/
def RTC_TRIM_TRIM : Fld := { reg := 0x2808, hi := 7, lo := 0, typ := .rw, rst := 0, keep := .F }
/-- RTC_SHIFT.AMOUNT (R473). -/
def RTC_SHIFT_AMOUNT : Fld := { reg := 0x280C, hi := 15, lo := 0, typ := .wo, rst := 0, keep := .V }
/-- RTC_SUBSEC.SUBSEC (R473). -/
def RTC_SUBSEC_SUBSEC : Fld := { reg := 0x2810, hi := 14, lo := 0, typ := .ro, rst := 0, keep := .A, run := true }
/-- RTC_TIME.STALE (R473). -/
def RTC_TIME_STALE : Fld := { reg := 0x2814, hi := 31, lo := 31, typ := .ro, rst := 0, keep := .V, run := true }
/-- RTC_TIME.WDAY (R473). -/
def RTC_TIME_WDAY : Fld := { reg := 0x2814, hi := 26, lo := 24, typ := .ro, rst := 5, keep := .A, run := true }
/-- RTC_TIME.HOUR (R473). -/
def RTC_TIME_HOUR : Fld := { reg := 0x2814, hi := 20, lo := 16, typ := .rw, rst := 0, keep := .A, run := true, rng := [(0, 23)] }
/-- RTC_TIME.MIN (R473). -/
def RTC_TIME_MIN : Fld := { reg := 0x2814, hi := 13, lo := 8, typ := .rw, rst := 0, keep := .A, run := true, rng := [(0, 59)] }
/-- RTC_TIME.SEC (R473). -/
def RTC_TIME_SEC : Fld := { reg := 0x2814, hi := 5, lo := 0, typ := .rw, rst := 0, keep := .A, run := true, rng := [(0, 59)] }
/-- RTC_DATE.STALE (R473). -/
def RTC_DATE_STALE : Fld := { reg := 0x2818, hi := 31, lo := 31, typ := .ro, rst := 0, keep := .V, run := true }
/-- RTC_DATE.YEAR (R473). -/
def RTC_DATE_YEAR : Fld := { reg := 0x2818, hi := 22, lo := 16, typ := .rw, rst := 0, keep := .A, run := true, rng := [(0, 99)] }
/-- RTC_DATE.MONTH (R473). -/
def RTC_DATE_MONTH : Fld := { reg := 0x2818, hi := 11, lo := 8, typ := .rw, rst := 1, keep := .A, run := true, rng := [(1, 12)] }
/-- RTC_DATE.DAY (R473). -/
def RTC_DATE_DAY : Fld := { reg := 0x2818, hi := 4, lo := 0, typ := .rw, rst := 1, keep := .A, run := true, rng := [(1, 31)] }
/-- ALM_CFG.EN (R473). -/
def ALM_CFG_EN : Fld := { reg := 0x2820, hi := 31, lo := 31, typ := .rw, rst := 0, keep := .A }
/-- ALM_CFG.WAKE (R473). -/
def ALM_CFG_WAKE : Fld := { reg := 0x2820, hi := 30, lo := 30, typ := .rw, rst := 0, keep := .A }
/-- ALM_CFG.MASK (R473). -/
def ALM_CFG_MASK : Fld := { reg := 0x2820, hi := 29, lo := 24, typ := .rw, rst := 0, keep := .A }
/-- ALM_CFG.WDAY (R473). -/
def ALM_CFG_WDAY : Fld := { reg := 0x2820, hi := 18, lo := 16, typ := .rw, rst := 0, keep := .A, rng := [(0, 6)] }
/-- ALM_CFG.MONTH (R473). -/
def ALM_CFG_MONTH : Fld := { reg := 0x2820, hi := 11, lo := 8, typ := .rw, rst := 1, keep := .A, rng := [(1, 12)] }
/-- ALM_CFG.DAY (R473). -/
def ALM_CFG_DAY : Fld := { reg := 0x2820, hi := 4, lo := 0, typ := .rw, rst := 1, keep := .A, rng := [(1, 31)] }
/-- ALM_TIME.HOUR (R473). -/
def ALM_TIME_HOUR : Fld := { reg := 0x2824, hi := 20, lo := 16, typ := .rw, rst := 0, keep := .A, rng := [(0, 23)] }
/-- ALM_TIME.MIN (R473). -/
def ALM_TIME_MIN : Fld := { reg := 0x2824, hi := 13, lo := 8, typ := .rw, rst := 0, keep := .A, rng := [(0, 59)] }
/-- ALM_TIME.SEC (R473). -/
def ALM_TIME_SEC : Fld := { reg := 0x2824, hi := 5, lo := 0, typ := .rw, rst := 0, keep := .A, rng := [(0, 59)] }
/-- RTC_SQW.MODE (R473). -/
def RTC_SQW_MODE : Fld := { reg := 0x2840, hi := 8, lo := 8, typ := .rw, rst := 0, keep := .A }
/-- RTC_SQW.FREQ (R473). -/
def RTC_SQW_FREQ : Fld := { reg := 0x2840, hi := 4, lo := 0, typ := .rw, rst := 0, keep := .A, rng := [(0, 16)] }
/-- TM_GCTL.STOP (R474). -/
def TM_GCTL_STOP : Fld := { reg := 0x2A00, hi := 15, lo := 8, typ := .wo, rst := 0, keep := .V }
/-- TM_GCTL.START (R474). -/
def TM_GCTL_START : Fld := { reg := 0x2A00, hi := 7, lo := 0, typ := .wo, rst := 0, keep := .V }
/-- TM_RUN.RUN (R474). -/
def TM_RUN_RUN : Fld := { reg := 0x2A04, hi := 7, lo := 0, typ := .ro, rst := 0, keep := .V }
/-- TM_CFG.CLK (R474). -/
def TM_CFG_CLK : Fld := { reg := 0x2A40, hi := 31, lo := 29, typ := .rw, rst := 0, keep := .F, banked := true }
/-- TM_CFG.ONESHOT (R474). -/
def TM_CFG_ONESHOT : Fld := { reg := 0x2A40, hi := 28, lo := 28, typ := .rw, rst := 0, keep := .F, banked := true }
/-- TM_CFG.GATE_EN (R474). -/
def TM_CFG_GATE_EN : Fld := { reg := 0x2A40, hi := 27, lo := 27, typ := .rw, rst := 0, keep := .F, banked := true }
/-- TM_CFG.GATE_LVL (R474). -/
def TM_CFG_GATE_LVL : Fld := { reg := 0x2A40, hi := 26, lo := 26, typ := .rw, rst := 1, keep := .F, banked := true }
/-- TM_CFG.CLR_GATE (R474). -/
def TM_CFG_CLR_GATE : Fld := { reg := 0x2A40, hi := 25, lo := 25, typ := .rw, rst := 0, keep := .F, banked := true }
/-- TM_CFG.CMP_EVT (R474). -/
def TM_CFG_CMP_EVT : Fld := { reg := 0x2A40, hi := 23, lo := 23, typ := .rw, rst := 0, keep := .F, banked := true }
/-- TM_CFG.GATE_SEL (R474). -/
def TM_CFG_GATE_SEL : Fld := { reg := 0x2A40, hi := 22, lo := 16, typ := .rw, rst := 0x40, keep := .F, banked := true }
/-- TM_CFG.CAP_SEL (R474). -/
def TM_CFG_CAP_SEL : Fld := { reg := 0x2A40, hi := 14, lo := 8, typ := .rw, rst := 0x40, keep := .F, banked := true }
/-- TM_CFG.CAP_EDGE (R474). -/
def TM_CFG_CAP_EDGE : Fld := { reg := 0x2A40, hi := 7, lo := 6, typ := .rw, rst := 0, keep := .F, banked := true }
/-- TM_TOP.VALUE (R474). -/
def TM_TOP_VALUE : Fld := { reg := 0x2A44, hi := 31, lo := 0, typ := .rw, rst := 0xffffffff, keep := .V }
/-- TM_CMP.VALUE (R474). -/
def TM_CMP_VALUE : Fld := { reg := 0x2A48, hi := 31, lo := 0, typ := .rw, rst := 0xffffffff, keep := .V }
/-- TM_CNT.VALUE (R474). -/
def TM_CNT_VALUE : Fld := { reg := 0x2A4C, hi := 31, lo := 0, typ := .ro, rst := 0, keep := .V, run := true }
/-- TM_CAPT.VALUE (R474). -/
def TM_CAPT_VALUE : Fld := { reg := 0x2A50, hi := 31, lo := 0, typ := .ro, rst := 0, keep := .V, run := true }
/-- TM_MAX.VALUE (R474). -/
def TM_MAX_VALUE : Fld := { reg := 0x2A54, hi := 31, lo := 0, typ := .rc, rst := 0, keep := .V, run := true }
/-- TM_STAT.CAPS (R474). -/
def TM_STAT_CAPS : Fld := { reg := 0x2A58, hi := 31, lo := 16, typ := .rc, rst := 0, keep := .V, run := true }
/-- TM_STAT.OVR (R474). -/
def TM_STAT_OVR : Fld := { reg := 0x2A58, hi := 4, lo := 4, typ := .rc, rst := 0, keep := .V }
/-- TM_STAT.CAP (R474). -/
def TM_STAT_CAP : Fld := { reg := 0x2A58, hi := 3, lo := 3, typ := .rc, rst := 0, keep := .V }
/-- TM_STAT.CMP (R474). -/
def TM_STAT_CMP : Fld := { reg := 0x2A58, hi := 2, lo := 2, typ := .rc, rst := 0, keep := .V }
/-- TM_STAT.WRAP (R474). -/
def TM_STAT_WRAP : Fld := { reg := 0x2A58, hi := 1, lo := 1, typ := .rc, rst := 0, keep := .V }
/-- TM_STAT.GATE (R474). -/
def TM_STAT_GATE : Fld := { reg := 0x2A58, hi := 0, lo := 0, typ := .ro, rst := 0, keep := .V, run := true }
/-- TM_CTL.LOAD (R474). -/
def TM_CTL_LOAD : Fld := { reg := 0x2A5C, hi := 1, lo := 1, typ := .wo, rst := 0, keep := .V }
/-- TM_CTL.CLR (R474). -/
def TM_CTL_CLR : Fld := { reg := 0x2A5C, hi := 0, lo := 0, typ := .wo, rst := 0, keep := .V }
/-- WDT_CFG.GRACE (R489). -/
def WDT_CFG_GRACE : Fld := { reg := 0x2C00, hi := 31, lo := 24, typ := .rwv, rst := 0x32, keep := .F, banked := true, rng := [(1, 255)] }
/-- WDT_CFG.HRST_W (R489). -/
def WDT_CFG_HRST_W : Fld := { reg := 0x2C00, hi := 23, lo := 16, typ := .rwv, rst := 0xa, keep := .F, banked := true, rng := [(1, 255)] }
/-- WDT_CFG.CLEAN (R489). -/
def WDT_CFG_CLEAN : Fld := { reg := 0x2C00, hi := 15, lo := 8, typ := .rwv, rst := 0x3c, keep := .F, banked := true, rng := [(1, 255)] }
/-- WDT_CFG.N_ATT (R489). -/
def WDT_CFG_N_ATT : Fld := { reg := 0x2C00, hi := 7, lo := 4, typ := .rwv, rst := 3, keep := .F, banked := true, rng := [(1, 15)] }
/-- WDT_SERVE.SLOT (R489). -/
def WDT_SERVE_SLOT : Fld := { reg := 0x2C04, hi := 20, lo := 16, typ := .wo, rst := 0, keep := .V }
/-- WDT_SERVE.KEY (R489). -/
def WDT_SERVE_KEY : Fld := { reg := 0x2C04, hi := 15, lo := 0, typ := .wo, rst := 0, keep := .V }
/-- WDT_CTL.KEY (R489). -/
def WDT_CTL_KEY : Fld := { reg := 0x2C08, hi := 31, lo := 24, typ := .wo, rst := 0, keep := .V }
/-- WDT_CTL.STOP (R489). -/
def WDT_CTL_STOP : Fld := { reg := 0x2C08, hi := 1, lo := 1, typ := .wo, rst := 0, keep := .V }
/-- WDT_CTL.START (R489). -/
def WDT_CTL_START : Fld := { reg := 0x2C08, hi := 0, lo := 0, typ := .wo, rst := 0, keep := .V }
/-- WDT_STAT.STEP (R489). -/
def WDT_STAT_STEP : Fld := { reg := 0x2C0C, hi := 31, lo := 28, typ := .ro, rst := 0, keep := .V }
/-- WDT_STAT.ATTEMPTS (R489). -/
def WDT_STAT_ATTEMPTS : Fld := { reg := 0x2C0C, hi := 27, lo := 24, typ := .ro, rst := 0, keep := .A }
/-- WDT_STAT.RUNNING (R489). -/
def WDT_STAT_RUNNING : Fld := { reg := 0x2C0C, hi := 23, lo := 23, typ := .ro, rst := 0, keep := .V }
/-- WDT_STAT.HWSTART (R489). -/
def WDT_STAT_HWSTART : Fld := { reg := 0x2C0C, hi := 22, lo := 22, typ := .ro, rst := 0, keep := .V }
/-- WDT_STAT.GRACE (R489). -/
def WDT_STAT_GRACE : Fld := { reg := 0x2C0C, hi := 21, lo := 21, typ := .ro, rst := 0, keep := .V }
/-- WDT_STAT.FAULTED (R489). -/
def WDT_STAT_FAULTED : Fld := { reg := 0x2C0C, hi := 15, lo := 0, typ := .rc, rst := 0, keep := .V }
/-- WDT_EVT.EXPIRED (R489). -/
def WDT_EVT_EXPIRED : Fld := { reg := 0x2C10, hi := 31, lo := 24, typ := .rc, rst := 0, keep := .V }
/-- WDT_EVT.EARLY (R489). -/
def WDT_EVT_EARLY : Fld := { reg := 0x2C10, hi := 23, lo := 16, typ := .rc, rst := 0, keep := .V }
/-- WDT_EVT.KEY (R489). -/
def WDT_EVT_KEY : Fld := { reg := 0x2C10, hi := 15, lo := 8, typ := .rc, rst := 0, keep := .V }
/-- WDT_EVT.STEPS (R489). -/
def WDT_EVT_STEPS : Fld := { reg := 0x2C10, hi := 7, lo := 0, typ := .rc, rst := 0, keep := .V }
/-- WDT_LADDER.PERIOD (R489). -/
def WDT_LADDER_PERIOD : Fld := { reg := 0x2C14, hi := 23, lo := 0, typ := .ro, rst := 0xf4240, keep := .V }
/-- SLOT_CFG.EN (R489). -/
def SLOT_CFG_EN : Fld := { reg := 0x2C40, hi := 31, lo := 31, typ := .rwv, rst := 0, keep := .F, banked := true }
/-- SLOT_CFG.OPEN (R489). -/
def SLOT_CFG_OPEN : Fld := { reg := 0x2C40, hi := 23, lo := 0, typ := .rwv, rst := 1, keep := .F, banked := true, rng := [(1, 16777214)] }
/-- SLOT_CLOSE.CLOSE (R489). -/
def SLOT_CLOSE_CLOSE : Fld := { reg := 0x2C44, hi := 23, lo := 0, typ := .rwv, rst := 0xf4240, keep := .F, banked := true, rng := [(11, 16777215)] }
/-- SLOT_STAT.LAST (R489). -/
def SLOT_STAT_LAST : Fld := { reg := 0x2C48, hi := 31, lo := 28, typ := .ro, rst := 0, keep := .V }
/-- SLOT_STAT.LATE (R489). -/
def SLOT_STAT_LATE : Fld := { reg := 0x2C48, hi := 27, lo := 27, typ := .rc, rst := 0, keep := .V }
/-- SLOT_STAT.FIRST (R489). -/
def SLOT_STAT_FIRST : Fld := { reg := 0x2C48, hi := 26, lo := 26, typ := .ro, rst := 0, keep := .V }
/-- SLOT_STAT.SERVES (R489). -/
def SLOT_STAT_SERVES : Fld := { reg := 0x2C48, hi := 15, lo := 0, typ := .rc, rst := 0, keep := .V, run := true }
/-- WDT_CNT.COUNT (R489). -/
def WDT_CNT_COUNT : Fld := { reg := 0x2D80, hi := 23, lo := 0, typ := .ro, rst := 0, keep := .V, run := true }
/-- OTP_STAT.DEFAULTS (R510). -/
def OTP_STAT_DEFAULTS : Fld := { reg := 0x2E00, hi := 23, lo := 22, typ := .ro, rst := 0, keep := .V }
/-- OTP_STAT.OPTIONS (R510). -/
def OTP_STAT_OPTIONS : Fld := { reg := 0x2E00, hi := 21, lo := 20, typ := .ro, rst := 0, keep := .V }
/-- OTP_STAT.IDENT (R510). -/
def OTP_STAT_IDENT : Fld := { reg := 0x2E00, hi := 19, lo := 18, typ := .ro, rst := 0, keep := .V }
/-- OTP_STAT.VENDOR (R510). -/
def OTP_STAT_VENDOR : Fld := { reg := 0x2E00, hi := 17, lo := 16, typ := .ro, rst := 0, keep := .V }
/-- OTP_STAT.DEF_SRC (R510). -/
def OTP_STAT_DEF_SRC : Fld := { reg := 0x2E00, hi := 0, lo := 0, typ := .ro, rst := 0, keep := .V }
/-- OTP_ADDR.WORD (R510). -/
def OTP_ADDR_WORD : Fld := { reg := 0x2E04, hi := 10, lo := 0, typ := .rw, rst := 0, keep := .V }
/-- OTP_DATA.DATA (R510). -/
def OTP_DATA_DATA : Fld := { reg := 0x2E08, hi := 31, lo := 0, typ := .rw, rst := 0, keep := .V }
/-- OTP_CMD.KEY (R510). -/
def OTP_CMD_KEY : Fld := { reg := 0x2E0C, hi := 31, lo := 24, typ := .wo, rst := 0, keep := .V }
/-- OTP_CMD.REGION (R510). -/
def OTP_CMD_REGION : Fld := { reg := 0x2E0C, hi := 9, lo := 8, typ := .wo, rst := 0, keep := .V }
/-- OTP_CMD.CMD (R510). -/
def OTP_CMD_CMD : Fld := { reg := 0x2E0C, hi := 2, lo := 0, typ := .wo, rst := 0, keep := .V }
/-- OTP_RSTAT.ERR (R510). -/
def OTP_RSTAT_ERR : Fld := { reg := 0x2E10, hi := 31, lo := 24, typ := .ro, rst := 0, keep := .V }
/-- OTP_RSTAT.CORRECTED (R510). -/
def OTP_RSTAT_CORRECTED : Fld := { reg := 0x2E10, hi := 2, lo := 2, typ := .ro, rst := 0, keep := .V }
/-- OTP_RSTAT.BUSY (R510). -/
def OTP_RSTAT_BUSY : Fld := { reg := 0x2E10, hi := 1, lo := 1, typ := .ro, rst := 0, keep := .V }
/-- OTP_RSTAT.VALID (R510). -/
def OTP_RSTAT_VALID : Fld := { reg := 0x2E10, hi := 0, lo := 0, typ := .ro, rst := 0, keep := .V }
/-- OTP_OPT.PERTURB_ALLOWED (R510). -/
def OTP_OPT_PERTURB_ALLOWED : Fld := { reg := 0x2E14, hi := 1, lo := 1, typ := .ro, rst := 0, keep := .V }
/-- OTP_OPT.WDT_HWSTART (R510). -/
def OTP_OPT_WDT_HWSTART : Fld := { reg := 0x2E14, hi := 0, lo := 0, typ := .ro, rst := 0, keep := .V }
/-- OTP_EVT.ECC_FIX (R510). -/
def OTP_EVT_ECC_FIX : Fld := { reg := 0x2E18, hi := 31, lo := 16, typ := .rc, rst := 0, keep := .V }
/-- OTP_EVT.ECC_BAD (R510). -/
def OTP_EVT_ECC_BAD : Fld := { reg := 0x2E18, hi := 15, lo := 8, typ := .rc, rst := 0, keep := .V }
/-- OTP_EVT.PROGS (R510). -/
def OTP_EVT_PROGS : Fld := { reg := 0x2E18, hi := 7, lo := 0, typ := .rc, rst := 0, keep := .V }
/-- OTP_DEFERR.ERR (R510). -/
def OTP_DEFERR_ERR : Fld := { reg := 0x2E1C, hi := 31, lo := 24, typ := .ro, rst := 0, keep := .V }
/-- OTP_DEFERR.ADDR (R510). -/
def OTP_DEFERR_ADDR : Fld := { reg := 0x2E1C, hi := 13, lo := 0, typ := .ro, rst := 0, keep := .V }
/-- LOG_STAT.TOKENS (R511). -/
def LOG_STAT_TOKENS : Fld := { reg := 0x3000, hi := 31, lo := 16, typ := .ro, rst := 0x480, keep := .V, run := true }
/-- LOG_STAT.SPARE (R511). -/
def LOG_STAT_SPARE : Fld := { reg := 0x3000, hi := 15, lo := 8, typ := .ro, rst := 0xa, keep := .V }
/-- LOG_STAT.WORN (R511). -/
def LOG_STAT_WORN : Fld := { reg := 0x3000, hi := 3, lo := 3, typ := .ro, rst := 0, keep := .V }
/-- LOG_STAT.THROTTLED (R511). -/
def LOG_STAT_THROTTLED : Fld := { reg := 0x3000, hi := 2, lo := 2, typ := .ro, rst := 0, keep := .V }
/-- LOG_STAT.RESERVE_OK (R511). -/
def LOG_STAT_RESERVE_OK : Fld := { reg := 0x3000, hi := 1, lo := 1, typ := .ro, rst := 0, keep := .V }
/-- LOG_STAT.BUSY (R511). -/
def LOG_STAT_BUSY : Fld := { reg := 0x3000, hi := 0, lo := 0, typ := .ro, rst := 0, keep := .V, run := true }
/-- LOG_EVT.DEFERRED (R511). -/
def LOG_EVT_DEFERRED : Fld := { reg := 0x3004, hi := 31, lo := 16, typ := .rc, rst := 0, keep := .V }
/-- LOG_EVT.COPY_BAD (R511). -/
def LOG_EVT_COPY_BAD : Fld := { reg := 0x3004, hi := 15, lo := 8, typ := .rc, rst := 0, keep := .V }
/-- LOG_EVT.LOST (R511). -/
def LOG_EVT_LOST : Fld := { reg := 0x3004, hi := 7, lo := 0, typ := .rc, rst := 0, keep := .V }
/-- LOG_ITEM.LOST (R511). -/
def LOG_ITEM_LOST : Fld := { reg := 0x3008, hi := 4, lo := 0, typ := .ro, rst := 0, keep := .V }
/-- LOG_WEAR.MAX (R511). -/
def LOG_WEAR_MAX : Fld := { reg := 0x300C, hi := 31, lo := 16, typ := .ro, rst := 0, keep := .N }
/-- LOG_WEAR.AVG (R511). -/
def LOG_WEAR_AVG : Fld := { reg := 0x300C, hi := 15, lo := 0, typ := .ro, rst := 0, keep := .N }
/-- LOG_CTL.KEY (R511). -/
def LOG_CTL_KEY : Fld := { reg := 0x3010, hi := 31, lo := 24, typ := .wo, rst := 0, keep := .V }
/-- LOG_CTL.FLUSH (R511). -/
def LOG_CTL_FLUSH : Fld := { reg := 0x3010, hi := 0, lo := 0, typ := .wo, rst := 0, keep := .V }
/-- LOG_WRITES.COUNT (R511). -/
def LOG_WRITES_COUNT : Fld := { reg := 0x3018, hi := 63, lo := 0, typ := .ro, rst := 0, keep := .N }

end F

/-- The registers of 0x0000 to 0x01FF. -/
def regs00 : List RegSpec := [
  ⟨0x0, .one, [F.ID_PART, F.ID_STEPPING, F.ID_MET_FITTED]⟩,
  ⟨0x10, .one, [F.PSTATE_LAST_RESET, F.PSTATE_PREV_STATE, F.PSTATE_STATE]⟩,
  ⟨0x18, .one, [F.UNIT_STAT_DEGRADED, F.UNIT_STAT_OSC_SEC_OK, F.UNIT_STAT_OSC_PRI_OK, F.UNIT_STAT_REF_OK, F.UNIT_STAT_SEQ_LANE_OK, F.UNIT_STAT_ISLAND_OK]⟩
]

/-- The registers of 0x0200 to 0x03FF. -/
def regs01 : List RegSpec := [
  ⟨0x200, .one, [F.COMMIT_CTL_OWN_IDLE, F.COMMIT_CTL_OWNER_POLICY, F.COMMIT_CTL_DISCARD, F.COMMIT_CTL_ABORT, F.COMMIT_CTL_GO]⟩,
  ⟨0x204, .one, [F.COMMIT_AT_LO_AT]⟩,
  ⟨0x208, .one, [F.COMMIT_AT_HI_AT]⟩,
  ⟨0x20C, .one, [F.COMMIT_STAT_ERR, F.COMMIT_STAT_CHECK, F.COMMIT_STAT_OWNER, F.COMMIT_STAT_STATE, F.COMMIT_STAT_ERR_ADDR]⟩,
  ⟨0x210, .one, [F.COMMIT_SEQ_COUNT]⟩,
  ⟨0x214, .one, [F.ACTIVE_CRC_CRC]⟩,
  ⟨0x220, .perMaster, [F.VIEW_ACTIVE]⟩,
  ⟨0x224, .perMaster, [F.LAST_ERR_CODE, F.LAST_ERR_COUNT, F.LAST_ERR_ADDR]⟩,
  ⟨0x230, .one, [F.SCRUB_FIX_COUNT, F.SCRUB_PASS_COUNT]⟩,
  ⟨0x234, .one, [F.VOTE_STAT_ACTIVE_VOTE_LOST, F.VOTE_STAT_STAGE_VOTE_LOST, F.VOTE_STAT_ADDR]⟩,
  ⟨0x240, .one, [F.TWB_CFG_ADDR]⟩,
  ⟨0x244, .one, [F.TWB_STAT_BUSY_NACKS, F.TWB_STAT_RA_END, F.TWB_STAT_TIMEOUT, F.TWB_STAT_PARTIAL, F.TWB_STAT_TX_CONFLICT, F.TWB_STAT_MISPLACED]⟩
]

/-- The registers of 0x0400 to 0x05FF. -/
def regs02 : List RegSpec := [
  ⟨0x400, .one, [F.TB_CFG_PHASE_OFS, F.TB_CFG_JUMP_MAX, F.TB_CFG_RESID_LIM, F.TB_CFG_NOM_60, F.TB_CFG_REACQ_STEP, F.TB_CFG_PPS_EDGE, F.TB_CFG_PPS_EN, F.TB_CFG_MAINS_EN]⟩,
  ⟨0x404, .one, [F.TB_STAT_REF_SEC, F.TB_STAT_PPS_SEEN, F.TB_STAT_AMPL_OK, F.TB_STAT_SLEWING, F.TB_STAT_ALIGNED, F.TB_STAT_COUNT_SUSPECT, F.TB_STAT_LOCK]⟩,
  ⟨0x408, .one, [F.TB_FREQ_FREQ]⟩,
  ⟨0x40C, .one, [F.TB_EVT_LOSS, F.TB_EVT_JUMP, F.TB_EVT_REACQ, F.TB_EVT_ALIGN]⟩,
  ⟨0x410, .one, [F.TB_HOLD_STROKES]⟩,
  ⟨0x430, .one, [F.ALIGN_CTL_STEP_STROKES, F.ALIGN_CTL_STEP, F.ALIGN_CTL_ARM]⟩,
  ⟨0x434, .one, [F.ALIGN_STAT_RESULT, F.ALIGN_STAT_PENDING, F.ALIGN_STAT_RESID]⟩
]

/-- The registers of 0x0600 to 0x07FF. -/
def regs03 : List RegSpec := [
  ⟨0x600, .one, [F.SCH_CTL_EN]⟩,
  ⟨0x604, .perMaster, [F.CTX_SEL_INDEX]⟩,
  ⟨0x610, .ctx, [F.CTX_CFG_MODE, F.CTX_CFG_LOCK_REQ, F.CTX_CFG_NSTEPS, F.CTX_CFG_ONESHOT, F.CTX_CFG_DEADLINE]⟩,
  ⟨0x614, .ctx, [F.CTX_PER_PERIOD, F.CTX_PER_MODULO]⟩,
  ⟨0x618, .ctx, [F.CTX_SLOT_SLOT]⟩,
  ⟨0x630, .ctx, [F.CTX_STEP0_STEP]⟩,
  ⟨0x634, .ctx, [F.CTX_STEP1_STEP]⟩,
  ⟨0x638, .ctx, [F.CTX_STEP2_STEP]⟩,
  ⟨0x63C, .ctx, [F.CTX_STEP3_STEP]⟩,
  ⟨0x640, .ctx, [F.CTX_STEP4_STEP]⟩,
  ⟨0x644, .ctx, [F.CTX_STEP5_STEP]⟩,
  ⟨0x648, .ctx, [F.CTX_STEP6_STEP]⟩,
  ⟨0x64C, .ctx, [F.CTX_STEP7_STEP]⟩,
  ⟨0x650, .ctx, [F.CTX_STEP8_STEP]⟩,
  ⟨0x654, .ctx, [F.CTX_STEP9_STEP]⟩,
  ⟨0x658, .ctx, [F.CTX_STEP10_STEP]⟩,
  ⟨0x65C, .ctx, [F.CTX_STEP11_STEP]⟩,
  ⟨0x660, .ctx, [F.CTX_STEP12_STEP]⟩,
  ⟨0x664, .ctx, [F.CTX_STEP13_STEP]⟩,
  ⟨0x668, .ctx, [F.CTX_STEP14_STEP]⟩,
  ⟨0x66C, .ctx, [F.CTX_STEP15_STEP]⟩,
  ⟨0x670, .ctx, [F.CTX_STAT_STATE, F.CTX_STAT_LAST_STEP, F.CTX_STAT_ERR, F.CTX_STAT_RUNS]⟩,
  ⟨0x674, .ctx, [F.CTX_MISSED_COUNT]⟩,
  ⟨0x680, (.arr 0x4 4), [F.CTX_RUN_BUSY]⟩,
  ⟨0x690, .one, [F.SCH_STAT_CMD_SLOT_FULL, F.SCH_STAT_PEAK]⟩,
  ⟨0x694, .one, [F.SCH_ERR_VALID, F.SCH_ERR_STEP, F.SCH_ERR_CTX]⟩
]

/-- The registers of 0x0800 to 0x09FF. -/
def regs04 : List RegSpec := [
  ⟨0x800, .one, [F.PE_CFG_STABLE, F.PE_CFG_MATE_DEB, F.PE_CFG_RETRY_T, F.PE_CFG_RETRY_MAX, F.PE_CFG_OR_MODE, F.PE_CFG_MATE_REQ]⟩,
  ⟨0x804, .one, [F.PE_BOARD_SHUNT_A, F.PE_BOARD_SHUNT_B, F.PE_BOARD_C_VSYS]⟩,
  ⟨0x808, .one, [F.PE_CTL_CLR_B, F.PE_CTL_CLR_A]⟩,
  ⟨0x80C, .one, [F.PE_STAT_NO_FEED, F.PE_STAT_MATE, F.PE_STAT_MATE_RAW, F.PE_STAT_CARRY, F.PE_STAT_VALID_B, F.PE_STAT_VALID_A]⟩,
  ⟨0x810, (.arr 0x20 2), [F.FEED_WIN_UV, F.FEED_WIN_UV_HYS, F.FEED_WIN_OV]⟩,
  ⟨0x814, (.arr 0x20 2), [F.FEED_CB_V_CB, F.FEED_CB_T_CB, F.FEED_CB_EN]⟩,
  ⟨0x818, (.arr 0x20 2), [F.FEED_INRUSH_SR, F.FEED_INRUSH_QUAL, F.FEED_INRUSH_TMAX]⟩,
  ⟨0x81C, (.arr 0x20 2), [F.FEED_STAT_STATE, F.FEED_STAT_VALID, F.FEED_STAT_STABLE, F.FEED_STAT_OR_FWD, F.FEED_STAT_PRESENT, F.FEED_STAT_RETRIES, F.FEED_STAT_CAUSE]⟩,
  ⟨0x820, (.arr 0x20 2), [F.FEED_EVT_TRIPS, F.FEED_EVT_LOSSES, F.FEED_EVT_BOUNCES, F.FEED_EVT_REVERSE]⟩,
  ⟨0x824, (.arr 0x20 2), [F.FEED_MEAS_VOLT, F.FEED_MEAS_CURR]⟩,
  ⟨0x850, .one, [F.PE_VSYS_VOLT]⟩
]

/-- The registers of 0x0A00 to 0x0BFF. -/
def regs05 : List RegSpec := [
  ⟨0xA00, .one, [F.HDR_CFG_PERIOD, F.HDR_CFG_FC, F.HDR_CFG_SHED_EN]⟩,
  ⟨0xA04, .one, [F.HDR_VSET_VSET]⟩,
  ⟨0xA08, .one, [F.HDR_ILIM_I_PH, F.HDR_ILIM_ILIM]⟩,
  ⟨0xA0C, .one, [F.HDR_BOARD_L_PH, F.HDR_BOARD_SHUNT, F.HDR_BOARD_C_HDR]⟩,
  ⟨0xA10, .one, [F.HDR_SS_STALL_MARGIN, F.HDR_SS_STALL_T, F.HDR_SS_OC_T, F.HDR_SS_SHED_T]⟩,
  ⟨0xA14, .one, [F.HDR_TEL_TEL_WIN, F.HDR_TEL_REC_DIV]⟩,
  ⟨0xA18, .one, [F.HDR_CTL_PH_RETRY]⟩,
  ⟨0xA1C, .one, [F.HDR_STAT_STATE, F.HDR_STAT_LIVE, F.HDR_STAT_OVERLOAD, F.HDR_STAT_IN_LIMIT, F.HDR_STAT_ILIM_RUN]⟩,
  ⟨0xA20, (.arr 0x4 3), [F.HDR_PH_MISMATCH, F.HDR_PH_CAUSE, F.HDR_PH_I_AVG]⟩,
  ⟨0xA30, .one, [F.HDR_EVT_PH_LOSS, F.HDR_EVT_SHEDS, F.HDR_EVT_OC, F.HDR_EVT_STALLS]⟩,
  ⟨0xA80, (.arr 0x40 2), [F.X_CFG_HICCUP_EN, F.X_CFG_HICCUP_MAX, F.X_CFG_FC, F.X_CFG_PERIOD]⟩,
  ⟨0xA84, (.arr 0x40 2), [F.X_VSET_VSET]⟩,
  ⟨0xA88, (.arr 0x40 2), [F.X_VLIM_VMAX, F.X_VLIM_VMIN]⟩,
  ⟨0xA8C, (.arr 0x40 2), [F.X_ILIM_ILIM]⟩,
  ⟨0xA90, (.arr 0x40 2), [F.X_BOARD_SHUNT, F.X_BOARD_L_DECL, F.X_BOARD_C_OUT]⟩,
  ⟨0xA94, (.arr 0x40 2), [F.X_DECL_EFF, F.X_DECL_I_LOAD]⟩,
  ⟨0xA98, (.arr 0x40 2), [F.X_SS_STALL_MARGIN, F.X_SS_STALL_T, F.X_SS_HICCUP_T, F.X_SS_OC_T]⟩,
  ⟨0xA9C, (.arr 0x40 2), [F.X_TEL_TEL_WIN, F.X_TEL_REC_DIV]⟩,
  ⟨0xAA0, (.arr 0x40 2), [F.X_STAT_STATE, F.X_STAT_CTRL_SPARE, F.X_STAT_SOLO, F.X_STAT_MODE, F.X_STAT_IN_LIMIT, F.X_STAT_ILIM_RUN]⟩,
  ⟨0xAA4, (.arr 0x40 2), [F.X_EVT_STALLS, F.X_EVT_OC, F.X_EVT_OV, F.X_EVT_MISMATCH]⟩,
  ⟨0xB00, (.arr 0x10 6), [F.L_CFG_IN_SEL, F.L_CFG_VSET]⟩,
  ⟨0xB04, (.arr 0x10 6), [F.L_VLIM_VMAX, F.L_VLIM_VMIN]⟩,
  ⟨0xB08, (.arr 0x10 6), [F.L_ILIM_I_LOAD, F.L_ILIM_ILIM]⟩,
  ⟨0xB0C, (.arr 0x10 6), [F.L_STAT_STATE, F.L_STAT_IN_LIMIT, F.L_STAT_V_AVG]⟩,
  ⟨0xB70, (.arr 0x10 3), [F.S_CFG_SHUNT, F.S_CFG_T_LIM, F.S_CFG_ILIM]⟩,
  ⟨0xB74, (.arr 0x10 3), [F.S_DECL_I_LOAD]⟩,
  ⟨0xB78, (.arr 0x10 3), [F.S_STAT_STATE, F.S_STAT_IN_LIMIT, F.S_STAT_REV_BLOCK, F.S_STAT_I_AVG]⟩,
  ⟨0xB7C, (.arr 0x10 3), [F.S_EVT_OC, F.S_EVT_REV]⟩,
  ⟨0xBA0, .one, [F.LS_TEL_TEL_WIN, F.LS_TEL_REC_DIV]⟩
]

/-- The registers of 0x0C00 to 0x0DFF. -/
def regs06 : List RegSpec := [
  ⟨0xC00, (.arr 0x80 12), [F.B_CFG_PAIR, F.B_CFG_SNS_LOCAL, F.B_CFG_HICCUP_EN, F.B_CFG_HICCUP_MAX, F.B_CFG_PREBIAS, F.B_CFG_PHASE, F.B_CFG_PERIOD]⟩,
  ⟨0xC04, (.arr 0x80 12), [F.B_VSET_VSET]⟩,
  ⟨0xC08, (.arr 0x80 12), [F.B_VLIM_VMAX, F.B_VLIM_VMIN]⟩,
  ⟨0xC0C, (.arr 0x80 12), [F.B_ILIM_I_NEG, F.B_ILIM_ILIM]⟩,
  ⟨0xC10, (.arr 0x80 12), [F.B_LOOP_SLOPE, F.B_LOOP_L_DECL, F.B_LOOP_DVS_SR]⟩,
  ⟨0xC14, (.arr 0x80 12), [F.B_COEF0_COEF]⟩,
  ⟨0xC18, (.arr 0x80 12), [F.B_COEF1_COEF]⟩,
  ⟨0xC1C, (.arr 0x80 12), [F.B_COEF2_COEF]⟩,
  ⟨0xC20, (.arr 0x80 12), [F.B_COEF3_COEF]⟩,
  ⟨0xC24, (.arr 0x80 12), [F.B_COEF4_COEF]⟩,
  ⟨0xC28, (.arr 0x80 12), [F.B_SS_STALL_MARGIN, F.B_SS_STALL_T, F.B_SS_HICCUP_T, F.B_SS_OC_T]⟩,
  ⟨0xC2C, (.arr 0x80 12), [F.B_DECL_I_LOAD]⟩,
  ⟨0xC30, (.arr 0x80 12), [F.B_TEMP_T_SHUT, F.B_TEMP_T_WARN]⟩,
  ⟨0xC34, (.arr 0x80 12), [F.B_TEL_TEL_WIN, F.B_TEL_REC_DIV]⟩,
  ⟨0xC38, (.arr 0x80 12), [F.B_CTL_SNS_RETRY]⟩,
  ⟨0xC40, (.arr 0x80 12), [F.B_STAT_STATE, F.B_STAT_CTRL_SPARE, F.B_STAT_SOLO, F.B_STAT_SNS_LOST, F.B_STAT_IN_LIMIT, F.B_STAT_T_WARN, F.B_STAT_SPARE_FREE, F.B_STAT_ILIM_RUN]⟩,
  ⟨0xC44, (.arr 0x80 12), [F.B_TEL_VI_I_AVG, F.B_TEL_VI_V_AVG]⟩,
  ⟨0xC48, (.arr 0x80 12), [F.B_TEL_PT_T, F.B_TEL_PT_P_AVG]⟩,
  ⟨0xC4C, (.arr 0x80 12), [F.B_PK_V_V_MAX, F.B_PK_V_V_MIN]⟩,
  ⟨0xC50, (.arr 0x80 12), [F.B_PK_IT_I_MAX, F.B_PK_IT_T_MAX]⟩,
  ⟨0xC54, (.arr 0x80 12), [F.B_CTLR_MISMATCH, F.B_CTLR_HEALTH]⟩,
  ⟨0xC58, (.arr 0x80 12), [F.B_EVT_STALLS, F.B_EVT_OC, F.B_EVT_SNS_LOSS, F.B_EVT_OT]⟩
]

/-- The registers of 0x1200 to 0x13FF. -/
def regs09 : List RegSpec := [
  ⟨0x1200, .perMaster, [F.CA_SEL_SEG, F.CA_SEL_ARRAY, F.CA_SEL_CH]⟩,
  ⟨0x1204, .one, [F.CA_SUMMARY_WORN, F.CA_SUMMARY_DERATED]⟩,
  ⟨0x1208, .one, [F.CA_GCFG_PROBE_CYC, F.CA_GCFG_SCAN_BG, F.CA_GCFG_FLUSH_MAX]⟩,
  ⟨0x1210, .caCh, [F.CA_CFG_ADAPT_EN, F.CA_CFG_MIN_BANKS, F.CA_CFG_ADAPT_HOLD, F.CA_CFG_STEP_DET, F.CA_CFG_REST]⟩,
  ⟨0x1214, .caCh, [F.CA_ROT_ROT_PERIOD, F.CA_ROT_ROT_SLOT, F.CA_ROT_ROT_AUTO]⟩,
  ⟨0x1218, .caCh, [F.CA_PROBE_GLEAK_LIM, F.CA_PROBE_VTH_LIM]⟩,
  ⟨0x1220, .caCh, [F.CA_STAT_ACTIVE, F.CA_STAT_FROZEN, F.CA_STAT_FLUSHING, F.CA_STAT_PROBING, F.CA_STAT_ROTATING, F.CA_STAT_LOST, F.CA_STAT_WORN, F.CA_STAT_DERATED, F.CA_STAT_MAP_LOST, F.CA_STAT_I_EFF]⟩,
  ⟨0x1224, .caCh, [F.CA_COUNT_HS_RET, F.CA_COUNT_LS_RET]⟩,
  ⟨0x1228, .caCh, [F.CA_EVT_FLUSH_OK, F.CA_EVT_FLUSH_FAIL, F.CA_EVT_UNCONF, F.CA_EVT_EXT_SHORT]⟩,
  ⟨0x122C, .caCh, [F.CA_LAST_ARRAY, F.CA_LAST_SEG, F.CA_LAST_CAUSE]⟩,
  ⟨0x1230, .caBank, [F.CA_BANK_DRIVER_OK, F.CA_BANK_ACTIVE, F.CA_BANK_RESTING, F.CA_BANK_RETIRED, F.CA_BANK_GOOD]⟩,
  ⟨0x1234, .caBank, [F.CA_WEAR_WEAR]⟩,
  ⟨0x1238, .caSeg, [F.CA_SEG_CAUSE, F.CA_SEG_SUSPECT, F.CA_SEG_LINK_OPEN, F.CA_SEG_GATE_EN, F.CA_SEG_HEALTH]⟩,
  ⟨0x123C, .caCh, [F.CA_CTL_KEY, F.CA_CTL_RETIRE, F.CA_CTL_ROTATE, F.CA_CTL_SCAN, F.CA_CTL_PROBE]⟩
]

/-- The registers of 0x1400 to 0x15FF. -/
def regs0A : List RegSpec := [
  ⟨0x1400, .one, [F.SEQ_CFG_OFF_MIN, F.SEQ_CFG_AUTO_GROUPS, F.SEQ_CFG_PFW_LEAD, F.SEQ_CFG_FLT_QUAL]⟩,
  ⟨0x1404, .one, [F.SEQ_CFG2_GROUP_ORDER, F.SEQ_CFG2_AUTO_RESTART]⟩,
  ⟨0x1408, .one, [F.SEQ_CTL_UNLATCH]⟩,
  ⟨0x140C, .one, [F.SEQ_STAT_OP, F.SEQ_STAT_LATCHED, F.SEQ_STAT_PFW_REQ, F.SEQ_STAT_LATCH_RAIL]⟩,
  ⟨0x1410, .one, [F.SEQ_GOOD_MASK]⟩,
  ⟨0x1414, .one, [F.SEQ_PRIMED_MASK]⟩,
  ⟨0x1418, .one, [F.SEQ_LANE_RETIRED, F.SEQ_LANE_SYNC2, F.SEQ_LANE_SYNC1, F.SEQ_LANE_SYNC0]⟩,
  ⟨0x141C, .one, [F.SEQ_LAST_EVENT, F.SEQ_LAST_CAUSE, F.SEQ_LAST_RAIL]⟩,
  ⟨0x1420, .perMaster, [F.SEQ_CNT_SEL_RAIL]⟩,
  ⟨0x1424, .cnt, [F.SEQ_CNT0_START_FAIL, F.SEQ_CNT0_UV]⟩,
  ⟨0x1428, .cnt, [F.SEQ_CNT1_OV, F.SEQ_CNT1_OC]⟩,
  ⟨0x142C, .cnt, [F.SEQ_CNT2_FLUSH, F.SEQ_CNT2_HICCUP]⟩,
  ⟨0x1430, .cnt, [F.SEQ_CNT3_BACKFEED]⟩,
  ⟨0x1500, (.arr 0x20 24), [F.SQ_DEP_DEP]⟩,
  ⟨0x1504, (.arr 0x20 24), [F.SQ_CFG_STANDPIPE, F.SQ_CFG_HOLD, F.SQ_CFG_SF_POLICY, F.SQ_CFG_RUN_SCOPE, F.SQ_CFG_SF_RETRIES, F.SQ_CFG_GROUP, F.SQ_CFG_DELAY_P, F.SQ_CFG_DELAY_D]⟩,
  ⟨0x1508, (.arr 0x20 24), [F.SQ_PRIME_A_SR, F.SQ_PRIME_A_ILIM_P]⟩,
  ⟨0x150C, (.arr 0x20 24), [F.SQ_PRIME_B_PG_DL, F.SQ_PRIME_B_C_OUT]⟩,
  ⟨0x1510, (.arr 0x20 24), [F.SQ_DRAIN_SR_D, F.SQ_DRAIN_DRAIN_T, F.SQ_DRAIN_ACT_DIS, F.SQ_DRAIN_DIS_T]⟩,
  ⟨0x1514, (.arr 0x20 24), [F.SQ_RSTAT_STEP, F.SQ_RSTAT_RUN_FAULT, F.SQ_RSTAT_BACKFEED, F.SQ_RSTAT_START_FAILED, F.SQ_RSTAT_CAUSE, F.SQ_RSTAT_T_PG]⟩
]

/-- The registers of 0x1800 to 0x19FF. -/
def regs0C : List RegSpec := [
  ⟨0x1800, .one, [F.WM_GCFG_AUDIT_CYC, F.WM_GCFG_AUDIT_TOL, F.WM_GCFG_AUDIT_EN]⟩,
  ⟨0x1804, .one, [F.WM_OUT_MASK]⟩,
  ⟨0x1808, .one, [F.WM_RST_OUT_MASK]⟩,
  ⟨0x180C, .one, [F.WM_AUDIT_FAILS, F.WM_AUDIT_LAST_FAIL, F.WM_AUDIT_PASSES]⟩,
  ⟨0x1810, .one, [F.WM_RB_CTL_GO, F.WM_RB_CTL_INDEX]⟩,
  ⟨0x1814, .one, [F.WM_RB_DATA_VALID, F.WM_RB_DATA_VALUE]⟩,
  ⟨0x1818, .one, [F.SUP_STAT_DIPS, F.SUP_STAT_LOSSES, F.SUP_STAT_BELOW_RST, F.SUP_STAT_BELOW_WARN]⟩,
  ⟨0x181C, .one, [F.PFW_STAT_ASSERTS, F.PFW_STAT_ASSERTED, F.PFW_STAT_RESET, F.PFW_STAT_HANDOVER, F.PFW_STAT_SUPPLY, F.PFW_STAT_SEQ]⟩,
  ⟨0x1820, .one, [F.WM_WAKE_VALID, F.WM_WAKE_MON]⟩,
  ⟨0x1824, .perMaster, [F.WM_SEL_MON]⟩,
  ⟨0x1828, .one, [F.WM_ERR_VALID, F.WM_ERR_MON]⟩,
  ⟨0x1830, .wm, [F.WM_CFG_MODE, F.WM_CFG_HYST, F.WM_CFG_RES, F.WM_CFG_WAKE_EN, F.WM_CFG_WAKE_SEL, F.WM_CFG_PGQ]⟩,
  ⟨0x1834, .wm, [F.WM_LVL_LO_RST_LO, F.WM_LVL_LO_WARN_LO]⟩,
  ⟨0x1838, .wm, [F.WM_LVL_HI_RST_HI, F.WM_LVL_HI_WARN_HI]⟩,
  ⟨0x1840, (.arr 0x4 32), [F.WM_MSTAT_WARN_EXC, F.WM_MSTAT_RST_EXC, F.WM_MSTAT_DAC_FAIL, F.WM_MSTAT_PG, F.WM_MSTAT_BLANK, F.WM_MSTAT_BELOW_RST, F.WM_MSTAT_BELOW_WARN, F.WM_MSTAT_ABOVE_WARN, F.WM_MSTAT_ABOVE_RST]⟩
]

/-- The registers of 0x1A00 to 0x1BFF. -/
def regs0D : List RegSpec := [
  ⟨0x1A00, .one, [F.TC_GCFG_TRIP_RUN]⟩,
  ⟨0x1A04, .one, [F.TC_TRIPPED0_MASK]⟩,
  ⟨0x1A08, .one, [F.TC_TRIPPED1_MASK]⟩,
  ⟨0x1A40, (.arr 0x4 36), [F.TC_STAT_TRIPS, F.TC_STAT_DAC_FAIL, F.TC_STAT_ARMED, F.TC_STAT_OUT]⟩,
  ⟨0x1B00, (.arr 0x4 36), [F.TC_CFG_MODE, F.TC_CFG_HYST, F.TC_CFG_RES, F.TC_CFG_THRESH]⟩
]

/-- The registers of 0x1C00 to 0x1DFF. -/
def regs0E : List RegSpec := [
  ⟨0x1C00, .one, [F.WELL_CFG_VREG, F.WELL_CFG_I_DCHG, F.WELL_CFG_CHG_EN, F.WELL_CFG_EN]⟩,
  ⟨0x1C04, .one, [F.WELL_HO_HO_LEAD, F.WELL_HO_HB_RAMP, F.WELL_HO_DWELL, F.WELL_HO_PRE_HOLD]⟩,
  ⟨0x1C08, .one, [F.WELL_PACK_CHEM, F.WELL_PACK_CELLS, F.WELL_PACK_T_CUT, F.WELL_PACK_V_CUT]⟩,
  ⟨0x1C0C, .one, [F.WELL_CHG_V_V_CHG, F.WELL_CHG_V_V_PRE, F.WELL_CHG_V_RECHG]⟩,
  ⟨0x1C10, .one, [F.WELL_CHG_I_I_CC, F.WELL_CHG_I_I_PRE, F.WELL_CHG_I_I_TERM]⟩,
  ⟨0x1C14, .one, [F.WELL_CHG_T_T_PRE, F.WELL_CHG_T_T_FAST, F.WELL_CHG_T_T_TAPER, F.WELL_CHG_T_T_TOPOFF]⟩,
  ⟨0x1C18, .one, [F.WELL_ZONE_T1, F.WELL_ZONE_T2, F.WELL_ZONE_T3, F.WELL_ZONE_T4]⟩,
  ⟨0x1C1C, .one, [F.WELL_ADJ_COOL_PCT, F.WELL_ADJ_WARM_DV, F.WELL_ADJ_T_FOLD]⟩,
  ⟨0x1C20, .one, [F.WELL_BOARD_ISHUNT, F.WELL_BOARD_PSHUNT, F.WELL_BOARD_L_DECL, F.WELL_BOARD_EFF]⟩,
  ⟨0x1C24, .one, [F.WELL_NTC_BETA, F.WELL_NTC_NOM]⟩,
  ⟨0x1C28, .one, [F.WELL_LEND_I_LEND, F.WELL_LEND_V_LEND_MIN, F.WELL_LEND_LEND_SHUNT]⟩,
  ⟨0x1C2C, .one, [F.WELL_BTN_T_LONG, F.WELL_BTN_T_PRESS]⟩,
  ⟨0x1C30, .one, [F.WELL_CTL_KEY, F.WELL_CTL_CHG_RESTART, F.WELL_CTL_CLR_CHG, F.WELL_CTL_LEND_STOP, F.WELL_CTL_LEND_START, F.WELL_CTL_SHIP, F.WELL_CTL_DORMANT]⟩,
  ⟨0x1C40, .one, [F.WELL_STAT_CONV, F.WELL_STAT_DIR, F.WELL_STAT_FLOOR, F.WELL_STAT_VALVE, F.WELL_STAT_VALVE_FAULT, F.WELL_STAT_NO_PACK, F.WELL_STAT_CTRL_SPARE, F.WELL_STAT_SOLO, F.WELL_STAT_HO]⟩,
  ⟨0x1C44, .one, [F.WELL_CSTAT_CHG, F.WELL_CSTAT_ZONE, F.WELL_CSTAT_FOLD, F.WELL_CSTAT_DILATED, F.WELL_CSTAT_SUSP, F.WELL_CSTAT_CHG_FAULT, F.WELL_CSTAT_FLT_CAUSE]⟩,
  ⟨0x1C48, .one, [F.WELL_TMR_COUNT, F.WELL_TMR_WALL]⟩,
  ⟨0x1C4C, .one, [F.WELL_MEAS_V_PACK, F.WELL_MEAS_I_PACK]⟩,
  ⟨0x1C50, .one, [F.WELL_MEAS2_T_PACK, F.WELL_MEAS2_I_LEND]⟩,
  ⟨0x1C54, .one, [F.WELL_EVT_HO, F.WELL_EVT_PRE, F.WELL_EVT_HB, F.WELL_EVT_CHG_FLT]⟩,
  ⟨0x1C58, .one, [F.WELL_CTLR_MISMATCH, F.WELL_CTLR_HEALTH]⟩
]

/-- The registers of 0x1E00 to 0x1FFF. -/
def regs0F : List RegSpec := [
  ⟨0x1E00, .one, [F.EST_CFG_C_RATED, F.EST_CFG_LEARN_WT, F.EST_CFG_DORM_INT, F.EST_CFG_LEARN_EN]⟩,
  ⟨0x1E04, .one, [F.EST_LVL_SOC_WARN, F.EST_LVL_SOC_CRIT, F.EST_LVL_I_EOD, F.EST_LVL_T_EOD]⟩,
  ⟨0x1E08, .one, [F.EST_REC_REC_DIV]⟩,
  ⟨0x1E0C, .perMaster, [F.EST_OCV_SEL_CHEM, F.EST_OCV_SEL_POINT]⟩,
  ⟨0x1E10, .ocv, [F.EST_OCV_V]⟩,
  ⟨0x1E14, .perMaster, [F.EST_Z_SEL_TPT, F.EST_Z_SEL_SBIN]⟩,
  ⟨0x1E18, .zed, [F.EST_Z_UPDATES, F.EST_Z_Z]⟩,
  ⟨0x1E20, .one, [F.EST_STAT_SOC, F.EST_STAT_SOC_C, F.EST_STAT_CONFLICT, F.EST_STAT_SLOW, F.EST_STAT_WINDOW, F.EST_STAT_DRAW, F.EST_STAT_SAVE_PEND, F.EST_STAT_DATA_LOST, F.EST_STAT_LOW, F.EST_STAT_CRIT]⟩,
  ⟨0x1E24, .one, [F.EST_CAP_C_LEARN, F.EST_CAP_LEARNS, F.EST_CAP_REJECTS]⟩,
  ⟨0x1E28, .one, [F.EST_EFC_EFC]⟩,
  ⟨0x1E2C, .one, [F.EST_REMAIN_REMAIN, F.EST_REMAIN_Q_DRAW]⟩,
  ⟨0x1E30, .one, [F.EST_QC_QC]⟩,
  ⟨0x1E34, .one, [F.EST_EVT_CONFLICTS, F.EST_EVT_ABANDONED, F.EST_EVT_DEFERRED, F.EST_EVT_DORM_SAMPLES]⟩,
  ⟨0x1E38, .one, [F.EST_CTL_KEY, F.EST_CTL_NEW_PACK, F.EST_CTL_RESYNC, F.EST_CTL_LEARN_STOP, F.EST_CTL_LEARN_START]⟩
]

/-- The registers of 0x2000 to 0x21FF. -/
def regs10 : List RegSpec := [
  ⟨0x2000, .one, [F.TW_CFG_EN, F.TW_CFG_AUTO_LEND, F.TW_CFG_AUTO_JOIN, F.TW_CFG_LEND_SOC, F.TW_CFG_RAMP, F.TW_CFG_ANG_TOL]⟩,
  ⟨0x2010, (.arr 0x4 8), [F.TW_SLOT_RAIL, F.TW_SLOT_SHARE, F.TW_SLOT_DROOP]⟩,
  ⟨0x2030, .one, [F.TW_CTL_REJOIN, F.TW_CTL_JOIN, F.TW_CTL_LEAVE]⟩,
  ⟨0x2040, .one, [F.TW_STAT_STATE, F.TW_STAT_ROLE, F.TW_STAT_PRESENT, F.TW_STAT_HB, F.TW_STAT_TIME_REF, F.TW_STAT_SAFE_TO_PULL, F.TW_STAT_PARTNER_LEFT, F.TW_STAT_EJECT, F.TW_STAT_DROOP, F.TW_STAT_CLOSED]⟩,
  ⟨0x2044, .one, [F.TW_CHECK_DISAGREE, F.TW_CHECK_ANG_DIFF]⟩,
  ⟨0x2048, .one, [F.TW_PARTNER_SOC, F.TW_PARTNER_STATE, F.TW_PARTNER_PSTATE, F.TW_PARTNER_FLAGS]⟩,
  ⟨0x204C, .one, [F.TW_PARTNER_CRC_CRC]⟩,
  ⟨0x2050, .one, [F.TW_LINK_CRC_ERR, F.TW_LINK_CODE_ERR, F.TW_LINK_LOSSES]⟩,
  ⟨0x2054, .one, [F.TW_EVT_JOINS, F.TW_EVT_LEAVES, F.TW_EVT_REMOVALS, F.TW_EVT_REV_OPEN]⟩,
  ⟨0x2060, (.arr 0x4 8), [F.TW_I_PARTNER, F.TW_I_OWN]⟩
]

/-- The registers of 0x2200 to 0x23FF. -/
def regs11 : List RegSpec := [
  ⟨0x2200, .one, [F.HR_STAT_LINK, F.HR_STAT_SPEED, F.HR_STAT_BME, F.HR_STAT_MSIX_EN, F.HR_STAT_MSIX_FMASK, F.HR_STAT_D3HOT, F.HR_STAT_MPS, F.HR_STAT_MRRS]⟩,
  ⟨0x2204, .one, [F.HR_CTL_ACTION, F.HR_CTL_RING]⟩,
  ⟨0x2208, .one, [F.HR_EVT_LINK_DOWN, F.HR_EVT_HOT_RESET, F.HR_EVT_DB_REFUSED, F.HR_EVT_EXEC_CRC]⟩,
  ⟨0x220C, .one, [F.HR_UNROUTED_COUNT]⟩,
  ⟨0x2210, .one, [F.TQ_STAT_PEAK, F.TQ_STAT_ENTRIES]⟩,
  ⟨0x2214, .one, [F.RR_ROUTE_EN_EN]⟩,
  ⟨0x2218, .one, [F.RR_ROUTE0_RING]⟩,
  ⟨0x221C, .one, [F.RR_ROUTE1_RING]⟩,
  ⟨0x2220, .perMaster, [F.HR_SEL_RING]⟩,
  ⟨0x2224, .one, [F.HR_RATE_TOTAL]⟩,
  ⟨0x2228, .one, [F.HR_ERR_VALID, F.HR_ERR_RING]⟩,
  ⟨0x2240, .ring, [F.RG_BASE_LO_BASE]⟩,
  ⟨0x2244, .ring, [F.RG_BASE_HI_BASE_HI]⟩,
  ⟨0x2248, .ring, [F.RG_CFG_SEQ_CHK, F.RG_CFG_DEPTH_LOG2]⟩,
  ⟨0x224C, .ring, [F.RG_DECL_RATE]⟩,
  ⟨0x2250, .ring, [F.RG_SVC_SVC]⟩,
  ⟨0x2254, .ring, [F.RG_IRQ_IRQ_TIME, F.RG_IRQ_IRQ_CNT, F.RG_IRQ_VEC]⟩,
  ⟨0x2258, .ring, [F.RG_STAT_STATE, F.RG_STAT_CAUSE, F.RG_STAT_DEV_POS]⟩,
  ⟨0x225C, .ring, [F.RG_HOST_EXPECT_SEQ, F.RG_HOST_HOST_POS]⟩,
  ⟨0x2260, .ring, [F.RG_EVT_DROPS, F.RG_EVT_QPEAK, F.RG_EVT_CRC_FAIL]⟩
]

/-- The registers of 0x2400 to 0x25FF. -/
def regs12 : List RegSpec := [
  ⟨0x2400, .one, [F.MEAS_GCFG_OW_PER, F.MEAS_GCFG_OW_THR, F.MEAS_GCFG_OW_I, F.MEAS_GCFG_TRIG_EDGE]⟩,
  ⟨0x2404, .one, [F.MEAS_BLK_EN, F.MEAS_BLK_PAIR, F.MEAS_BLK_SRC]⟩,
  ⟨0x2408, .one, [F.MEAS_OW_MODE]⟩,
  ⟨0x2410, .one, [F.MEAS_STAT_FREE0, F.MEAS_STAT_FREE1, F.MEAS_STAT_BLK_ACTIVE, F.MEAS_STAT_OPEN]⟩,
  ⟨0x2414, .one, [F.MEAS_EVT_BORROWED, F.MEAS_EVT_OPEN_EVENTS, F.MEAS_EVT_XCHK_FAIL]⟩,
  ⟨0x2418, .one, [F.MEAS_XCHK_DIFF]⟩,
  ⟨0x2440, (.arr 0x10 8), [F.MS_CFG_TRIG, F.MS_CFG_CH, F.MS_CFG_SLOTS_LOG2, F.MS_CFG_FRAME_DIV, F.MS_CFG_BLOCKS]⟩,
  ⟨0x2444, (.arr 0x10 8), [F.MS_FILT_N, F.MS_FILT_AVG, F.MS_FILT_SHIFT]⟩,
  ⟨0x2448, (.arr 0x10 8), [F.MS_RES_COUNT, F.MS_RES_VALUE]⟩,
  ⟨0x244C, (.arr 0x10 8), [F.MS_STAT_STATE, F.MS_STAT_TRIG_MISSED, F.MS_STAT_DISPLACED]⟩
]

/-- The registers of 0x2600 to 0x27FF. -/
def regs13 : List RegSpec := [
  ⟨0x2600, .one, [F.MET_CFG_PULSE_QTY, F.MET_CFG_CADENCE]⟩,
  ⟨0x2604, .one, [F.MET_STAT_LIFE, F.MET_STAT_LINK, F.MET_STAT_INTEGRITY, F.MET_STAT_CHECK, F.MET_STAT_OVER, F.MET_STAT_TIME_OK, F.MET_STAT_CAL_EN, F.MET_STAT_QUEUED]⟩,
  ⟨0x2608, .one, [F.MET_LINK_CRC_ERR, F.MET_LINK_LOSSES, F.MET_LINK_BAD_CMD, F.MET_LINK_LOST]⟩,
  ⟨0x260C, .one, [F.MET_SEAL_EVENTS, F.MET_SEAL_RESTARTS]⟩,
  ⟨0x2610, .one, [F.MET_LAST_SEQ, F.MET_LAST_FLAGS]⟩
]

/-- The registers of 0x2800 to 0x29FF. -/
def regs14 : List RegSpec := [
  ⟨0x2800, .one, [F.RTC_CTL_KEY, F.RTC_CTL_HALT_CLR, F.RTC_CTL_HALT_SET]⟩,
  ⟨0x2804, .one, [F.RTC_STAT_HALTED, F.RTC_STAT_XTAL_FAIL, F.RTC_STAT_TIME_VALID, F.RTC_STAT_DISCONT, F.RTC_STAT_ALM1, F.RTC_STAT_ALM0, F.RTC_STAT_SHIFT_LEFT]⟩,
  ⟨0x2808, .one, [F.RTC_TRIM_TRIM]⟩,
  ⟨0x280C, .one, [F.RTC_SHIFT_AMOUNT]⟩,
  ⟨0x2810, .one, [F.RTC_SUBSEC_SUBSEC]⟩,
  ⟨0x2814, .one, [F.RTC_TIME_STALE, F.RTC_TIME_WDAY, F.RTC_TIME_HOUR, F.RTC_TIME_MIN, F.RTC_TIME_SEC]⟩,
  ⟨0x2818, .one, [F.RTC_DATE_STALE, F.RTC_DATE_YEAR, F.RTC_DATE_MONTH, F.RTC_DATE_DAY]⟩,
  ⟨0x2820, (.arr 0x10 2), [F.ALM_CFG_EN, F.ALM_CFG_WAKE, F.ALM_CFG_MASK, F.ALM_CFG_WDAY, F.ALM_CFG_MONTH, F.ALM_CFG_DAY]⟩,
  ⟨0x2824, (.arr 0x10 2), [F.ALM_TIME_HOUR, F.ALM_TIME_MIN, F.ALM_TIME_SEC]⟩,
  ⟨0x2840, .one, [F.RTC_SQW_MODE, F.RTC_SQW_FREQ]⟩
]

/-- The registers of 0x2A00 to 0x2BFF. -/
def regs15 : List RegSpec := [
  ⟨0x2A00, .one, [F.TM_GCTL_STOP, F.TM_GCTL_START]⟩,
  ⟨0x2A04, .one, [F.TM_RUN_RUN]⟩,
  ⟨0x2A40, (.arr 0x20 8), [F.TM_CFG_CLK, F.TM_CFG_ONESHOT, F.TM_CFG_GATE_EN, F.TM_CFG_GATE_LVL, F.TM_CFG_CLR_GATE, F.TM_CFG_CMP_EVT, F.TM_CFG_GATE_SEL, F.TM_CFG_CAP_SEL, F.TM_CFG_CAP_EDGE]⟩,
  ⟨0x2A44, (.arr 0x20 8), [F.TM_TOP_VALUE]⟩,
  ⟨0x2A48, (.arr 0x20 8), [F.TM_CMP_VALUE]⟩,
  ⟨0x2A4C, (.arr 0x20 8), [F.TM_CNT_VALUE]⟩,
  ⟨0x2A50, (.arr 0x20 8), [F.TM_CAPT_VALUE]⟩,
  ⟨0x2A54, (.arr 0x20 8), [F.TM_MAX_VALUE]⟩,
  ⟨0x2A58, (.arr 0x20 8), [F.TM_STAT_CAPS, F.TM_STAT_OVR, F.TM_STAT_CAP, F.TM_STAT_CMP, F.TM_STAT_WRAP, F.TM_STAT_GATE]⟩,
  ⟨0x2A5C, (.arr 0x20 8), [F.TM_CTL_LOAD, F.TM_CTL_CLR]⟩
]

/-- The registers of 0x2C00 to 0x2DFF. -/
def regs16 : List RegSpec := [
  ⟨0x2C00, .one, [F.WDT_CFG_GRACE, F.WDT_CFG_HRST_W, F.WDT_CFG_CLEAN, F.WDT_CFG_N_ATT]⟩,
  ⟨0x2C04, .one, [F.WDT_SERVE_SLOT, F.WDT_SERVE_KEY]⟩,
  ⟨0x2C08, .one, [F.WDT_CTL_KEY, F.WDT_CTL_STOP, F.WDT_CTL_START]⟩,
  ⟨0x2C0C, .one, [F.WDT_STAT_STEP, F.WDT_STAT_ATTEMPTS, F.WDT_STAT_RUNNING, F.WDT_STAT_HWSTART, F.WDT_STAT_GRACE, F.WDT_STAT_FAULTED]⟩,
  ⟨0x2C10, .one, [F.WDT_EVT_EXPIRED, F.WDT_EVT_EARLY, F.WDT_EVT_KEY, F.WDT_EVT_STEPS]⟩,
  ⟨0x2C14, .one, [F.WDT_LADDER_PERIOD]⟩,
  ⟨0x2C40, (.arr 0x10 16), [F.SLOT_CFG_EN, F.SLOT_CFG_OPEN]⟩,
  ⟨0x2C44, (.arr 0x10 16), [F.SLOT_CLOSE_CLOSE]⟩,
  ⟨0x2C48, (.arr 0x10 16), [F.SLOT_STAT_LAST, F.SLOT_STAT_LATE, F.SLOT_STAT_FIRST, F.SLOT_STAT_SERVES]⟩,
  ⟨0x2D80, (.arr 0x4 16), [F.WDT_CNT_COUNT]⟩
]

/-- The registers of 0x2E00 to 0x2FFF. -/
def regs17 : List RegSpec := [
  ⟨0x2E00, .one, [F.OTP_STAT_DEFAULTS, F.OTP_STAT_OPTIONS, F.OTP_STAT_IDENT, F.OTP_STAT_VENDOR, F.OTP_STAT_DEF_SRC]⟩,
  ⟨0x2E04, .one, [F.OTP_ADDR_WORD]⟩,
  ⟨0x2E08, .one, [F.OTP_DATA_DATA]⟩,
  ⟨0x2E0C, .one, [F.OTP_CMD_KEY, F.OTP_CMD_REGION, F.OTP_CMD_CMD]⟩,
  ⟨0x2E10, .one, [F.OTP_RSTAT_ERR, F.OTP_RSTAT_CORRECTED, F.OTP_RSTAT_BUSY, F.OTP_RSTAT_VALID]⟩,
  ⟨0x2E14, .one, [F.OTP_OPT_PERTURB_ALLOWED, F.OTP_OPT_WDT_HWSTART]⟩,
  ⟨0x2E18, .one, [F.OTP_EVT_ECC_FIX, F.OTP_EVT_ECC_BAD, F.OTP_EVT_PROGS]⟩,
  ⟨0x2E1C, .one, [F.OTP_DEFERR_ERR, F.OTP_DEFERR_ADDR]⟩
]

/-- The registers of 0x3000 to 0x31FF. -/
def regs18 : List RegSpec := [
  ⟨0x3000, .one, [F.LOG_STAT_TOKENS, F.LOG_STAT_SPARE, F.LOG_STAT_WORN, F.LOG_STAT_THROTTLED, F.LOG_STAT_RESERVE_OK, F.LOG_STAT_BUSY]⟩,
  ⟨0x3004, .one, [F.LOG_EVT_DEFERRED, F.LOG_EVT_COPY_BAD, F.LOG_EVT_LOST]⟩,
  ⟨0x3008, .one, [F.LOG_ITEM_LOST]⟩,
  ⟨0x300C, .one, [F.LOG_WEAR_MAX, F.LOG_WEAR_AVG]⟩,
  ⟨0x3010, .one, [F.LOG_CTL_KEY, F.LOG_CTL_FLUSH]⟩
]

/-- The registers of 0x3200 to 0x33FF. -/
def regs19 : List RegSpec := [
  ⟨0x3200, .one, [F.FH_GCFG_IRQ_MODE]⟩,
  ⟨0x3204, .one, [F.FAULT_STAT_SAFE, F.FAULT_STAT_FAULT_N, F.FAULT_STAT_MASK]⟩,
  ⟨0x3208, .one, [F.SEVERE_MASK]⟩,
  ⟨0x320C, .one, [F.SAFE_CAUSE_VALID, F.SAFE_CAUSE_BLOCK, F.SAFE_CAUSE_EVENT]⟩,
  ⟨0x3210, .one, [F.SAFE_MAP0_MAP]⟩,
  ⟨0x3214, .one, [F.SAFE_MAP1_MAP]⟩,
  ⟨0x3218, .one, [F.SAFE_SIG_HOLD, F.SAFE_SIG_LEVEL]⟩,
  ⟨0x3220, .perMaster, [F.FH_SEL_BLOCK]⟩,
  ⟨0x3224, .fh, [F.FH_CTL_SEV_CLR, F.FH_CTL_HIST_CLR]⟩,
  ⟨0x3228, .fh, [F.FH_INFO_NEXT_SEQ, F.FH_INFO_OVERWRITES, F.FH_INFO_FROZEN, F.FH_INFO_ENTRIES]⟩,
  ⟨0x3300, (.arr 0x4 23), [F.FB_STAT_EVENTS, F.FB_STAT_LAST, F.FB_STAT_SEVERE, F.FB_STAT_FROZEN, F.FB_STAT_STANDING, F.FB_STAT_HIGH, F.FB_STAT_PEND]⟩,
  ⟨0x3380, (.arr 0x4 23), [F.FB_CFG_IRQ_EN, F.FB_CFG_FREEZE, F.FB_CFG_VEC]⟩
]

/-- The registers of 0x3400 to 0x35FF. -/
def regs1A : List RegSpec := [
  ⟨0x3400, .perMaster, [F.FC_SEL_BLOCK, F.FC_SEL_EVENT]⟩,
  ⟨0x3404, .fc, [F.FC_CLASS_SEV_CLASS, F.FC_CLASS_CLASS, F.FC_CLASS_GROUP]⟩,
  ⟨0x3408, .fc, [F.FC_SEV_W, F.FC_SEV_UNIT, F.FC_SEV_N]⟩,
  ⟨0x340C, .fc, [F.FC_STAT_TOTAL, F.FC_STAT_IN_WIN, F.FC_STAT_SEVERE]⟩
]

/-- The registers of 0x3E00 to 0x3FFF. -/
def regs1F : List RegSpec := [
  ⟨0x3E00, .one, [F.PT_KEY_KEY]⟩,
  ⟨0x3E04, .one, [F.PT_CTL_CLEAR_ALL, F.PT_CTL_LOCK]⟩,
  ⟨0x3E08, .one, [F.PT_STAT_UNLOCKS, F.PT_STAT_REFUSED, F.PT_STAT_UNLOCKED, F.PT_STAT_ALLOWED, F.PT_STAT_ACTIVE]⟩,
  ⟨0x3E0C, .one, [F.PT_REMAIN_SESSION]⟩,
  ⟨0x3E10, .one, [F.PT_TTL_TTL]⟩,
  ⟨0x3E14, .one, [F.PT_DB_RING, F.PT_DB_DELAY]⟩,
  ⟨0x3E18, .one, [F.PT_BP_RING, F.PT_BP_DUTY]⟩,
  ⟨0x3E1C, .one, [F.PT_SKEW_SKEW]⟩,
  ⟨0x3E20, .one, [F.PT_WM_MASK_MASK]⟩,
  ⟨0x3E24, .one, [F.PT_WM_DLY_DELAY]⟩,
  ⟨0x3E28, .one, [F.PT_EXP0_LEFT_HI, F.PT_EXP0_LEFT_LO]⟩,
  ⟨0x3E2C, .one, [F.PT_EXP1_LEFT_HI, F.PT_EXP1_LEFT_LO]⟩,
  ⟨0x3F00, .perMaster, [F.MBX_REQ_OP, F.MBX_REQ_ADDR]⟩,
  ⟨0x3F04, .perMaster, [F.MBX_STAT_ERR, F.MBX_STAT_LEN, F.MBX_STAT_BUSY, F.MBX_STAT_VALID]⟩,
  ⟨0x3F10, .perMaster, [F.MBX_DATA0_DATA]⟩,
  ⟨0x3F14, .perMaster, [F.MBX_DATA1_DATA]⟩,
  ⟨0x3F18, .perMaster, [F.MBX_DATA2_DATA]⟩,
  ⟨0x3F1C, .perMaster, [F.MBX_DATA3_DATA]⟩
]

/-- The registers of the 512-byte page that holds an address. B channels span three pages from 0x0C00, the
sequencer two from 0x1400 and the fault block several from 0x3200. -/
def regsFor (addr : Nat) : List RegSpec :=
  match addr / 0x200 with
  | 0x0 => regs00
  | 0x1 => regs01
  | 0x2 => regs02
  | 0x3 => regs03
  | 0x4 => regs04
  | 0x5 => regs05
  | 0x6 => regs06
  | 0x9 => regs09
  | 0xA => regs0A
  | 0xC => regs0C
  | 0xD => regs0D
  | 0xE => regs0E
  | 0xF => regs0F
  | 0x10 => regs10
  | 0x11 => regs11
  | 0x12 => regs12
  | 0x13 => regs13
  | 0x14 => regs14
  | 0x15 => regs15
  | 0x16 => regs16
  | 0x17 => regs17
  | 0x18 => regs18
  | 0x19 => regs19
  | 0x1A => regs1A
  | 0x1F => regs1F
  | 0x7 => regs06
  | 0x8 => regs06
  | 0xB => regs0A
  | _ => []

/-- The register that holds an address, with the instance its place among like registers names (R50). -/
def regAt (addr : Nat) : Option (RegSpec × Nat) :=
  (regsFor addr).findSome? (fun r => (r.instAt addr).map (fun i => (r, i)))

/-- Every register of the map. -/
def regTable : List RegSpec :=
  regs00 ++ regs01 ++ regs02 ++ regs03 ++ regs04 ++ regs05 ++ regs06 ++ regs09 ++ regs0A ++ regs0C ++ regs0D ++ regs0E ++ regs0F ++ regs10 ++ regs11 ++ regs12 ++ regs13 ++ regs14 ++ regs15 ++ regs16 ++ regs17 ++ regs18 ++ regs19 ++ regs1A ++ regs1F

/-- Every field of the map, in the order of the registers, and the fields of the wide values (R64). -/
def allFlds : List Fld :=
  regTable.flatMap (·.flds) ++ [F.SWAP_TIME_TIME, F.TB_NOW_TIME, F.PPS_CAPT_TIME, F.ALIGN_TIME_TIME, F.CTX_LAUNCH_TIME, F.SAFE_TIME_TIME, F.LOG_WRITES_COUNT]

end Sys2Proof.Machine
end

