-- ==== Sys2Proof/Machine/Tab.lean ====
section
/-! DEFINITION. Sparse tables: the plain data in which the model holds what the device has many of (register
fields by number, contexts, segments, OTP words). A table is a list of key and value pairs with strictly rising
keys; an absent key reads as the default its reader names, and a write of that default removes the entry, so that
equal tables are equal lists. -/

namespace Sys2Proof.Machine

/-- A sparse table from numbers to `α`. -/
structure Tab (α : Type) where
  cells : List (Nat × α) := []
deriving DecidableEq, Repr, Inhabited

/-- The entry at a key in a list of cells. -/
def cellsGet? {α : Type} : List (Nat × α) → Nat → Option α
  | [], _ => none
  | (k, v) :: cs, n => if k = n then some v else cellsGet? cs n

/-- Put an entry at its place among the rising keys, in place of the entry it replaces. -/
def cellsPut {α : Type} : List (Nat × α) → Nat → α → List (Nat × α)
  | [], n, x => [(n, x)]
  | (k, v) :: cs, n, x =>
    if n < k then (n, x) :: (k, v) :: cs
    else if n = k then (n, x) :: cs
    else (k, v) :: cellsPut cs n x

/-- Take the entries at a key out. -/
def cellsDrop {α : Type} : List (Nat × α) → Nat → List (Nat × α)
  | [], _ => []
  | (k, v) :: cs, n => if k = n then cellsDrop cs n else (k, v) :: cellsDrop cs n

/-- The keys of a list of cells rise strictly from above `lo`. -/
def cellsRising {α : Type} : Nat → List (Nat × α) → Bool
  | _, [] => true
  | lo, (k, _) :: cs => decide (lo ≤ k) && cellsRising (k + 1) cs

/-- The value at `k`; `d` where nothing is listed. -/
def Tab.get {α : Type} (t : Tab α) (d : α) (k : Nat) : α := (cellsGet? t.cells k).getD d

/-- Write `v` at `k`, where `d` is what `k` reads as when nothing is listed. -/
def Tab.set {α : Type} [DecidableEq α] (t : Tab α) (d : α) (k : Nat) (v : α) : Tab α :=
  if v = d then ⟨cellsDrop t.cells k⟩ else ⟨cellsPut t.cells k v⟩

/-- The value at `k` of a table whose default is the type's. -/
def Tab.at {α : Type} [Inhabited α] (t : Tab α) (k : Nat) : α := t.get default k

/-- Write `v` at `k` of a table whose default is the type's. -/
def Tab.put {α : Type} [DecidableEq α] [Inhabited α] (t : Tab α) (k : Nat) (v : α) : Tab α := t.set default k v

/-- Keep the entries whose key satisfies `p`. -/
def Tab.keep {α : Type} (t : Tab α) (p : Nat → Bool) : Tab α := ⟨t.cells.filter (fun c => p c.1)⟩

/-- The canonical form: keys strictly rising and no entry at the default of its key. -/
def Tab.wf {α : Type} [DecidableEq α] (t : Tab α) (d : Nat → α) : Bool :=
  cellsRising 0 t.cells && t.cells.all (fun c => decide (c.2 ≠ d c.1))

end Sys2Proof.Machine
end

