-- ==== Sys2Proof/Machine/State.lean ====
section
/-! DEFINITION. The state of the block, as plain data.

Every register field of the map (Machine/RegMap.lean) has its place in one of four stores, keyed by `Fld.key`:
`sts` (status fields and Immediate set-up fields), `ring.sts` (those of the host-ring block 0x2200), `stag` and `act`
(the staging and the active configuration bank, three copies each, R57, R66). Beside them stand the state machines'
own places, queues and memories that the chapters describe and no register shows. Times that the chapters count in
microseconds or more are kept in `now`, the microseconds of the selected reference since the model's start. -/

namespace Sys2Proof.Machine

/-- Three copies of every field of a configuration bank (R57); a field that is RW and not RWV uses `c0` alone. -/
structure Bank where
  c0 : Tab Nat := {}
  c1 : Tab Nat := {}
  c2 : Tab Nat := {}
deriving DecidableEq, Repr, Inhabited

/-- What the device put out during the last command: model's own, for statements about answers. -/
structure Outputs where
  /-- the word a register or doorbell read returned -/
  rdata : Option Word := none
  /-- the ACK (true) or NACK (false) of a two-wire byte -/
  ack : Option Bool := none
  /-- the byte a two-wire read gave -/
  byte : Option Byte := none
  /-- the error code of the access (R75); none where the command is no access -/
  err : Option Nat := none
  /-- posted memory writes: address and bytes -/
  dma : List (Nat × List Byte) := []
  /-- descriptor read requests: command ring, address, number of bytes -/
  fetch : List (Nat × Nat × Nat) := []
  /-- MSI-X messages, by vector -/
  msix : List Nat := []
  /-- messages put on the twin link: code and argument (R367) -/
  twin : List (Nat × Nat) := []
  /-- symbols 1 to 39 of the frame sent on the twin link (R365) -/
  frame : List Byte := []
  /-- the service that the conversion in a slot of a converter served (R416) -/
  served : Option Service := none
  /-- words read through the calibration port -/
  cal : List Nat := []
deriving DecidableEq, Repr, Inhabited

/-- The five power states (R8). -/
inductive PState where
  | run | hold | dormant | ship | safe
deriving DecidableEq, Repr, Inhabited

/-- Power states, resets and the redundant units (R32 to R46). -/
structure Power where
  /-- the power state; SHIP is never read in PSTATE.STATE -/
  st : PState := .run
  /-- a chip reset has started and is not yet released -/
  inReset : Bool := true
  /-- what the last chip reset came from -/
  kind : ResetKind := .por
  /-- between the release of a chip reset and the end of the OTP digest checks -/
  checking : Bool := false
  /-- the auto prime of a chip reset is still to start (R242) -/
  primeDue : Bool := false
  /-- a chip reset has completed since the entry logic powered up (R116) -/
  booted : Bool := false
  /-- the control plane is unpowered: DORMANT, SHIP, or the open time of a long press -/
  off : Bool := false
  /-- the tOPEN of a long-press reset runs: valve open, feed gates held off (R330) -/
  longOpen : Bool := false
  /-- the WAKE island's long-press flag (R330) -/
  longFlag : Bool := false
  /-- the WAKE island's copies of T_LONG and T_PRESS (R330) -/
  tLong : Nat := 8
  tPress : Nat := 5
  /-- feeds valid at DORMANT entry that do not wake the device, as a mask (R241) -/
  ignoreFeed : Nat := 0
  /-- a brown-out reset completes only when a feed returns: the converter was LOST (R317) -/
  needFeed : Bool := false
  /-- the stroke time (AON) at which the last drain or output stop ended (R242) -/
  lastStop : Option Nat := none
  /-- a chip reset waits for its reset drain (R242): host command or watchdog -/
  resetAfterDrain : Option ResetKind := none
  /-- the state entered at the end of the cutoff drain (R323, R324) -/
  afterCutoff : Option PState := none
  /-- the WAKE island has closed the valve of a device that comes up from POR (R41, R313, R330) -/
  roused : Bool := false
  /-- the primary reference is the one in use -/
  onSecondary : Bool := false
  /-- a metrology die is fitted (R1) -/
  metDie : Bool := true
  /-- the start-up probe of the metrology die is over (R433) -/
  metProbeDone : Bool := false
deriving DecidableEq, Repr, Inhabited

/-- What the AON island stores at each stroke boundary (R95). -/
structure AonTime where
  count : Nat
  rtc : Nat
  mHz : Nat
deriving DecidableEq, Repr, Inhabited

/-- The stroke time base (R86 to R101). -/
structure TimeBase where
  /-- TB_NOW: the stroke time -/
  now : Nat := 0
  everLocked : Bool := false
  /-- angle units still to be slewed out (R87, R94) -/
  slew : Int := 0
  /-- units by which the measured phase differs from its prediction while LOCKED, still to be taken out (R90) -/
  dev : Int := 0
  /-- frequencies measured in this stay in LOCKED, in mHz, the newest first, at most 16 (R93) -/
  freqs : List Nat := []
  /-- the count step that the next boundary applies, and what scheduled it: 0 the host, 1 an alignment, 2 the twin
  (R99, R369) -/
  stepPend : Option (Int × Nat) := none
  /-- an angle step at the next boundary with cause 0x0B (R87) -/
  ofsStep : Option Int := none
  alignArmed : Bool := false
  /-- the FREE frequency in force, and the stored one that the count was seeded with, in mHz (R91) -/
  freeMHz : Nat := 50000
  seedMHz : Nat := 0
  /-- the count was seeded from a stored value (R91) -/
  seeded : Bool := false
  /-- mains valid at the input (R90) -/
  mains : Bool := false
  aon : Option AonTime := none
deriving DecidableEq, Repr, Inhabited

/-- What an action context holds beyond CTX_STAT and CTX_MISSED: the run that was launched (with the set-up it was
launched with, R74, R109) and its arming. -/
structure Ctx where
  /-- step words of the run, first to last -/
  prog : List Nat := []
  /-- index of the next step -/
  pos : Nat := 0
  /-- steps that took effect -/
  took : Nat := 0
  /-- scheduled launch, actual launch and deadline of the present run or arming -/
  sched : Nat := 0
  launch : Nat := 0
  deadline : Nat := 0
  required : Nat := 0
  /-- the stroke time of the previous launch (R88) -/
  prev : Option Nat := none
  /-- the scheduled launch of the previous launch -/
  prevSched : Option Nat := none
  /-- a COMMAND arming's launch time; 0 is the next slot with room -/
  armAt : Option Nat := none
  /-- the stroke time at which it was armed -/
  armedAt : Nat := 0
  /-- a ONESHOT context has reached DONE -/
  onceDone : Bool := false
  /-- the set-up changed at a swap while the run was on: at its end the context takes its initial state (R109) -/
  renew : Bool := false
deriving DecidableEq, Repr, Inhabited

/-- The action scheduler. -/
structure Sched where
  ctxs : Tab Ctx := {}
  /-- launches in the present slot of the present stroke (R106) -/
  inSlot : Nat := 0
  /-- the present slot's own launches have been made -/
  served : Bool := true
  /-- levels of SIG7 to SIG0 -/
  sig : Nat := 0
  /-- where the stroke time stood before the steps of the present command, whose skipped times are still to be judged (R100) -/
  skip : Option Nat := none
deriving DecidableEq, Repr, Inhabited

/-- What a feed controller holds beyond FEED_STAT. -/
structure Feed where
  /-- inside its window (R121) -/
  inWin : Bool := false
  /-- qualified, waiting for the other feed to leave INRUSH (R119) -/
  waiting : Bool := false
  /-- hot-swap FET known to have failed (R124) -/
  fetFailed : Bool := false
  /-- the OR FET was turned off for reverse drop (R122) -/
  blocked : Bool := false
deriving DecidableEq, Repr, Inhabited

/-- The coefficients of a loop as the codes of their fields (R169). -/
structure Coefs where
  b0 : Int := 0
  b1 : Int := 0
  b2 : Int := 0
  a1 : Int := 0
  a2 : Int := 0
deriving DecidableEq, Repr, Inhabited

/-- What the loop of a rail holds (R168, R169, R176): commands in LSB_I, errors in LSB_E. -/
structure Loop where
  /-- the present reference in µV -/
  ref : Int := 0
  /-- the commands of the last two periods, and their errors, the newer first -/
  u1 : Int := 0
  u2 : Int := 0
  e1 : Int := 0
  e2 : Int := 0
  /-- the low side sinks no current until the reference exceeds the output (R176, R204) -/
  diode : Bool := false
  /-- the output is discharged before the ramp starts (R176) -/
  pre : Bool := false
  /-- where and when, in `now` µs, a hand-back ramp started (R322) -/
  rampFrom : Int := 0
  rampAt : Nat := 0
  /-- start of the next switching period in 156.25 ps (R171) -/
  next : Nat := 0
  /-- the derived coefficients of rails 0, 13 and 14 (R201, R211) -/
  coef : Coefs := {}
deriving DecidableEq, Repr, Inhabited

/-- What the stage of a rail holds beyond its status registers. -/
structure Stage where
  /-- the state a FLUSHING or TAKEOVER returns to (R175) -/
  ret : Nat := 0
  /-- the present setpoint, where a RAIL_SET or a procedure has moved it from the active bank's (R178) -/
  setpt : Option Nat := none
  /-- the setpoint that was left, until the rail has been REGULATING for tPGQ at the new one (R256) -/
  oldSet : Option Nat := none
  /-- hiccup restarts without 1 s of regulation in between (R179) -/
  hiccups : Nat := 0
  /-- the low side sinks current after an over-voltage (R180) -/
  ovSink : Bool := false
  /-- active discharge runs (R181, R227, R293) -/
  discharge : Bool := false
  /-- slew in 10 mV/ms and current limit in 10 mA of its priming step in progress, or of its last soft start (R176, R244) -/
  stepSr : Nat := 0
  stepLim : Nat := 0
  /-- its reference and its loop (R168) -/
  loop : Loop := {}
  /-- a sense re-check runs (R183) -/
  snsRetry : Bool := false
  /-- the pair waits for its self-test's result (R186) -/
  bist : Bool := false
  /-- this channel of a pair is LOST while the rail goes on with the other (R174) -/
  gone : Bool := false
  /-- telemetry windows since the last record, and the record's own peaks (R190) -/
  telWins : Nat := 0
  recVMax : Nat := 0
  recVMin : Nat := 0xFFFF
  recIMax : Int := -32768
  /-- the temperature is not below its restart level (R188, R213) -/
  hot : Bool := false
  /-- a flush is in its cool-down before the second try (R153) -/
  flushCool : Bool := false
  /-- a mismatch waits for the end of the flush (R194) -/
  mismatchPend : Bool := false
deriving DecidableEq, Repr, Inhabited

/-- The segment health states (R137). -/
inductive Health where
  | good | resting | probing | retiredGate | retiredLink
deriving DecidableEq, Repr, Inhabited

/-- A cistern segment; an unlisted one is GOOD, closed and unmarked. -/
structure Seg where
  health : Health := .good
  cause : Nat := 0
  suspect : Bool := false
  linkOpen : Bool := false
  /-- where a PROBING segment returns to -/
  wasResting : Bool := false
  /-- order of its last completed probe; 0 before the first -/
  probed : Nat := 0
  /-- V_TH of its last completed probe in mV, plus 1; 0 before the first (R147) -/
  vth : Nat := 0
deriving DecidableEq, Repr, Inhabited

/-- The cistern arrays. Keys: segments `ch * 4096 + arr * 2048 + seg`, arrays `ch * 2 + arr`, banks
`ch * 32 + arr * 16 + bank`, channels `ch`. -/
structure Cistern where
  segs : Tab Seg := {}
  /-- active banks of an array, as a mask -/
  active : Tab Nat := {}
  /-- charge carried by a bank below 1 mA·h, in mA · 50 µs / 720720 (R146) -/
  wearRest : Tab Nat := {}
  /-- the segment index after which a bank's next resting segments are taken (R142) -/
  restFrom : Tab Nat := {}
  /-- running count of completed probes -/
  probes : Nat := 0
  /-- segment that CA_CTL.PROBE made the next one probed, per array, plus 1 -/
  probeNext : Tab Nat := {}
  /-- segment being probed, per array, plus 1 -/
  probing : Tab Nat := {}
  /-- segments of a bank with a leaking gate that are still to be probed, per array; the bank stays inactive (R149) -/
  leaking : Tab (List Nat) := {}
  /-- times of confirmed shorts within the last second, per channel, in `now` µs (R156) -/
  shorts : Tab (List Nat) := {}
  /-- the bank exchange in progress of an array, incoming and outgoing bank, each plus 1 (R143) -/
  swap : Tab (Nat × Nat) := {}
  /-- when a channel's rotation in progress ends, in `now` µs (R143) -/
  rotEnd : Tab Nat := {}
  /-- the suspect array of a flush in progress, per channel: 1 HS, 2 LS (R152) -/
  suspect : Tab Nat := {}
  /-- cause of the last retirement, per array; saved with WEAR (R159) -/
  lastCause : Tab Nat := {}
deriving DecidableEq, Repr, Inhabited

/-- The sequencer, beyond SEQ_* and SQ_RSTAT. Rail sets are masks of bits 0 to 23. -/
structure Seq where
  /-- rails of the priming operation in progress -/
  primeScope : Nat := 0
  /-- rails of the drain in progress -/
  drainScope : Nat := 0
  /-- rails whose drain step waits for tPFW_LEAD (R231) -/
  lead : Nat := 0
  /-- rails that end their ramp before they join the drain (R231) -/
  joinAfterRamp : Nat := 0
  /-- rails that end their ramp outside any drain after their priming was stopped (R231) -/
  finishRamp : Nat := 0
  /-- rails shed at the hand-over, or left unprimed by an auto prime in HOLD (R240, R243) -/
  shed : Nat := 0
  /-- a start-failure drain is part of the drain in progress, for this rail (R233) -/
  latchAfter : Option Nat := none
  /-- an overload shed waits for the drain in progress (R219) -/
  shedPend : Bool := false
  /-- the shed drain of a hand-over is part of the drain in progress (R318) -/
  handover : Bool := false
  /-- start retries taken, per rail (R232) -/
  retries : Tab Nat := {}
  /-- when each rail's step started, in `now` µs plus 1; 0 for never -/
  stepAt : Tab Nat := {}
  /-- the last two lanes have disagreed (R230) -/
  lanesLost : Bool := false
  /-- times of each lane's resyncs within the last hour, in `now` µs -/
  laneTimes : Tab (List Nat) := {}
deriving DecidableEq, Repr, Inhabited

/-- A crossing of a window monitor that a perturbation delays (R302): when it takes effect in `now` µs, its comparator, its edge and its
value in mV. -/
structure LateCross where
  due : Nat
  mon : Nat
  cmp : MonCmp
  edge : MonEdge
  mv : Int
deriving DecidableEq, Repr, Inhabited

/-- The window monitors, beyond their registers. -/
structure WMon where
  /-- the DAC whose readback is open, plus 1 (R270) -/
  readback : Nat := 0
  /-- the DAC whose first audit reading differed, plus 1 (R269) -/
  retest : Nat := 0
  /-- DACs that the present audit pass has read, and those that it passed over while they were blanked, as masks (R269) -/
  auditSeen : Nat := 0
  auditSkip : Nat := 0
  /-- crossings that a perturbation delays, oldest first -/
  late : List LateCross := []
  /-- until when the output of each trip comparator is held, in `now` µs (R271) -/
  tcBlank : Tab Nat := {}
  /-- VSYS has crossed EXT0 RST_LO since it fell below WARN_LO (R263) -/
  supRst : Bool := false
deriving DecidableEq, Repr, Inhabited

/-- One source of events: an event code of a block (R284). -/
structure Src where
  /-- the most recent events, newest first: `now` in µs and the stroke count -/
  times : List (Nat × Nat) := []
  severe : Bool := false
deriving DecidableEq, Repr, Inhabited

/-- One history entry (R286): its 16 bytes, byte 0 least significant, and whether the mailbox has read it. -/
structure HistEntry where
  bits : Nat
  read : Bool := false
deriving DecidableEq, Repr, Inhabited

/-- The fault blocks, beyond their registers. Sources are keyed `block * 256 + event`. -/
structure Faults where
  srcs : Tab Src := {}
  /-- newest first, at most 8 -/
  hist : Tab (List HistEntry) := {}
  /-- events of each block since chip reset -/
  count : Tab Nat := {}
deriving DecidableEq, Repr, Inhabited

/-- The perturbation block, beyond its registers. -/
structure Pert where
  /-- the master that opened the session -/
  session : Option Master := none
  sessionEnd : Nat := 0
  /-- end of each kind 1 to 4, in `now` µs; plus 1, 0 when inactive -/
  kindEnd : Tab Nat := {}
  /-- the master that wrote the first key, and when -/
  key : Option (Master × Nat) := none
  /-- command rings whose doorbell fetch is delayed, as a mask -/
  delayed : Nat := 0
deriving DecidableEq, Repr, Inhabited

/-- The well converter, its valve and the charger, beyond their registers. -/
structure Well where
  /-- the hand-over was pre-emptive (R319) -/
  pre : Bool := false
  /-- the shed drain of the hand-over has ended -/
  hoDone : Bool := false
  /-- tHO_LEAD runs: the shed drain is not yet started (R318) -/
  leadPend : Bool := false
  /-- phase that SUSPENDED returns to, coded as WELL_CSTAT.CHG -/
  phaseLeft : Nat := 0
  /-- SUSPENDED leads to QUAL: HOLD, a lend or a learning draw was among its reasons (R325) -/
  requal : Bool := false
  /-- V_WELL_REG as it stands in mV: in HOLD it moves to a new value at 1 V/ms (R332) -/
  floorMv : Nat := 11600
  /-- the highest die temperature that FOLDBACK_CHANGE has reported, in 0.125 °C (R327) -/
  dieTemp : Int := 0
  /-- the floor command is below 0 (R315, R325) -/
  floorLow : Bool := false
  /-- phase timers: dilated count in 0.5 µs, wall time in µs (R328) -/
  count : Nat := 0
  wall : Nat := 0
  /-- the floor command is held at 0 from rail 0's drain, or by a safe-state map that holds rail 0 off (R315) -/
  floorOff : Bool := false
  lend : Bool := false
  /-- the converter state that a TAKEOVER returns to (R317) -/
  ret : Nat := 0
  /-- the pair waits for its self-test's result (R186, R317) -/
  bist : Bool := false
  /-- the converter's mode, coded as X_STAT.MODE: 0 BUCK, 1 BUCK_BOOST, 2 BOOST (R210, R315) -/
  mode : Nat := 0
deriving DecidableEq, Repr, Inhabited

/-- The estimator, beyond its registers. Charge in µAh. -/
structure Est where
  /-- charge drawn since the window opened -/
  qDraw : Nat := 0
  /-- charge drawn and not yet counted in EST_EFC, in 0.01 µAh -/
  efcRest : Nat := 0
  /-- C_USE in µAh at that discharge; 0 before the first (R348) -/
  efcOf : Nat := 0
  /-- the previous sample -/
  last : Option EstReading := none
  /-- SoC_V of the last sample, in 1e-6 of full charge -/
  socV : Nat := 0
  /-- samples since the last periodic record -/
  recCount : Nat := 0
  zUpdated : Bool := false
  /-- V_ocv lies outside the table (R337) -/
  outside : Bool := false
  /-- the pack has become present: the next sample sets Q_C (R341); so too after power was off (DEDUCED, log 14) -/
  resyncNext : Bool := true
  /-- the newest DORMANT sample's record, kept until the device next runs (R349): its bytes and its stroke time -/
  kept : Option (List Byte × Nat) := none
deriving DecidableEq, Repr, Inhabited

/-- One record on its way to the host (R396), without its generation bit and check value. -/
structure Rec where
  typ : Nat
  lock : Nat
  src : Nat
  seq : Nat
  time : Nat
  pay : List Byte
  /-- a sealed record whose check value failed on receipt: its 32 bytes as received (R430) -/
  raw : Option (List Byte) := none
deriving DecidableEq, Repr, Inhabited

/-- A command descriptor that passed its checks at fetch (R390), with where it came from. -/
structure Desc where
  info : CmdInfo
  op : Nat
  fence : Bool
  target : Nat
  launch : Nat
  /-- payload bytes 16 to 27 -/
  pay : List Byte
deriving DecidableEq, Repr, Inhabited

/-- The host-link domain: the fields of block 0x2200 and the queues behind them. Rings are numbered as
HR_CTL.RING: 0 to 7 command rings, 8 to 23 record rings. -/
structure RingBlk where
  sts : Tab Nat := {}
  /-- records waiting per record ring, oldest first, at most 64 -/
  queue : Tab (List Rec) := {}
  /-- commands held back by a FENCE, per command ring, oldest first -/
  held : Tab (List Desc) := {}
  /-- the timed queue in order of time, then arrival; at most 32 -/
  timed : List Desc := []
  /-- descriptors handed to an executing block and not yet completed -/
  dispatched : List Desc := []
  /-- next record sequence per source * 16 + type -/
  seqs : Tab Nat := {}
  /-- command rings whose first descriptor after enable has set the expected sequence -/
  seqSet : Nat := 0
  /-- rings whose first drop since the read of RG_EVT has still to raise HOST 0x03, and those that have raised it -/
  dropDue : Nat := 0
  dropSaid : Nat := 0
  /-- MSI-X: masked vectors, as the complement of the mask bits, which the PCI Express Base Specification resets to 1;
  pending vectors -/
  vecOpen : Nat := 0
  vecPend : Nat := 0
  /-- the address and data words of the MSI-X table (R383), entry * 4 + word -/
  vecTab : Tab Nat := {}
  /-- records written since a ring's last message, and when the first of them was written (plus 1) -/
  irqCount : Tab Nat := {}
  irqAt : Tab Nat := {}
  /-- descriptors still to come of the read in flight, per command ring -/
  reading : Tab Nat := {}
  /-- HOST 0x09 has been raised since link-up (R403) -/
  rateSaid : Bool := false
  /-- record back-pressure holds the masked rings' DMA now (R302) -/
  bpHold : Bool := false
deriving DecidableEq, Repr, Inhabited

/-- The commit engine, beyond its registers. -/
structure Commit where
  /-- the stroke time sampled at GO -/
  at_ : Nat := 0
  /-- the stroke time of the coming swap, while PENDING -/
  swapAt : Nat := 0
  /-- the swap came due while a drain or transition held it (R20) -/
  heldBack : Bool := false
  /-- the staging bank is being refilled after a swap (R70) -/
  copying : Bool := false
  /-- the owner's last access, in `now` µs -/
  ownAt : Nat := 0
  /-- the pending commit passed check 0x8 as a coordinated commit only (R376) -/
  coord : Bool := false
  /-- the coefficients that validation derived for rails 0, 13 and 14 (R201, R211) -/
  coefs : Tab Coefs := {}
deriving DecidableEq, Repr, Inhabited

/-- What each master holds: its mailbox request in progress, if any: true for a write; the home address; the instance that its
window selects named at the request (R64). -/
structure Mbx where
  req : Option (Bool × Nat × Nat) := none
deriving DecidableEq, Repr, Inhabited

/-- The two-wire interface (R76 to R81). -/
structure TwoWire where
  page : Byte := 0
  ptr : Byte := 0
  /-- inside a transaction, and its direction -/
  active : Bool := false
  reading : Bool := false
  /-- the next written byte is the pointer -/
  wantPtr : Bool := false
  /-- the assembly word and the register it was loaded from -/
  asm : Option (Nat × Nat) := none
  /-- written bytes are ignored, read bytes are 0xFF, to the next STOP or START (R78, R80) -/
  dead : Bool := false
  /-- SDA released for the rest of the transaction (R81) -/
  released : Bool := false
  /-- the snapshots that serve this transaction: address and word -/
  snaps : List (Nat × Nat) := []
  /-- a crossing runs for this page and pointer -/
  crossing : Option Nat := none
  /-- a write that crosses keeps the bus busy until then, in `now` µs (R62, R63) -/
  busyTill : Nat := 0
  /-- a completed capture kept for the repeated transaction: its address and its words -/
  kept : Option (Nat × List (Nat × Nat)) := none
deriving DecidableEq, Repr, Inhabited

/-- The twin link (chapter 13), beyond TW_*. -/
structure Twin where
  /-- own leave requested and not yet answered, while LEAVE_REQ repeats (R367), and whether EJECT_N asked for it (R373) -/
  asked : Bool := false
  byEject : Bool := false
  /-- messages that repeat on the link, the first in every frame: code, argument, frames left (R367) -/
  msgs : List (Nat × Nat × Nat) := []
  /-- sequence and mirror chunk of the next frame, and the mirror that the present pass sends (R365, R366) -/
  txSeq : Nat := 0
  txChunk : Nat := 0
  pass : List Byte := []
  /-- stroke time bits [39:0] of the partner's last frame, and this device's stroke time at its receipt (R365) -/
  pTime : Option (Nat × Nat) := none
  /-- the partner's leave has been accepted -/
  acked : Bool := false
  /-- stroke count bits [31:0] of the hand-over boundary -/
  boundary : Option Nat := none
  /-- slots that close at the next stroke boundary; slots whose share ramps up, or down while LEAVING (R372, R373) -/
  closing : Nat := 0
  ramp : Nat := 0
  /-- TW_CTL.JOIN has been written in CHECK (R368) -/
  join : Bool := false
  /-- this device entered CHECK from SOLE, UNLINKED or LEFT with a used slot closed (R369) -/
  based : Bool := false
  /-- the partner's last frame: role, closed mask; the partner was last outside CHECK with a slot closed -/
  pRole : Bool := false
  pClosed : Nat := 0
  pBased : Bool := false
  /-- mirror bytes received in the present pass, by chunk (R366) -/
  chunks : Tab (List Byte) := {}
  /-- the partner's last mirror, and whether it came since the link came up -/
  mirror : Option (List Byte) := none
  fresh : Bool := false
  /-- when it came, in `now` µs -/
  mirrorAt : Nat := 0
  /-- stroke count difference to the partner (R379), set by its frames -/
  cntDiff : Int := 0
  /-- failing CRCs since the last twin record -/
  crcSince : Nat := 0
  /-- the trim of each slot's reference in 10 pV (R370) -/
  trim : Tab Int := {}
  /-- the stroke time at which each slot's share ramp started (R372, R373) -/
  rampAt : Tab Nat := {}
  /-- the trim in µV that a standpipe rail keeps through a chip reset (R377) -/
  frozen : Tab Int := {}
  /-- slots that disagree with the partner's active set while it is not checked: after a coordinated commit that failed on one device
  (R377) -/
  apart : Nat := 0
deriving DecidableEq, Repr, Inhabited

/-- A measurement stream (R411 to R415). -/
structure Stream where
  /-- a PIN or STEP run is in progress; its first conversion's slot, its channel in place of CH, its outputs to come -/
  run : Bool := false
  first : Option Nat := none
  ch : Option Nat := none
  left : Nat := 0
  /-- SINC: the partial stroke is discarded; N whole strokes have passed; the samples of the strokes with
  the markers of those missing, the present stroke and the latest sample first -/
  whole : Bool := false
  settled : Bool := false
  wins : List (List Nat) := []
  /-- post-averager: sum, number and first stamp of its group -/
  sum : Nat := 0
  cnt : Nat := 0
  stamp : Nat := 0
deriving DecidableEq, Repr, Inhabited

/-- The measurement converters (chapter 15), beyond MEAS_* and MS_*. -/
structure Meas where
  streams : Tab Stream := {}
  /-- outputs of the block in progress with their stamps: of stream SRC, of stream SRC + 4 -/
  blk : List (Nat × Nat) := []
  blk2 : List (Nat × Nat) := []
  /-- slot of each converter's last borrow, plus 1 -/
  lent : Tab Nat := {}
deriving DecidableEq, Repr, Inhabited

/-- A copy of the metrology die's energy store (R438): its number, the accumulators with their remainders, the record
sequence, the restart count. -/
structure MetStore where
  num : Nat := 0
  eImp : Nat := 0
  eExp : Nat := 0
  qImp : Nat := 0
  qExp : Nat := 0
  seq : Nat := 0
  restarts : Nat := 0
deriving DecidableEq, Repr, Inhabited

/-- The extremes of the metrology die's present interval, in 2^-53 of full scale (R446). -/
structure MetExtremes where
  vMin : Int
  vMax : Int
  iMin : Int
  iMax : Int
deriving DecidableEq, Repr, Inhabited

/-- The metrology die (chapter 16), and what the main die holds of its channel. -/
structure Met where
  /-- MVDD is present and the die meters -/
  mvdd : Bool := false
  /-- SEALED; a seal is being burned; the seal was cut off; the last check of the seal digest, and its value (R439, R442) -/
  sealed : Bool := false
  burning : Bool := false
  cut : Bool := false
  digestOk : Bool := true
  digest : Nat := 0
  /-- calibration words by pointer, where they are not nominal; the mask of those written; CAL_STAT.ERR; MCAL_EN (R441) -/
  words : Tab Nat := {}
  written : Nat := 0
  calErr : Nat := 0
  calEn : Bool := false
  /-- the seal-event counter (R443) -/
  events : Nat := 0
  /-- CADENCE in force and that of the next interval, PULSE_QTY (R445, R450) -/
  cadence : Nat := 0
  cadNext : Nat := 0
  pulse : Nat := 0
  /-- what the energy store keeps, as it stands now: accumulators in their sub-units -/
  live : MetStore := {}
  /-- the two stored copies, the newer first -/
  newer : MetStore := {}
  older : MetStore := {}
  /-- flags of the next group (R446), TIME_OK -/
  restart : Bool := false
  integrity : Bool := false
  check : Bool := false
  ovl : Bool := false
  timeOk : Bool := false
  /-- samples in a row with the check value apart from v, and without (R436) -/
  apart : Nat := 0
  close : Nat := 0
  /-- the received stroke time and lock code; the first stroke count after the last boundary; the count has stepped back since
  (R445, R450) -/
  time : Nat := 0
  lock : Nat := 0
  lastCount : Nat := 0
  back : Bool := false
  ext : Option MetExtremes := none
  /-- MET_LAST -/
  lastSeq : Nat := 0
  lastFlags : Nat := 0
  /-- groups waiting for the outbound channel, each as its records still to be sent (R448) -/
  queue : List (List Rec) := []
  /-- CONFIG commands of the main die on their way (R431) -/
  sent : List Nat := []
  /-- the main die has declared the link lost (R432) -/
  lost : Bool := false
deriving DecidableEq, Repr, Inhabited

/-- A master's shadow of the calendar (R460): the words of RTC_SUBSEC, RTC_TIME and RTC_DATE. -/
structure Shadow where
  sub : Nat
  time : Nat
  date : Nat
deriving DecidableEq, Repr, Inhabited

/-- The RTC, beyond its registers. -/
structure Rtc where
  /-- part of a tick that has passed, in 1/32,768 µs -/
  rest : Nat := 0
  /-- SUBSEC units counted beyond 32,767 that wait for the carry into SEC (R455) -/
  past : Nat := 0
  /-- ticks within the present 1,048,576 of the trim (R457) -/
  trimAt : Nat := 0
  /-- ticks since the shift's last unit, and counts of a negative shift that SHIFT_COMPLETE has left to withhold (R458) -/
  shiftAt : Nat := 0
  withheld : Nat := 0
  /-- RTC_TIME or RTC_DATE has been written in this halt (R456) -/
  written : Bool := false
  /-- the crystal has qualified since AON power-up (R454) -/
  everXtal : Bool := false
  /-- the shadow of each master, by its index -/
  shadows : Tab (Option Shadow) := {}
deriving DecidableEq, Repr, Inhabited

/-- The eight timers, beyond their registers. -/
structure Timers where
  /-- active TOP and active CMP of each timer, as 2^32 - 1 minus their value, so that an unlisted one is 0xFFFFFFFF -/
  top : Tab Nat := {}
  cmp : Tab Nat := {}
  /-- levels of the ADC_TRIG and PPS_IN balls -/
  adcTrig : Bool := false
  ppsIn : Bool := false
deriving DecidableEq, Repr, Inhabited

/-- A watchdog slot: when its count last restarted (`now` µs), the window and the grace in force since then (R476,
R483). -/
structure Slot where
  at_ : Nat := 0
  opn : Nat := 0
  close : Nat := 0
  grace : Nat := 0
  /-- when the slot last expired, in `now` µs (R476, R485) -/
  expiredAt : Option Nat := none
deriving DecidableEq, Repr, Inhabited

/-- The watchdog, beyond its registers. -/
structure Wdt where
  slots : Tab Slot := {}
  /-- slots that have served in their own window since the ladder last advanced (R480) -/
  served : Nat := 0
  /-- when the ladder last advanced, in `now` µs, and the period in force since then (R483) -/
  advanced : Nat := 0
  period : Nat := 0
  /-- HOST_RST_N is driven low (R481): an output of the device -/
  hostRst : Bool := false
deriving DecidableEq, Repr, Inhabited

/-- One stored copy of a logbook chunk (R499): its sequence, whether its CRC passes, and its payload as the values that
differ from their Reset values, by key. -/
structure LogCopy where
  seq : Nat := 0
  ok : Bool := true
  pay : List (Nat × Nat) := []
deriving DecidableEq, Repr, Inhabited

/-- One OTP command on its way (R497, R498). -/
structure OtpRun where
  cmd : Nat
  region : Nat
  word : Nat
  data : Nat
deriving DecidableEq, Repr, Inhabited

/-- The OTP array and its controller. -/
structure Otp where
  /-- the burned bits of each word of IDENT, OPTIONS and DEFAULTS, digests included, by index (R490) -/
  words : Tab Nat := {}
  run : Option OtpRun := none
  /-- Vendor ID, Subsystem Vendor ID and Subsystem ID as the last digest checks gave them (R492) -/
  pciVendor : Nat := 0
  pciSubVendor : Nat := 0
  pciSub : Nat := 0
deriving DecidableEq, Repr, Inhabited

/-- The logbook (R499). Chunks: MAP channel * 8 + array * 4 + quarter (0 to 95), WEAR 96 + channel, COUNT 108 + rail / 8,
EST 111, CTRL 112. -/
structure Logb where
  /-- the two copies of each chunk, keyed chunk * 2 + copy -/
  copies : Tab LogCopy := {}
  /-- chunks whose save waits, oldest first, and whether the save needs a token -/
  pend : List (Nat × Bool) := []
  /-- the save being written: chunk, copy, sequence and payload -/
  writing : Option (Nat × Nat × LogCopy) := none
  /-- when the last FLUSH was accepted, in `now` µs -/
  flushAt : Option Nat := none
  /-- chunks that a FLUSH saves without tokens -/
  flushing : List Nat := []
  /-- pending chunks whose deferral by the reserve check has been reported -/
  waited : List Nat := []
  /-- pending chunks whose save has been counted as deferred for want of a token -/
  starved : List Nat := []
  /-- sectors that have failed and been replaced by a spare, and the item whose save met the last of them -/
  bad : Nat := 0
  badItem : Nat := 0
  /-- a chip reset has met EST_STAT.SAVE_PEND set: the save of EST is repeated (R352) -/
  again : Bool := false
deriving DecidableEq, Repr, Inhabited

/-- A reaction that an event of class SHED or higher has asked for in the present command (R282): the applied class,
the block and event code, and the group of a SHED. -/
structure Reaction where
  cls : Nat
  block : Nat
  event : Nat
  group : Nat
deriving DecidableEq, Repr, Inhabited

/-- No command of the block stops with a fault: the type is empty. -/
inductive Fault where
deriving DecidableEq, Repr

/-- Why a command has no meaning here. -/
inductive Refusal where
  /-- raised by an arm of `exec` whose command is not modelled yet; safe: no effect is claimed -/
  | notModelled (mnemonic : String)
deriving DecidableEq, Repr

/-- The state of the block. -/
structure State where
  /-- the commands that wait, first in, first out -/
  pending : List Instr := []
  out : Outputs := {}
  /-- reactions asked for in the present command, oldest first -/
  due : List Reaction := []
  /-- words that status registers held between two changes of the present command: instance, address, word (R61) -/
  mids : List ((Nat × Nat) × Nat) := []
  /-- microseconds of the selected reference since the model's start -/
  now : Nat := 0
  /-- the model's own: how many free values have been drawn -/
  free : Nat := 0
  sts : Tab Nat := {}
  stag : Bank := {}
  act : Bank := {}
  power : Power := {}
  tb : TimeBase := {}
  sched : Sched := {}
  feeds : Tab Feed := {}
  stages : Tab Stage := {}
  /-- HEALTH of the controller pairs that no register shows (R499): X0, X1, then the header phases -/
  health : Tab Nat := {}
  /-- header phases whose PH_RETRY self-test runs, as a mask (R208) -/
  phRetry : Nat := 0
  /-- when each header phase rejoined, in `now` µs, while its share still ramps up (R208); plus 1 -/
  phJoin : Tab Nat := {}
  /-- 0: none; 1: an overload has lasted tHDR_SHED; 2: its shed has started; 3: PERSIST_OVERLOAD is reported (R205) -/
  overload : Nat := 0
  cist : Cistern := {}
  seq : Seq := {}
  wmon : WMon := {}
  faults : Faults := {}
  pert : Pert := {}
  well : Well := {}
  est : Est := {}
  ring : RingBlk := {}
  commit : Commit := {}
  mbx : Tab Mbx := {}
  tw : TwoWire := {}
  twin : Twin := {}
  meas : Meas := {}
  met : Met := {}
  rtc : Rtc := {}
  timers : Timers := {}
  wdt : Wdt := {}
  otp : Otp := {}
  logb : Logb := {}
deriving DecidableEq, Repr, Inhabited

/-- The block right after reset: every field at its Reset value, so every table empty, in the chip reset sequence that a
power-on starts (R504). -/
def State.reset : State := {}

end Sys2Proof.Machine
end

