-- ==== Sys2Proof/Machine/Ops.lean ====
section
/-! DEFINITION. The named operations that every command uses: reading and writing a field in its store, the reset value
of each instance, the record builder (R396 to R401), the events and their history (R278 to R291). -/

namespace Sys2Proof.Machine

-- Event table

/-- Default classes of a block's events, code 0x01 first (R279 and the "Faults reported" tables): 0 NOTE, 1 WARN,
2 SHED, 3 DRAIN, 4 SAFE. -/
def evClasses : Nat → List Nat
  | 0x00 => [1, 1, 1, 1, 1, 1, 1]
  | 0x01 => [1, 4]
  | 0x02 => [1, 0, 0]
  | 0x03 => [0, 0, 0]
  | 0x04 => [1, 1, 1, 1, 1, 0, 0]
  | 0x05 => [1, 1, 1, 1, 1, 1, 1, 1, 3, 4, 4, 0, 0, 0, 0, 0]
  | 0x06 => [1, 1, 1, 1, 1, 1, 1, 0, 0, 0, 4]
  | 0x07 => [1, 1, 1, 1, 1, 0, 0, 0, 0, 4]
  | 0x08 => [1, 1, 1, 1, 1, 1, 0, 0, 0, 4]
  | 0x09 => [1, 1, 1, 1, 1, 0, 0, 0, 0]
  | 0x0A => [1, 0]
  | 0x0B => [1, 1, 0, 1, 1, 1, 1, 1, 1, 1, 1, 1, 1, 0, 0, 0, 0, 0]
  | 0x0C => [1, 0, 0, 1, 0, 1, 1, 0, 1, 0]
  | 0x0D => [1, 1, 1, 1, 0, 0, 1, 0, 1, 1]
  | 0x0E => [1, 0, 0, 1, 1, 1, 0, 1, 1]
  | 0x0F => [1, 0, 0, 1]
  | 0x10 => [1, 0, 1, 1, 1, 1, 1, 0, 0]
  | 0x11 => [1, 0, 0, 1, 0, 0, 0]
  | 0x12 => [0, 0]
  | 0x13 => [1, 1, 1, 1, 1, 4]
  | 0x14 => [1, 1, 0, 0, 1, 0]
  | 0x15 => [0, 1, 0, 0, 1]
  | 0x16 => [1, 0, 0, 0, 1]
  | _ => []

/-- The default class of an event; none where the block defines no such code (R279). -/
def evDefault (b e : Nat) : Option Nat := if e = 0 then none else (evClasses b)[e - 1]?

/-- The key of an event source. -/
def srcKey (b e : Nat) : Nat := b * 256 + e

-- Reset values that differ among the instances of a register

/-- The reset threshold of a trip comparator (R266). -/
def tcThresh (t : Nat) : Nat :=
  if t < 12 then 1000 else if t < 24 then 650 else if t < 27 then 1600 else if t < 30 then 500
  else if t < 32 then 1000 else if t < 34 then 3200 else if t = 34 then 2200 else 2250

/-- The safe default OCV tables in 0.1 mV (R338). -/
def ocvLfp : List Nat :=
  [28000, 30500, 31500, 31950, 32150, 32280, 32380, 32460, 32530, 32590, 32640, 32680, 32720, 32760, 32800, 32840,
   32880, 32920, 32960, 33000, 33040, 33080, 33120, 33160, 33200, 33240, 33280, 33330, 33380, 33450, 33600, 34500]
def ocvNmc : List Nat :=
  [30000, 32800, 34000, 34600, 35000, 35300, 35550, 35750, 35920, 36070, 36200, 36330, 36460, 36600, 36750, 36910,
   37080, 37260, 37450, 37650, 37860, 38080, 38310, 38550, 38800, 39060, 39330, 39610, 39900, 40300, 40900, 42000]

/-- The rail of a window monitor, which is VSYS or an EXT input from 24 on (R251). -/
def wmRail (m : Nat) : Bool := m < 24

/-- The reset levels of a window monitor: low warning, low reset, high warning, high reset (R276). -/
def wmReset (m : Nat) : Nat × Nat × Nat × Nat :=
  if 1 ≤ m ∧ m ≤ 20 then (50, 100, 50, 100)
  else if m < 24 then (70, 120, 50, 100)
  else if m = 24 then (1650, 1500, 12000, 12000)
  else (0, 0, 12000, 12000)

/-- The Reset value of instance `i` of a field (R10). -/
def Fld.resetAt (f : Fld) (i : Nat) : Nat :=
  match f.reg with
  | 0x1504 => if f.lo = 30 then b2n (i == 0) else if f.lo = 20 then (if i = 0 then 0 else 0xF) else f.rst
  | 0x150C => if f.lo = 0 then (if i = 0 then 0x7D0 else 0x64) else f.rst
  | 0x3380 => if f.lo = 0 then i else f.rst
  | 0x224C => if i = 8 then 10000 else 0
  | 0x3404 => if f.lo = 0 then f.rst else (evDefault (i / 256) (i % 256)).getD 0
  | 0x1230 => if f.lo = 0 then (if i % 32 / 16 = 0 then 0x40 else 0x60) else f.rst
  | 0x1B00 => if f.lo = 0 then tcThresh i else f.rst
  | 0x1834 => if f.lo = 0 then (wmReset i).1 else (wmReset i).2.1
  | 0x1838 => if f.lo = 0 then (wmReset i).2.2.1 else (wmReset i).2.2.2
  | 0x2C40 => if f.lo = 31 then b2n (i == 0) else f.rst
  | 0x1E10 => (if i < 32 then ocvLfp else ocvNmc).getD (i % 32) 0
  | _ => f.rst

-- Fields in their stores

/-- The field belongs to the host-ring block (0x2200 to 0x23FF), whose status stands in `ring.sts`. -/
def Fld.inRing (f : Fld) : Bool := decide (0x2200 ≤ f.reg) && decide (f.reg < 0x2400)

/-- A field of the host-ring block. -/
def RingBlk.rd (r : RingBlk) (f : Fld) (i : Nat) : Nat := r.sts.get (f.resetAt i) (f.key i)

/-- Write a field of the host-ring block; the value keeps to the field's width. -/
def RingBlk.wr (r : RingBlk) (f : Fld) (i v : Nat) : RingBlk :=
  { r with sts := r.sts.set (f.resetAt i) (f.key i) (v % 2 ^ f.width) }

/-- Add to a counter field of the host-ring block, which saturates. -/
def RingBlk.bump (r : RingBlk) (f : Fld) (i n : Nat) : RingBlk :=
  r.wr f i (satAdd (2 ^ f.width - 1) (r.rd f i) n)

/-- The stored value of instance `i` of a field that is not banked. -/
def State.rd (s : State) (f : Fld) (i : Nat) : Nat :=
  if f.inRing then s.ring.rd f i else s.sts.get (f.resetAt i) (f.key i)

/-- Write instance `i` of a field that is not banked; the value keeps to the field's width. -/
def State.wr (s : State) (f : Fld) (i v : Nat) : State :=
  if f.inRing then { s with ring := s.ring.wr f i v }
  else { s with sts := s.sts.set (f.resetAt i) (f.key i) (v % 2 ^ f.width) }

/-- Add `n` to a counter field, which saturates. -/
def State.bumpBy (s : State) (f : Fld) (i n : Nat) : State :=
  s.wr f i (satAdd (2 ^ f.width - 1) (s.rd f i) n)

/-- Add one to a counter field. -/
def State.bump (s : State) (f : Fld) (i : Nat) : State := s.bumpBy f i 1

/-- The one bit of a flag field. -/
def State.flag (s : State) (f : Fld) (i : Nat) : Bool := s.rd f i == 1

/-- The majority of three copies; none where all differ (R57). -/
def majority (a b c : Nat) : Option Nat :=
  if a = b ∨ a = c then some a else if b = c then some b else none

/-- Copy `n` of a banked field. -/
def Bank.copy (b : Bank) (n : Nat) (f : Fld) (i : Nat) : Nat :=
  (match n with | 0 => b.c0 | 1 => b.c1 | _ => b.c2).get (f.resetAt i) (f.key i)

/-- The value of a banked field: the majority of an RWV field's copies; where all three differ, its Reset value, which
the next read or scrub writes back (R57, R59). -/
def Bank.rd (b : Bank) (f : Fld) (i : Nat) : Nat :=
  if f.typ = .rwv then (majority (b.copy 0 f i) (b.copy 1 f i) (b.copy 2 f i)).getD (f.resetAt i)
  else b.copy 0 f i

/-- Write a banked field, all three copies for an RWV field (R54, R57). -/
def Bank.wr (b : Bank) (f : Fld) (i v : Nat) : Bank :=
  let put (t : Tab Nat) : Tab Nat := t.set (f.resetAt i) (f.key i) (v % 2 ^ f.width)
  if f.typ = .rwv then { c0 := put b.c0, c1 := put b.c1, c2 := put b.c2 } else { b with c0 := put b.c0 }

/-- The active copy of a banked field: what the control plane uses (R66). -/
def State.cf (s : State) (f : Fld) (i : Nat) : Nat := s.act.rd f i

/-- The staging copy of a banked field (R66). -/
def State.sf (s : State) (f : Fld) (i : Nat) : Nat := s.stag.rd f i

/-- A one-bit field of the active bank. -/
def State.con (s : State) (f : Fld) (i : Nat) : Bool := s.cf f i == 1

-- Times and free values

/-- The stroke count of the present stroke time (R9). -/
def State.strokes (s : State) : Nat := s.tb.now / 0x10000

/-- The angle of the present stroke time (R9). -/
def State.angle (s : State) : Nat := s.tb.now % 0x10000

/-- Use the next free value of an opaque constant of Config. -/
def State.drawn (s : State) : State := { s with free := s.free + 1 }

/-- The device answers: its control plane is powered. -/
def State.live (s : State) : Bool := !s.power.off

/-- The control plane runs: powered and past the chip reset sequence. -/
def State.on (s : State) : Bool := !s.power.off && !s.power.inReset

/-- The device is in SAFE (R292). -/
def State.safe (s : State) : Bool := s.power.st == .safe

-- Changes of one part

/-- Change the power part, the sequencer's, the well's, the calendar's. -/
def State.setPower (s : State) (f : Power → Power) : State := { s with power := f s.power }
def State.setSeq (s : State) (f : Seq → Seq) : State := { s with seq := f s.seq }
def State.setWell (s : State) (f : Well → Well) : State := { s with well := f s.well }
def State.setRtc (s : State) (f : Rtc → Rtc) : State := { s with rtc := f s.rtc }

-- Records

/-- A number as the `n` bytes of its two's complement, least significant first. -/
def bytes (n v : Nat) : List Byte := leBytes n v

/-- A signed number as 16 bits. -/
def s16 (x : Int) : Nat := toField 16 x

/-- The Castagnoli CRC of one byte (R389). -/
def crcBit : Nat → Nat → Nat
  | 0, c => c
  | n + 1, c => crcBit n (if c % 2 = 1 then Nat.xor (c / 2) 0x82F63B78 else c / 2)

/-- CRC-32C before the final XOR. -/
def crcRun : List Byte → Nat → Nat
  | [], c => c
  | b :: bs, c => crcRun bs (crcBit 8 (Nat.xor c b.toNat))

/-- CRC-32C of a list of bytes (R389). -/
def crc32c (bs : List Byte) : Nat := Nat.xor (crcRun bs 0xFFFFFFFF) 0xFFFFFFFF

/-- The first 28 bytes of a record, generation bit 0 (R396). -/
def Rec.body (r : Rec) : List Byte :=
  bytes 1 (r.lock * 16 + r.typ) ++ bytes 1 r.src ++ bytes 2 r.seq ++ bytes 8 r.time ++ r.pay

/-- The 32 bytes of a record as they are written with a generation bit; the check value takes that bit as 0 (R389). -/
def Rec.wire (r : Rec) (gen : Bool) : List Byte :=
  match r.raw with
  | some l => bytes 1 (b2n gen * 128 + (l.headD 0).toNat % 128) ++ l.drop 1
  | none => bytes 1 (b2n gen * 128 + r.lock * 16 + r.typ) ++ r.body.drop 1 ++ bytes 4 (crc32c r.body)

/-- Ring `c` (HR_CTL code) has dropped `n` more records (R401). -/
def RingBlk.drop (r : RingBlk) (c n : Nat) : RingBlk :=
  let r := r.bump F.RG_EVT_DROPS c n
  if bitOf r.dropSaid c || bitOf r.dropDue c then r else { r with dropDue := r.dropDue + 2 ^ c }

/-- Put a record into the queue of a record ring (R398, R399, R401). -/
def RingBlk.push (r : RingBlk) (c : Nat) (x : Rec) : RingBlk :=
  if r.rd F.RG_STAT_STATE c = 0 then r.bump F.HR_UNROUTED_COUNT 0 1
  else
    let q := r.queue.at c
    if r.rd F.RG_STAT_STATE c = 2 ∨ 64 ≤ q.length then r.drop c 1
    else
      let r := { r with queue := r.queue.put c (q ++ [x]) }
      if r.rd F.RG_EVT_QPEAK c < q.length + 1 then r.wr F.RG_EVT_QPEAK c (q.length + 1) else r

/-- The record ring code that a type is routed to; none while its route is off (R398). -/
def State.route (s : State) (t : Nat) : Option Nat :=
  if bitOf (s.cf F.RR_ROUTE_EN_EN 0) (t - 1) then
    some (8 + (if t ≤ 8 then bitsOf (s.cf F.RR_ROUTE0_RING 0) (4 * t - 1) (4 * t - 4)
      else bitsOf (s.cf F.RR_ROUTE1_RING 0) (4 * t - 33) (4 * t - 36)))
  else none

/-- Form a record with the stamp `t` and hand it to the record builder, which never holds the source back (R21, R396,
R398). Without the DATA island no record is formed (R34). -/
def State.emitAt (s : State) (t src typ : Nat) (pay : List Byte) : State :=
  if !s.on || !bitOf (s.rd F.UNIT_STAT_ISLAND_OK 0) 7 then s
  else
    let k := src * 16 + typ
    let q := s.ring.seqs.at k
    let x : Rec := { typ, lock := s.rd F.TB_STAT_LOCK 0, src, seq := q, time := t, pay }
    let r := { s.ring with seqs := s.ring.seqs.put k ((q + 1) % 0x10000) }
    { s with ring := match s.route typ with
        | none => r.bump F.HR_UNROUTED_COUNT 0 1
        | some c => r.push c x }

/-- Form a record at the present stroke time. -/
def State.emit (s : State) (src typ : Nat) (pay : List Byte) : State := s.emitAt s.tb.now src typ pay

-- Message-signalled interrupts

/-- The function may send messages: MSI-X enabled, the link up, out of D3hot, Bus Master Enable set (R289, R382, R404). -/
def State.msixRuns (s : State) : Bool :=
  s.rd F.HR_STAT_MSIX_EN 0 == 1 && s.rd F.HR_STAT_LINK 0 == 2 && s.rd F.HR_STAT_D3HOT 0 == 0 && s.rd F.HR_STAT_BME 0 == 1

/-- Send one MSI-X message (R289, R400), where the function may send any; a masked vector keeps it pending. -/
def State.message (s : State) (v : Nat) : State :=
  if s.msixRuns = false then s
  else if s.rd F.HR_STAT_MSIX_FMASK 0 = 1 ∨ !bitOf s.ring.vecOpen v then
    if bitOf s.ring.vecPend v then s else { s with ring := { s.ring with vecPend := s.ring.vecPend + 2 ^ v } }
  else { s with out := { s.out with msix := s.out.msix ++ [v] } }

-- Events

/-- The data bytes of an event (R281). -/
structure EvData where
  unit : Nat := 0xFF
  cause : Nat := 0
  val : Int := 0
  cnt : Nat := 0
deriving DecidableEq, Repr

/-- Data bytes 2 and 3 (R281): a value that does not fit is free. -/
def val16 (v : Int) : Nat := if -32768 ≤ v ∧ v ≤ 32767 then s16 v else Config.wideValue v % 0x10000

/-- The eight data bytes as a number (R281). -/
def EvData.word (d : EvData) : Nat :=
  d.unit % 256 + d.cause % 256 * 0x100 + val16 d.val * 0x10000 + d.cnt % 0x100000000 * 0x100000000

/-- The value that crossed its limit with an event of a unit, where no command carries it (R281). -/
def State.crossed (s : State) (b e unit : Nat) : Int := Config.crossed (srcKey b e) unit s.now

/-- The block holds a standing fault (R288 and the chapters of blocks 0x0B to 0x15). -/
def State.standing (s : State) (b : Nat) : Bool :=
  match b with
  | 0x00 => s.safe
  | 0x04 => s.rd F.FEED_STAT_STATE 0 == 5 || s.rd F.FEED_STAT_STATE 1 == 5
  | 0x05 => s.rd F.HDR_STAT_STATE 0 == 6 || s.rd F.X_STAT_STATE 0 == 0xA || s.rd F.X_STAT_STATE 1 == 0xA
  | 0x06 | 0x07 => (List.range 12).any (fun c => s.rd F.B_STAT_STATE c == 0xA || (s.stages.at (c + 1)).gone)
  | 0x08 => s.flag F.SEQ_STAT_LATCHED 0
  | 0x0B => s.rd F.WELL_STAT_CONV 0 == 4 || s.flag F.WELL_STAT_VALVE_FAULT 0 || s.flag F.WELL_CSTAT_CHG_FAULT 0
  | 0x0D => s.rd F.TW_STAT_STATE 0 == 9
  | 0x0E => (List.range 24).any (fun c => s.rd F.RG_STAT_STATE c == 2)
  | 0x0F => s.rd F.MEAS_STAT_OPEN 0 != 0
  | 0x10 => s.flag F.MET_STAT_INTEGRITY 0
  | 0x11 => s.flag F.RTC_STAT_XTAL_FAIL 0
  | 0x13 => s.rd F.WDT_STAT_STEP 0 != 0
  | 0x14 => s.flag F.OTP_STAT_DEF_SRC 0
  | 0x15 => s.flag F.LOG_STAT_WORN 0
  | _ => false

/-- FB_STAT.PEND as it reads: held at 1 while a standing fault is (R288). -/
def State.pend (s : State) (b : Nat) : Bool := s.flag F.FB_STAT_PEND b || s.standing b

/-- The block is severe: one of its sources is (R285). -/
def State.severe (s : State) (b : Nat) : Bool :=
  s.faults.srcs.cells.any (fun c => decide (c.1 / 256 = b) && c.2.severe)

/-- The block's history takes no entry (R287). -/
def State.frozen (s : State) (b : Nat) : Bool := s.con F.FB_CFG_FREEZE b && s.severe b

/-- An event at `t` (µs, strokes) lies inside the window of a source that ends at the present time (R284). -/
def State.inWindow (s : State) (k : Nat) (t : Nat × Nat) : Bool :=
  if s.cf F.FC_SEV_UNIT k = 0 then decide (s.now ≤ t.1 + s.cf F.FC_SEV_W k * 1000)
  else decide (s.strokes ≤ t.2 + s.cf F.FC_SEV_W k)

/-- How many kept events of a source lie within its present window (R291). -/
def State.inWin (s : State) (k : Nat) : Nat :=
  min 255 (((s.faults.srcs.at k).times.filter (s.inWindow k)).length)

/-- Enter an event among its source's times and judge severity: severe when the (N − 1)-th earlier event lies no earlier
than W ago (R284). -/
def State.countEvent (s : State) (k : Nat) : State :=
  let n := s.cf F.FC_SEV_N k
  let old := s.faults.srcs.at k
  let times := ((s.now, s.strokes) :: old.times).take 255
  let hit : Bool := n ≠ 0 && (match times[n - 1]? with | some t => s.inWindow k t | none => false)
  { s with faults := { s.faults with srcs := s.faults.srcs.put k { times, severe := old.severe || hit } } }

/-- The applied class of an event (R282). -/
def State.appliedClass (s : State) (k : Nat) : Nat :=
  if (s.faults.srcs.at k).severe then max (s.cf F.FC_CLASS_CLASS k) (s.cf F.FC_CLASS_SEV_CLASS k)
  else s.cf F.FC_CLASS_CLASS k

/-- Byte 1 of a history entry (R286). -/
def State.evFlags (s : State) (k cls : Nat) : Nat :=
  cls * 32 + b2n (s.faults.srcs.at k).severe * 16 + b2n (s.rd F.PT_STAT_ACTIVE 0 != 0) * 8 + s.rd F.TB_STAT_LOCK 0

/-- Take a history entry (R286, R287). -/
def State.history (s : State) (b e fl : Nat) (d : EvData) : State :=
  let q := s.rd F.FH_INFO_NEXT_SEQ b
  let bits := e + fl * 0x100 + s.tb.now % 2 ^ 40 * 0x10000 + q * 2 ^ 56 + d.word * 2 ^ 64
  let old := s.faults.hist.at b
  let lost : Bool := decide (8 ≤ old.length) && (match old.getLast? with | some h => !h.read | none => false)
  let s := if lost then s.bump F.FH_INFO_OVERWRITES b else s
  let new := ({ bits } :: old).take 8
  { s with faults := { s.faults with hist := s.faults.hist.put b new } }
    |>.wr F.FH_INFO_NEXT_SEQ b (q + 1) |>.wr F.FH_INFO_ENTRIES b new.length

/-- A block's interrupt, when its PEND rises (R289). -/
def State.interrupt (s : State) (b : Nat) : State :=
  if s.con F.FB_CFG_IRQ_EN b && s.cf F.FH_GCFG_IRQ_MODE 0 != 1 then s.message (s.cf F.FB_CFG_VEC b) else s

/-- Count an event in its block's status (R288, R309). -/
def State.tally (s : State) (b e cls : Nat) : State :=
  let k := srcKey b e
  let s := { s with faults := { s.faults with count := s.faults.count.put b (satAdd 0xFFFF (s.faults.count.at b) 1) } }
  let s := s.bump F.FC_STAT_TOTAL k |>.bump F.FB_STAT_EVENTS b |>.wr F.FB_STAT_LAST b e
  if s.rd F.FB_STAT_HIGH b < cls then s.wr F.FB_STAT_HIGH b cls else s

/-- The device is in DORMANT. -/
def State.dormant (s : State) : Bool := s.power.off && s.power.st == .dormant

/-- A reaction is asked for (R282, R283): `react` carries it out when the command's own effect is complete. -/
def State.askReaction (s : State) (b e cls : Nat) : State :=
  if 2 ≤ cls then { s with due := s.due ++ [⟨cls, b, e, s.cf F.FC_CLASS_GROUP (srcKey b e)⟩] } else s

/-- An event in DORMANT: the control plane is powered for a sample at most (R35), so it is neither recorded nor counted; one of
SAFE class takes the device to SAFE (R41). DEDUCED (log 25). -/
def State.dormantEvent (s : State) (b e : Nat) : State :=
  let cls := s.appliedClass (srcKey b e)
  if cls = 4 then s.askReaction b e cls else s

/-- A block qualifies an event (R282, R283): history, record, PEND with its interrupt, and for a class of SHED or higher
the reaction. An unpowered control plane reports nothing. -/
def State.raise (s : State) (b e : Nat) (d : EvData := {}) : State :=
  if !s.on then (if s.dormant then s.dormantEvent b e else s) else
  let k := srcKey b e
  let frozen := s.frozen b
  let s := s.countEvent k
  let cls := s.appliedClass k
  let fl := s.evFlags k cls
  let q := if frozen then 0xFF else s.rd F.FH_INFO_NEXT_SEQ b
  let was := s.flag F.FB_STAT_PEND b
  let s := if frozen then s else s.history b e fl d
  let s := s.tally b e cls
  let s := s.emit b 0x03 (bytes 1 b ++ bytes 1 e ++ bytes 1 fl ++ bytes 1 q ++ bytes 8 d.word
    ++ bytes 2 (s.faults.count.at b) ++ bytes 1 (min (s.inWin k) (s.cf F.FC_SEV_N k)) ++ bytes 1 0)
  let s := if 1 ≤ cls then s.wr F.FB_STAT_PEND b 1 else s
  let s := if 1 ≤ cls ∧ was = false then s.interrupt b else s
  s.askReaction b e cls

/-- Events of one block that are qualified together enter in ascending code (R286). -/
def State.raiseAll (s : State) (b : Nat) (l : List (Nat × EvData)) : State :=
  (List.range 19).foldl (fun s e => (l.filter (fun x => x.1 == e)).foldl (fun s x => s.raise b e x.2) s) s

-- The bits of a rail mask

/-- Rail `r` is in a mask. -/
def inMask (m r : Nat) : Bool := bitOf m r

/-- Rails of a mask, in ascending order. -/
def railsOf (m : Nat) : List Nat := (List.range 24).filter (inMask m)

/-- A mask with bit `i` set, or cleared. -/
def setBit (m i : Nat) : Nat := if bitOf m i then m else m + 2 ^ i
def clrBit (m i : Nat) : Nat := if bitOf m i then m - 2 ^ i else m

/-- Intersection, union and difference of masks. -/
def mAnd (a b : Nat) : Nat := Nat.land a b
def mOr (a b : Nat) : Nat := Nat.lor a b
def mDiff (a b : Nat) : Nat := Nat.land a b |> fun c => a - c

end Sys2Proof.Machine
end

