-- ==== Sys2Proof/Machine/Segments.lean ====
section
/-! DEFINITION. The segment map of the cistern arrays as the registers CA_BANK and CA_SEG show it (R134 to R137, R165),
and which stage a trip comparator belongs to (R266). -/

namespace Sys2Proof.Machine

open Sys2Proof

/-- Segments of an array, and of one of its 16 banks (R134). -/
def segsOf (a : Arr) : Nat := match a with | .hs => 1024 | .ls => 1536
def bankSize (a : Arr) : Nat := match a with | .hs => 64 | .ls => 96

/-- The keys of a segment, an array and a bank (Cistern). -/
def segKey (c : Nat) (a : Arr) (g : Nat) : Nat := c * 4096 + a.idx * 2048 + g
def arrKey (c : Nat) (a : Arr) : Nat := c * 2 + a.idx
def bankKey (c : Nat) (a : Arr) (b : Nat) : Nat := c * 32 + a.idx * 16 + b

/-- The array of a key's array index. -/
def arrOf (i : Nat) : Arr := if i = 0 then .hs else .ls

/-- A segment's bank (R134). -/
def bankOf (a : Arr) (g : Nat) : Nat := g / bankSize a

/-- A segment. -/
def State.seg (s : State) (c : Nat) (a : Arr) (g : Nat) : Seg := s.cist.segs.at (segKey c a g)

/-- Change a segment. -/
def State.setSeg (s : State) (c : Nat) (a : Arr) (g : Nat) (f : Seg → Seg) : State :=
  { s with cist := { s.cist with segs := s.cist.segs.put (segKey c a g) (f (s.seg c a g)) } }

/-- The segment is retired (R137). -/
def Health.retired : Health → Bool
  | .retiredGate => true | .retiredLink => true | _ => false

/-- Code of a health state (R137). -/
def Health.code : Health → Nat
  | .good => 0 | .resting => 1 | .probing => 2 | .retiredGate => 4 | .retiredLink => 5

/-- Segments of a bank that satisfy `p`. -/
def State.bankCount (s : State) (c : Nat) (a : Arr) (b : Nat) (p : Seg → Bool) : Nat :=
  ((List.range (bankSize a)).filter (fun i => p (s.seg c a (b * bankSize a + i)))).length

/-- The DRV island is powered (R32). -/
def State.drv (s : State) : Bool := !s.power.off && bitOf (s.rd F.UNIT_STAT_ISLAND_OK 0) 6

/-- A bank is active; its driver works. -/
def State.bankActive (s : State) (c : Nat) (a : Arr) (b : Nat) : Bool := bitOf (s.cist.active.at (arrKey c a)) b
def State.driverOk (s : State) (c : Nat) (a : Arr) (b : Nat) : Bool := s.flag F.CA_BANK_DRIVER_OK (bankKey c a b)

/-- A flush conducts through an array: the one opposite to the suspect, until the flush has ended (R152). -/
def State.flushes (s : State) (c : Nat) (a : Arr) : Bool :=
  s.flag F.CA_STAT_FLUSHING c && !(s.stages.at (c + 1)).flushCool
    && (match a with | .hs => s.cist.suspect.at c == 2 | .ls => s.cist.suspect.at c == 1)

/-- A bank is active as the arrays stand now: in a flush, every bank of the opposite array that has a working driver (R152). -/
def State.bankOn (s : State) (c : Nat) (a : Arr) (b : Nat) : Bool :=
  if s.flushes c a then s.driverOk c a b else s.bankActive c a b

/-- The gate-enable latch of a segment (R135, R137): clear whenever the DRV island is unpowered. -/
def State.gateEn (s : State) (c : Nat) (a : Arr) (g : Nat) : Bool :=
  (s.seg c a g).health == .good && s.bankOn c a (bankOf a g) && s.drv

/-- The counts of a bank that CA_BANK shows: GOOD, RESTING and retired segments (R165). -/
def State.bankShow (s : State) (k : Nat) : Nat × Nat × Nat :=
  let c := k / 32
  let a := arrOf (k % 32 / 16)
  let b := k % 16
  (s.bankCount c a b (fun x => x.health == .good), s.bankCount c a b (fun x => x.health == .resting),
    s.bankCount c a b (fun x => x.health.retired))

/-- A field of CA_BANK as it reads, by its lowest bit (R165). -/
def State.bankField (s : State) (lo k : Nat) : Nat :=
  if lo = 30 then b2n (s.bankOn (k / 32) (arrOf (k % 32 / 16)) (k % 16))
  else if lo = 16 then (s.bankShow k).2.1
  else if lo = 8 then (s.bankShow k).2.2
  else if lo = 0 then (s.bankShow k).1
  else s.rd F.CA_BANK_DRIVER_OK k

/-- A field of CA_SEG as it reads, by its lowest bit (R165). -/
def State.segField (s : State) (lo k : Nat) : Nat :=
  let c := k / 4096
  let a := arrOf (k % 4096 / 2048)
  let x := s.seg c a (k % 2048)
  if lo = 8 then x.cause else if lo = 7 then b2n x.suspect else if lo = 6 then b2n x.linkOpen
  else if lo = 5 then b2n (s.gateEn c a (k % 2048)) else x.health.code

/-- The stage-state field of a rail: rail 0 HDR, 1 to 12 B, 13 and 14 X, 15 to 20 L, 21 to 23 S (R6). -/
def stageFld (r : Nat) : Fld × Nat :=
  if r = 0 then (F.HDR_STAT_STATE, 0) else if r ≤ 12 then (F.B_STAT_STATE, r - 1)
  else if r ≤ 14 then (F.X_STAT_STATE, r - 13) else if r ≤ 20 then (F.L_STAT_STATE, r - 15)
  else (F.S_STAT_STATE, r - 21)

/-- A rail's stage state (R175, R203, R212, R213, R215). -/
def State.stg (s : State) (r : Nat) : Nat := s.rd (stageFld r).1 (stageFld r).2

/-- The stage state codes that all stages share: 0 OFF, 1 SOFT_START, 2 REGULATING or ON, 3 RAMPING, 5 DRAINING. -/
def switching (st : Nat) : Bool := st == 1 || st == 2 || st == 3 || st == 5

/-- The rail whose stage a trip comparator protects; none for the well's (R266). -/
def tripRail (t : Nat) : Option Nat :=
  if t < 12 then some (t + 1) else if t < 24 then some (t - 11) else if t < 30 then some 0
  else if t < 32 then some (t - 17) else if t < 34 then some (t - 19) else none

/-- The state in which the stage stands, seen through a flush or a takeover (R175). -/
def State.stgThrough (s : State) (r : Nat) : Nat :=
  if s.stg r = 7 ∨ s.stg r = 8 then (if 1 ≤ r ∧ r ≤ 14 then (s.stages.at r).ret else s.stg r) else s.stg r

/-- A B channel's arrays follow its rail's loop (R155, R174, R185): it is not LOST, in no flush and in no self-test. -/
def State.conducts (s : State) (c : Nat) : Bool :=
  !s.flag F.CA_STAT_FLUSHING c && !s.flag F.CA_STAT_LOST c && !(s.stages.at (c + 1)).gone && !(s.stages.at (c + 1)).bist

/-- A channel's arrays switch (R149): a follower's in its rail's state, seen through a flush of its leader (R155, R161); not in a flush
of its own or a takeover. -/
def State.chanSwitches (s : State) (c : Nat) : Bool :=
  let l := if s.stg (c + 1) = 9 then c else c + 1
  s.stg l != 8 && switching (s.stgThrough l) && s.conducts c

/-- TC_STAT.ARMED (R252, R267, R277): the comparator's stage switches; a B channel's own flush masks it. -/
def State.tripArmed (s : State) (t : Nat) : Bool :=
  match tripRail t with
  | some r =>
    if t < 24 then s.chanSwitches (r - 1)
    else switching (s.stg r) && (r != 0 || bitOf (s.rd F.HDR_STAT_LIVE 0) ((t - 24) % 3))
  | none => s.rd F.WELL_STAT_CONV 0 == 1 || s.rd F.WELL_STAT_CONV 0 == 2

end Sys2Proof.Machine
end

