-- ==== Sys2Proof/Machine/Flags.lean ====
section
/-! DEFINITION. The status flags that follow from others: the power state as it reads, DEGRADED, the masks of pending and
severe blocks, FAULT_N and IRQ_N. They are computed, never stored, so they cannot disagree with what they follow. -/

namespace Sys2Proof.Machine

/-- PSTATE.STATE (R46); SHIP is never read, and takes the code of DORMANT here. -/
def PState.code : PState → Nat
  | .run => 0 | .hold => 1 | .dormant => 2 | .ship => 2 | .safe => 4

/-- A channel that shares a spare runs on the spare, or SOLO (R186, R212, R317). -/
def State.ctlReduced (s : State) : Bool :=
  (List.range 12).any (fun c => s.flag F.B_STAT_CTRL_SPARE c || s.flag F.B_STAT_SOLO c)
  || (List.range 2).any (fun x => s.flag F.X_STAT_CTRL_SPARE x || s.flag F.X_STAT_SOLO x)
  || s.flag F.WELL_STAT_CTRL_SPARE 0 || s.flag F.WELL_STAT_SOLO 0

/-- A redundant unit of R39 is below full count (R40). DEDUCED (log 5): the power source is not counted among them. -/
def State.reduced (s : State) : Bool :=
  s.rd F.HDR_STAT_LIVE 0 != 7 || s.rd F.UNIT_STAT_REF_OK 0 != 7 || s.rd F.UNIT_STAT_SEQ_LANE_OK 0 != 7
    || !s.flag F.UNIT_STAT_OSC_PRI_OK 0 || !s.flag F.UNIT_STAT_OSC_SEC_OK 0 || s.ctlReduced

/-- The smallest working set holds (R39): two sequencer lanes agree. Fewer references or oscillators are a brown-out reset (R34);
with no header phase left DEGRADED still reads 1 (R209), since the well carries VHDR (log 5). -/
def State.smallestSet (s : State) : Bool := !s.seq.lanesLost

/-- UNIT_STAT.DEGRADED (R40, R209). -/
def State.degraded (s : State) : Bool := s.reduced && s.smallestSet

/-- A unit is lost by `f`; where DEGRADED is set by it, CORE reports 0x05 (R40, R279), after any event of CORE that `f` raises with a
lower code (R286). -/
def State.losing (s : State) (f : State → State) : State :=
  let t := f s
  if t.degraded && !s.degraded then t.raise 0x00 0x05 else t

/-- FAULT_STAT.MASK: the blocks with PEND = 1 (R309). -/
def State.pendMask (s : State) : Nat := maskOf 23 s.pend

/-- SEVERE.MASK (R309). -/
def State.severeMask (s : State) : Nat := maskOf 23 s.severe

/-- A block has PEND = 1, or the device is in SAFE (R290, FAULT_STAT). -/
def State.faultStands (s : State) : Bool := s.safe || (List.range 23).any s.pend

/-- The FAULT_N output (R290, R522): low (some true), high (some false), high-impedance while the CTL island is unpowered or in chip
reset (none). -/
def State.faultN (s : State) : Option Bool := if s.on then some s.faultStands else none

/-- PFW_N is low (R264): it is asserted, a chip reset runs, or the CTL island is unpowered. -/
def State.pfwNLow (s : State) : Bool := !s.on || s.flag F.PFW_STAT_ASSERTED 0

/-- IRQ_N is low (R289): a block with IRQ_EN = 1 has PEND = 1 and IRQ_MODE routes to IRQ_N. It is high-impedance while the CTL island is
unpowered or in chip reset (R522). -/
def State.irqNLow (s : State) : Bool :=
  s.on && decide (1 ≤ s.cf F.FH_GCFG_IRQ_MODE 0) && (List.range 23).any (fun b => s.con F.FB_CFG_IRQ_EN b && s.pend b)

/-- Whole seconds left until `t` in µs, rounded up (R310). -/
def State.secsLeft (s : State) (t : Nat) : Nat := ceilDiv (t - s.now) 1000000

/-- Seconds left of a perturbation kind; 0 while it is not active (R305). -/
def State.kindLeft (s : State) (k : Nat) : Nat :=
  if s.pert.kindEnd.at k = 0 then 0 else s.secsLeft (s.pert.kindEnd.at k - 1)

/-- A status field as it reads, before any window and without the effects of a read. -/
def State.show (s : State) (f : Fld) (i : Nat) : Nat :=
  match f.reg with
  | 0x10 => if f.lo = 0 then s.power.st.code else s.rd f i
  | 0x18 => if f.lo = 31 then b2n s.degraded else s.rd f i
  | 0x3204 => if f.lo = 31 then b2n s.safe else if f.lo = 30 then b2n s.faultStands else s.pendMask
  | 0x3208 => s.severeMask
  | 0x3228 => if f.lo = 7 then b2n (s.frozen i) else s.rd f i
  | 0x3300 => if f.lo = 15 then b2n (s.severe i) else if f.lo = 14 then b2n (s.frozen i)
      else if f.lo = 13 then b2n (s.standing i) else if f.lo = 0 then b2n (s.pend i) else s.rd f i
  | 0x340C => if f.lo = 8 then s.inWin i else if f.lo = 0 then b2n (s.faults.srcs.at i).severe else s.rd f i
  | 0x2210 => if f.lo = 0 then s.ring.timed.length else s.rd f i
  | 0x680 => maskOf 32 (fun b => s.rd F.CTX_STAT_STATE (32 * i + b) == 2 || s.rd F.CTX_STAT_STATE (32 * i + b) == 3)
  | 0xC40 => if f.lo = 28 ∧ (s.stages.at (i + 1)).gone = true then 0xA else s.rd f i
  | 0x1230 => s.bankField f.lo i
  | 0x1238 => s.segField f.lo i
  | 0x1A40 => if f.lo = 6 then b2n (s.tripArmed i) else s.rd f i
  | 0x1C48 => (if f.lo = 16 then s.well.count / 2 else s.well.wall) / 10000000 % 0x10000
  | 0x300C =>
    let avg := s.rd F.LOG_WRITES_COUNT 0 / 12800
    (if f.lo = 16 then avg + Config.wearLead (s.rd F.LOG_WRITES_COUNT 0) % 11 else avg) % 0x10000
  | 0x3E0C => if s.pert.session.isSome then s.secsLeft s.pert.sessionEnd else 0
  | 0x3E28 => if f.lo = 16 then s.kindLeft 1 else s.kindLeft 2
  | 0x3E2C => if f.lo = 16 then s.kindLeft 4 else s.kindLeft 3
  | _ => s.rd f i

/-- A status register's word as it stands: banked and WO fields aside. -/
def State.word (s : State) (r : RegSpec) (i : Nat) : Nat :=
  r.flds.foldl (fun a f => a + (if f.typ = .wo ∨ f.banked = true then 0 else s.show f i) * 2 ^ f.lo) 0

/-- The register at a field's base address, reached without a window. -/
def specAt (reg : Nat) : Option RegSpec := (regsFor reg).find? (fun r => r.base = reg)

/-- A state machine is about to change its register once more within one command: the word that it holds between the two changes
is kept for the copies (R61). -/
def State.note (s : State) (f : Fld) (i : Nat) : State :=
  match specAt f.reg with
  | some r => { s with mids := s.mids ++ [((i, f.reg), s.word r i)] }
  | none => s

end Sys2Proof.Machine
end

