-- ==== Sys2Proof/Machine/Entry.lean ====
section
/-! DEFINITION. Power entry (R115 to R133): the two feed controllers, the OR FETs and MATE_N. -/

namespace Sys2Proof.Machine

open Sys2Proof

/-- A set-up field as the entry logic sees it: the Reset value until the first chip reset completes and while CTL is
unpowered, the active bank's otherwise (R116). -/
def State.entryCf (s : State) (f : Fld) (i : Nat) : Nat :=
  if s.power.off || !s.power.booted then f.resetAt i else s.cf f i

/-- A feed controller's state (R118): 0 OFF, 1 QUAL, 2 INRUSH, 3 ON, 4 RETRY_WAIT, 5 LATCHED, 6 OV_OFF, 7 DISABLED. -/
def State.feedSt (s : State) (i : Nat) : Nat := s.rd F.FEED_STAT_STATE i

/-- Change what a feed controller holds beyond its registers. -/
def State.setFeed (s : State) (i : Nat) (f : Feed → Feed) : State :=
  { s with feeds := s.feeds.put i (f (s.feeds.at i)) }

/-- The feed is valid (R125). -/
def State.feedValid (s : State) (i : Nat) : Bool :=
  s.feedSt i == 3 && (s.feeds.at i).inWin && !(s.feeds.at i).fetFailed

/-- A feed of the device is valid. -/
def State.anyFeed (s : State) : Bool := s.feedValid 0 || s.feedValid 1

/-- A feed is stable (R125). -/
def State.anyStable (s : State) : Bool := s.flag F.FEED_STAT_STABLE 0 || s.flag F.FEED_STAT_STABLE 1

/-- MATE_N lets a feed qualify (R118, R127). -/
def State.mateOk (s : State) : Bool := s.entryCf F.PE_CFG_MATE_REQ 0 == 0 || s.flag F.PE_STAT_MATE 0

/-- A feed supplies the entry logic: it lies above V_PRESENT, or its controller still is in INRUSH or ON, since a feed that goes for
less than tUV_FILT loses nothing (R116, R129; DEDUCED, log 30). -/
def State.feedSupplies (s : State) (i : Nat) : Bool := s.flag F.FEED_STAT_PRESENT i || s.feedSt i == 2 || s.feedSt i == 3

/-- The entry logic has its supply (R116). -/
def State.entryPowered (s : State) : Bool := s.feedSupplies 0 || s.feedSupplies 1

/-- OR_MODE holds this feed's OR FET off: the other, preferred feed is valid (R122). -/
def State.heldOff (s : State) (i : Nat) : Bool :=
  let m := s.entryCf F.PE_CFG_OR_MODE 0
  (m == 1 && i == 1 && s.feedValid 0) || (m == 2 && i == 0 && s.feedValid 1)

/-- A feed's OR FET conducts forward (R122): OR_MODE does not hold it off, and it is not off after a reverse drop. -/
def State.orFwd (s : State) (i : Nat) : Bool := s.feedSt i == 3 && !s.heldOff i && !(s.feeds.at i).blocked

/-- A reverse-blocked OR FET conducts again (DEDUCED, log 6: at the other feed's exit from ON or reverse block, or as its own feed
comes back inside its window). -/
def State.unblock (s : State) (i : Nat) : State := s.setFeed i (fun x => { x with blocked := false })

/-- FA_HSG drives a feed's hot-swap FET: only in INRUSH and ON (R118). The tOPEN of a long press finds no controller in either
(R330). -/
def State.hsgOn (s : State) (i : Nat) : Bool := s.feedSt i == 2 || s.feedSt i == 3

/-- FA_ORG drives a feed's OR FET: at ON, from full enhancement to the regulated drop (R119, R122); held off by OR_MODE or
after a reverse block. -/
def State.orgOn (s : State) (i : Nat) : Bool := s.hsgOn i && s.orFwd i

/-- A feed is about to lose its validity. -/
def State.feedLost (s : State) (i : Nat) : Bool := s.flag F.FEED_STAT_VALID i && !s.feedValid i

/-- It does so before it was stable (R125). -/
def State.feedBounce (s : State) (i : Nat) : Bool := s.feedLost i && !s.flag F.FEED_STAT_STABLE i

/-- The counter that a lost feed's event carries (R281): LOSSES, which under-voltage and over-voltage exits increment. -/
def State.lossCount (s : State) (i : Nat) : Nat :=
  let c := s.rd F.FEED_STAT_CAUSE i
  if c = 1 ∨ c = 2 then s.rd F.FEED_EVT_LOSSES i else 0

/-- What a feed's lost validity reports: ENTRY 0x01, and 0x07 where it was lost before it was stable; BOUNCES has been counted. -/
def State.feedEvents (s : State) (i : Nat) : List (Nat × EvData) :=
  let c := s.rd F.FEED_STAT_CAUSE i
  let val := if c = 1 ∨ c = 2 then s.crossed 0x04 0x01 i else 0
  (if s.feedLost i then [(0x01, { unit := i, cause := c, val, cnt := s.lossCount i })] else [])
  ++ (if s.feedBounce i then [(0x07, { unit := i, cnt := s.rd F.FEED_EVT_BOUNCES i })] else [])

/-- Write what a feed's validity and its OR FET show (R122, R125). A feed that goes may wake the device from DORMANT when it
returns (R241). -/
def State.feedShow (s : State) (i : Nat) : State :=
  let v := s.feedValid i
  let s := if v then s else s.wr F.FEED_STAT_STABLE i 0
  let s := if v then s else s.setPower (fun p => { p with ignoreFeed := clrBit p.ignoreFeed i })
  let s := if s.feedSt i = 3 then s else s.unblock i
  s.wr F.FEED_STAT_VALID i (b2n v)

/-- Bring the entry block's status in line with its controllers (R126, R133); a feed that a reset takes counts no bounce. The events of the command, `own` and those that
follow from a lost feed and from NO_FEED as it is set, enter in ascending code (R286). -/
def State.entryShow (s : State) (own : List (Nat × EvData) := []) : State :=
  let s := if s.on && s.feedBounce 0 then s.bump F.FEED_EVT_BOUNCES 0 else s
  let s := if s.on && s.feedBounce 1 then s.bump F.FEED_EVT_BOUNCES 1 else s
  let evs := own ++ s.feedEvents 0 ++ s.feedEvents 1
  let s := (s.feedShow 0).feedShow 1
  let s := s.wr F.FEED_STAT_OR_FWD 0 (b2n (s.orFwd 0)) |>.wr F.FEED_STAT_OR_FWD 1 (b2n (s.orFwd 1))
  let s := s.wr F.PE_STAT_CARRY 0 (b2n (s.orFwd 0) + 2 * b2n (s.orFwd 1))
    |>.wr F.PE_STAT_VALID_A 0 (b2n (s.feedValid 0)) |>.wr F.PE_STAT_VALID_B 0 (b2n (s.feedValid 1))
  let newly := !s.anyFeed && !s.flag F.PE_STAT_NO_FEED 0
  let s := s.wr F.PE_STAT_NO_FEED 0 (b2n (!s.anyFeed))
  s.raiseAll 0x04 (if newly then evs ++ [(0x06, { cause := 0 })] else evs)

/-- Let a waiting feed start its inrush once the other has left INRUSH (R119). -/
def State.startWaiting (s : State) (i : Nat) : State :=
  if (s.feeds.at i).waiting && s.feedSt i == 1 && s.feedSt (1 - i) != 2 then
    (s.setFeed i (fun x => { x with waiting := false })).wr F.FEED_STAT_STATE i 2
  else s

/-- Move a feed controller to a state. CAUSE takes the cause of an exit from INRUSH or ON and of LATCHED; leaving LATCHED
clears RETRIES; entering LATCHED reports ENTRY 0x04 beside the events `own` of what moves it (R118, R131, R133). -/
def State.feedGo (s : State) (i st cause : Nat) (own : List (Nat × EvData) := []) : State :=
  let old := s.feedSt i
  let s := s.note F.FEED_STAT_STATE i
  let s := if old = 2 ∨ old = 3 ∨ st = 5 then (if st = 3 then s else s.wr F.FEED_STAT_CAUSE i cause) else s
  let s := if old = 5 ∧ st ≠ 5 then s.wr F.FEED_STAT_RETRIES i 0 else s
  let s := if st = 1 then s else s.setFeed i (fun x => { x with waiting := false })
  let s := if old = 3 ∧ st ≠ 3 then s.unblock (1 - i) else s
  let s := s.wr F.FEED_STAT_STATE i st
  (s.startWaiting (1 - i)).entryShow (if st = 5 ∧ old ≠ 5 then own ++ [(0x04, { unit := i, cause })] else own)

/-- A feed in OFF for which the condition of QUAL holds goes to QUAL; one in QUAL for which it does not goes to OFF (R118). The
tOPEN of a long press holds it in OFF (R330). -/
def State.feedTry (s : State) (i : Nat) : State :=
  let ok := (s.feeds.at i).inWin && s.mateOk && !s.power.longOpen
  if s.feedSt i = 0 ∧ ok = true then s.feedGo i 1 0 else if s.feedSt i = 1 ∧ ok = false then s.feedGo i 0 0 else s

/-- A failed inrush or a breaker trip: RETRY_WAIT while retries are left, LATCHED otherwise (R118). -/
def State.feedFail (s : State) (i cause : Nat) (own : List (Nat × EvData) := []) : State :=
  s.feedGo i (if s.rd F.FEED_STAT_RETRIES i < s.entryCf F.PE_CFG_RETRY_MAX 0 then 4 else 5) cause own

/-- A breaker trip (R120): counted and reported, in INRUSH and ON. -/
def State.breakerTrip (s : State) (i cause : Nat) (mv : Int) : State :=
  if s.feedSt i = 2 ∨ s.feedSt i = 3 then
    let s := s.bump F.FEED_EVT_TRIPS i
    s.feedFail i cause [(0x02, { unit := i, cause, val := mv, cnt := s.rd F.FEED_EVT_TRIPS i })]
  else s

/-- FEED_IN_WINDOW: the feed comes inside its window, or leaves it before it is past QUAL (R118, R121). -/
def feedInWindow (f : FeedId) (inside : Bool) (s : State) : State :=
  let i := f.idx
  if inside then
    (((s.setFeed i (fun x => { x with inWin := true })).unblock i).entryShow).feedTry i
  else if s.feedSt i = 2 ∨ s.feedSt i = 3 then s
  else
    ((s.setFeed i (fun x => { x with inWin := false })).entryShow).feedTry i

/-- The feed that starts first where both qualify in one cycle (R119). -/
def State.preferred (s : State) : Nat := if s.entryCf F.PE_CFG_OR_MODE 0 = 2 then 1 else 0

/-- A qualified feed waits until the other leaves INRUSH (R119). -/
def State.feedWait (s : State) (i : Nat) : State := s.setFeed i (fun x => { x with waiting := true })

/-- A qualified feed starts, or waits while the other one is in INRUSH (R119). -/
def State.feedStart (s : State) (i : Nat) : State :=
  if s.feedSt i ≠ 1 then s else if s.feedSt (1 - i) = 2 then s.feedWait i else s.feedGo i 2 0

/-- FEED_QUALIFIED: tFEED_QUAL has passed in QUAL; one feed at a time is in INRUSH. Of two that qualify in one cycle the preferred one
starts (R119). -/
def feedQualified (q : Qualified) (s : State) : State :=
  match q with
  | .one f => s.feedStart f.idx
  | .both => if s.feedSt 0 = 1 ∧ s.feedSt 1 = 1 then (s.feedWait (1 - s.preferred)).feedGo s.preferred 2 0 else (s.feedStart 0).feedStart 1

/-- FEED_INRUSH_DONE (R118, R119). -/
def feedInrushDone (f : FeedId) (s : State) : State :=
  if s.feedSt f.idx = 2 then s.feedGo f.idx 3 0 else s

/-- FEED_INRUSH_TIMEOUT (R118): cause 0x05. -/
def feedInrushTimeout (f : FeedId) (s : State) : State :=
  if s.feedSt f.idx = 2 then s.feedFail f.idx 0x05 else s

/-- BREAKER_SLOW_TRIP (R120): cause 0x03. -/
def breakerSlowTrip (f : FeedId) (mv : Int) (s : State) : State := s.breakerTrip f.idx 0x03 mv

/-- BREAKER_FAST_TRIP (R120): cause 0x04. -/
def breakerFastTrip (f : FeedId) (mv : Int) (s : State) : State := s.breakerTrip f.idx 0x04 mv

/-- FEED_RETRY_END (R118): back to QUAL, and on to OFF where the condition for QUAL does not hold. -/
def feedRetryEnd (f : FeedId) (s : State) : State :=
  let i := f.idx
  if s.feedSt i = 4 then ((s.bump F.FEED_STAT_RETRIES i).feedGo i 1 0).feedTry i else s

/-- FEED_UNDER_VOLTAGE (R121): the feed leaves its window for good of this stay; from INRUSH and ON to OFF, cause 0x01. -/
def feedUnderVoltage (f : FeedId) (s : State) : State :=
  let i := f.idx
  let st := s.feedSt i
  let s := s.setFeed i (fun x => { x with inWin := false })
  let s := if st = 2 ∨ st = 3 then s.bump F.FEED_EVT_LOSSES i else s
  if st = 1 ∨ st = 2 ∨ st = 3 then s.feedGo i 0 0x01 else s.entryShow

/-- FEED_OVER_VOLTAGE (R118, R121): from any state but DISABLED to OV_OFF, cause 0x02. -/
def feedOverVoltage (f : FeedId) (mv : Int) (s : State) : State :=
  let i := f.idx
  let st := s.feedSt i
  let s := s.setFeed i (fun x => { x with inWin := false })
  if st = 7 then s.entryShow
  else
    let counted := decide (st = 2) || decide (st = 3)
    let s := if counted then s.bump F.FEED_EVT_LOSSES i else s
    s.feedGo i 6 0x02
      [(0x03, { unit := i, cause := 0x02, val := mv, cnt := if counted then s.rd F.FEED_EVT_LOSSES i else 0 })]

/-- FEED_OV_CLEARED (R118, R121): below V_OV − V_OV_HYS the feed is inside its window again, since the window is wider than the
hysteresis (R130). -/
def feedOvCleared (f : FeedId) (s : State) : State :=
  let i := f.idx
  if s.feedSt i = 6 then ((s.setFeed i (fun x => { x with inWin := true })).feedGo i 0 0).feedTry i
  else if s.feedSt i = 7 then s.setFeed i (fun x => { x with inWin := true })
  else s

/-- HOTSWAP_FET_FAULT (R124): cause 0x08; the feed is not valid from then on. -/
def hotswapFetFault (f : FeedId) (s : State) : State :=
  let i := f.idx
  if s.feedSt i = 0 ∨ s.feedSt i = 1 then
    let s := s.setFeed i (fun x => { x with fetFailed := true })
    s.feedGo i 5 0x08 [(0x05, { unit := i, cause := 0x08, val := s.crossed 0x04 0x05 i })]
  else s

/-- FEED_REVERSE_CURRENT (R123): cause 0x09. -/
def feedReverseCurrent (f : FeedId) (s : State) : State :=
  if s.feedSt f.idx = 3 then s.feedGo f.idx 5 0x09 else s

/-- OR_REVERSE_BLOCK (R122): the OR FET turns off, counted. Its drop is negative because the other feed is the higher one, so that
one's FET is not blocked (DEDUCED, log 6). -/
def orReverseBlock (f : FeedId) (s : State) : State :=
  let i := f.idx
  if s.feedSt i = 3 then
    let s := (s.setFeed i (fun x => { x with blocked := true })).unblock (1 - i)
    (s.bump F.FEED_EVT_REVERSE i).entryShow
  else s

/-- FEED_STABLE (R125): valid without a break for tFEED_STABLE; RETRIES clears (R118). -/
def feedStable (f : FeedId) (s : State) : State :=
  if s.feedValid f.idx then (s.wr F.FEED_STAT_STABLE f.idx 1).wr F.FEED_STAT_RETRIES f.idx 0 else s

/-- The entry logic is without supply (R116): its controllers and MATE_N's debounce start anew at its power-up
(R127), and it takes the Reset values until a chip reset completes. A FET that has failed stays failed (R124; DEDUCED, log 30). -/
def State.entryUnpowered (s : State) : State :=
  let off (s : State) (i : Nat) : State :=
    let s := s.setFeed i (fun x => { fetFailed := x.fetFailed })
    (if s.feedSt i = 0 then s else s.feedGo i 0 0x01).wr F.FEED_STAT_RETRIES i 0
  let s := s.wr F.PE_STAT_MATE 0 0 |>.setPower (fun p => { p with booted := false })
  (off (off s 0) 1).entryShow

/-- The entry logic follows its supply over a command that took `s0` to `s`: it goes with the last feed, once no controller is in
INRUSH or ON (R116, R129). -/
def entryFollow (s0 s : State) : State := if s0.entryPowered && !s.entryPowered then s.entryUnpowered else s

/-- FEED_ABSENT (R116, R118, R129): below V_PRESENT; LATCHED clears. A feed in INRUSH or ON stays until its under-voltage has lasted
tUV_FILT. -/
def feedAbsent (f : FeedId) (s : State) : State :=
  let i := f.idx
  let s := s.wr F.FEED_STAT_PRESENT i 0
  if s.feedSt i = 5 then (s.setFeed i (fun x => { x with inWin := false })).feedGo i 0 0 else s

/-- FEED_PRESENT (R133). -/
def feedPresent (f : FeedId) (s : State) : State := s.wr F.FEED_STAT_PRESENT f.idx 1

/-- PE_CTL CLR_A and CLR_B: LATCHED to OFF; QUAL waits for the window (R118, R129, R133). -/
def State.peClear (s : State) (i : Nat) : State := if s.feedSt i = 5 then (s.feedGo i 0 0).feedTry i else s

/-- MATE_DEBOUNCED (R127): MATE_N has been low for tMATE_DEB; feeds inside their windows start to qualify (R118). -/
def mateDebounced (s : State) : State :=
  if s.flag F.PE_STAT_MATE_RAW 0 then ((s.wr F.PE_STAT_MATE 0 1).feedTry 0).feedTry 1 else s

/-- A feed controller at a MATE_N break (R128). -/
def State.feedUnmate (s : State) (i : Nat) : State :=
  let st := s.feedSt i
  if st = 1 ∨ st = 2 ∨ st = 3 then s.feedGo i 0 0x06 else s

/-- MATE_N has been high for tMATE_FILT: with MATE_REQ = 1 both feeds go off, cause 0x06 (R128). -/
def State.mateBreak (s : State) : State :=
  if s.flag F.PE_STAT_MATE_RAW 0 then s
  else
    let s := s.wr F.PE_STAT_MATE 0 0
    if s.entryCf F.PE_CFG_MATE_REQ 0 = 1 then
      let s := s.setFeed 0 (fun x => { x with waiting := false }) |>.setFeed 1 (fun x => { x with waiting := false })
      (s.feedUnmate 0).feedUnmate 1
    else s

/-- MATE_N_LEVEL_CHANGE (R127, R133): MATE_RAW follows the pin; the debounce or the break filter starts. -/
def mateNLevelChange (low : Bool) (s : State) : State := s.wr F.PE_STAT_MATE_RAW 0 (b2n low)

/-- FEED_CB.EN and MATE_REQ take effect, at a swap, a chip reset, or as CTL loses its power (R116, R118, R129). A MATE_REQ that
becomes 1 while MATE_N is high acts on OFF and QUAL alone: only a break turns a feed off that is in INRUSH or ON, and MATE_N has
not broken (DESIGN CHOICE, log 30). -/
def State.entryApply (s : State) : State :=
  let one (s : State) (i : Nat) : State :=
    if s.entryCf F.FEED_CB_EN i = 0 then (if s.feedSt i = 7 then s else s.feedGo i 7 0x07)
    else (if s.feedSt i = 7 then s.feedGo i 0 0 else s).feedTry i
  (one (one s 0) 1).entryShow

end Sys2Proof.Machine
end

