-- ==== Sys2Proof/Machine/Gates.lean ====
section
/-! DEFINITION. The OR gates of the twinned rails (R359 to R363) and the twin record (R379). -/

namespace Sys2Proof.Machine

/-- A slot is used: EN = 1 and a rail named (R360). -/
def usedSlot (rd : Fld → Nat → Nat) (k : Nat) : Bool := rd F.TW_CFG_EN 0 == 1 && rd F.TW_SLOT_RAIL k != 0xFF

/-- The used slots. -/
def State.usedSlots (s : State) : List Nat := (List.range 8).filter (usedSlot s.cf)

/-- The closed gates. -/
def State.closed (s : State) : Nat := s.rd F.TW_STAT_CLOSED 0

/-- TW_STAT.STATE (R368): 0 OFF, 1 SOLE, 2 LINKING, 3 CHECK, 4 JOINING, 5 LIVE, 6 UNLINKED, 7 LEAVING, 8 LEFT, 9 CONFLICT. -/
def State.twSt (s : State) : Nat := s.rd F.TW_STAT_STATE 0

/-- Change what the twin block holds beyond its registers. -/
def State.setTwin (s : State) (f : Twin → Twin) : State := { s with twin := f s.twin }

/-- Write what TW_STAT shows of droop and of LEFT: every closed slot in LINKING, CHECK, UNLINKED and CONFLICT (R371); in JOINING, LIVE and
LEAVING those that disagree after a coordinated commit failed on one device (R377). -/
def State.twShow (s : State) : State :=
  let st := s.twSt
  let droop := if st = 2 ∨ st = 3 ∨ st = 6 ∨ st = 9 then s.closed
    else if st = 4 ∨ st = 5 ∨ st = 7 then mAnd s.closed s.twin.apart else 0
  (s.wr F.TW_STAT_DROOP 0 droop).wr F.TW_STAT_SAFE_TO_PULL 0 (b2n (st == 8))

/-- Form a twin record (R379). -/
def State.twRec (s : State) (prev cause : Nat) : State :=
  let d := s.twin.cntDiff
  let cnt : Int := if d < -2147483648 then -2147483648 else if 2147483647 < d then 2147483647 else d
  let s := s.emit 0x0D 0x09 (bytes 1 s.twSt ++ bytes 1 prev ++ bytes 1 cause ++ bytes 1 s.closed
    ++ bytes 1 (s.rd F.TW_STAT_DROOP 0) ++ bytes 1 (s.rd F.TW_CHECK_DISAGREE 0) ++ bytes 1 (s.rd F.TW_PARTNER_PSTATE 0)
    ++ bytes 1 (s.rd F.TW_PARTNER_SOC 0) ++ bytes 2 (min 0xFFFF s.twin.crcSince) ++ bytes 2 (s.rd F.TW_CHECK_ANG_DIFF 0)
    ++ bytes 4 (toField 32 cnt))
  s.setTwin (fun t => { t with crcSince := 0 })

/-- Set a gate; the monitor of its rail changes its input and is blanked (R361). -/
def State.setGate (s : State) (k : Nat) (on : Bool) (cause : Nat) : State :=
  if bitOf s.closed k = on then s
  else
    let r := s.cf F.TW_SLOT_RAIL k
    let s := s.wr F.TW_STAT_CLOSED 0 (if on then setBit s.closed k else clrBit s.closed k)
    let s := if r ≤ 20 then s.wr F.WM_MSTAT_BLANK r 1 else s
    (s.twShow).twRec s.twSt cause

/-- Open the gate of a rail's slot, where the rail is twinned (R363). -/
def State.openRailGate (s : State) (r : Nat) : State :=
  match s.usedSlots.find? (fun k => s.cf F.TW_SLOT_RAIL k == r) with
  | some k => s.setGate k false 0x0D
  | none => s

end Sys2Proof.Machine
end

