-- ==== Sys2Proof/Machine/Levels.lean ====
section
/-! DEFINITION. The present setpoints of the rails (R178), and the levels of the window monitors that follow them: reference voltage,
DAC codes, blanking (R253 to R256, R271). -/

namespace Sys2Proof.Machine

open Sys2Proof

-- Setpoints

/-- The setpoint field of a rail and what one code is in mV; a load switch passes VHDR through (R215, R256). -/
def vsetFld (r : Nat) : Fld × Nat × Nat :=
  if r = 0 ∨ 21 ≤ r then (F.HDR_VSET_VSET, 0, 10) else if r ≤ 12 then (F.B_VSET_VSET, r - 1, 5)
  else if r ≤ 14 then (F.X_VSET_VSET, r - 13, 10) else (F.L_CFG_VSET, r - 15, 5)

/-- The setpoint code of the active bank. -/
def State.bankSet (s : State) (r : Nat) : Nat := s.cf (vsetFld r).1 (vsetFld r).2.1

/-- The present setpoint's code (R178): the one that a RAIL_SET set, otherwise the active bank's. -/
def State.setCode (s : State) (r : Nat) : Nat := (s.stages.at r).setpt.getD (s.bankSet r)

-- Levels

/-- `num / den` rounded to the nearest; a tie goes up or down (R253). -/
def roundTie (up : Bool) (num den : Nat) : Nat :=
  if up then (2 * num + den) / (2 * den) else (2 * num + den - 1) / (2 * den)

/-- The divider ratio of a monitor's input (R255). -/
def kDiv (m : Nat) : Nat :=
  if m = 24 then 100 else if 25 ≤ m then 1 else if m = 0 ∨ m = 13 ∨ m = 14 ∨ 21 ≤ m then 30 else 6

/-- Hysteresis at the comparator input in mV (R254). -/
def hystMv (code : Nat) : Nat := match code with | 0 => 0 | 1 => 5 | 2 => 10 | 3 => 20 | _ => 40

/-- A sensed level in µV as a DAC code behind a divider `k`, at `res` (bits − 6): the level at the comparator input over
one step of 1.2 V / 2^bits, rounded (R253, R255). -/
def dacCode (up : Bool) (uv k res : Nat) : Nat := roundTie up (uv * 2 ^ (res + 6)) (1200000 * k)

/-- The reference voltage in mV of a rail monitor's lower and upper levels (R256). -/
def State.refw (s : State) (r : Nat) : Nat × Nat :=
  let u := (vsetFld r).2.2
  let st := s.stgThrough r
  let now := s.setCode r * u
  let old := ((s.stages.at r).oldSet.map (· * u)).getD now
  if r = 0 ∨ 21 ≤ r ∨ st = 1 then (s.bankSet r * u, s.bankSet r * u)
  else if st = 2 ∨ st = 3 then (min old now, max old now)
  else if st = 5 then (old, old)
  else (now, now)

/-- The field that holds the level of comparator `k`. -/
def levelFld (k : Nat) : Fld :=
  match k with
  | 0 => F.WM_LVL_LO_RST_LO | 1 => F.WM_LVL_LO_WARN_LO | 2 => F.WM_LVL_HI_WARN_HI | _ => F.WM_LVL_HI_RST_HI

/-- The level of comparator `k` of monitor `m` in µV at the sensed quantity; none where it is disabled (R256, R262). The
banks are read through `rd`. -/
def levelUv (rd : Fld → Nat → Nat) (ref : Nat × Nat) (m k : Nat) : Option Nat :=
  let v := rd (levelFld k) m
  if m < 24 then
    if k < 2 then some (ref.1 * (1000 - v)) else some (ref.2 * (1000 + v))
  else if k < 2 ∧ v = 0 ∨ 2 ≤ k ∧ v = 12000 then none
  else some (if m = 24 then v * 10000 else v * 100)

/-- The DAC code of comparator `k` of monitor `m`; ties round toward the inside of the window (R253). -/
def levelCode (rd : Fld → Nat → Nat) (ref : Nat × Nat) (m k : Nat) : Option Nat :=
  (levelUv rd ref m k).map (fun uv => dacCode (decide (k < 2)) uv (kDiv m) (rd F.WM_CFG_RES m))

/-- The DAC codes of a monitor in the active bank. -/
def State.codes (s : State) (m : Nat) : List (Option Nat) :=
  let ref := if m < 24 then s.refw m else (0, 0)
  (List.range 4).map (levelCode (fun f i => s.cf f i) ref m)

/-- A change of V_REFW or of the bank has moved a monitor's DAC codes: its outputs are held (R271). -/
def State.relevel (s0 s : State) (m : Nat) : State :=
  if s.codes m ≠ s0.codes m then s.wr F.WM_MSTAT_BLANK m 1 else s

/-- The outputs of every monitor whose codes have moved are held. -/
def State.relevelAll (s0 s : State) : State := (List.range 32).foldl (fun s m => State.relevel s0 s m) s

end Sys2Proof.Machine
end

