-- ==== Sys2Proof/Machine/Rails.lean ====
section
/-! DEFINITION. What the rails share: their stages and set-up registers by rail index (R6), the present setpoint (R178),
the running current limits (R157, R202), the request lines of PFW_N (R264), and the saves owed to the logbook (R499). -/

namespace Sys2Proof.Machine

open Sys2Proof

-- Logbook saves

/-- Owe a save of a chunk; a save that is already owed stays one, and needs no token once either of them needs none
(R499, R502, R507). -/
def State.owe (s : State) (chunk : Nat) (token : Bool) : State :=
  let old := s.logb.pend
  let pend := if old.any (fun c => c.1 = chunk)
    then old.map (fun c => if c.1 = chunk then (chunk, c.2 && token) else c)
    else old ++ [(chunk, token)]
  { s with logb := { s.logb with pend } }

/-- The chunk of CTRL: controller health and PT_STAT.UNLOCKS (R499). -/
def ctrlChunk : Nat := 112

-- PFW_N

/-- The source mask of PFW_N (R264): PFW_STAT bits [3:0]. -/
def State.pfwMask (s : State) : Nat :=
  s.rd F.PFW_STAT_SEQ 0 + 2 * s.rd F.PFW_STAT_SUPPLY 0 + 4 * s.rd F.PFW_STAT_HANDOVER 0 + 8 * s.rd F.PFW_STAT_RESET 0

/-- Raise or clear one request of PFW_N. The first request asserts it: counted, and WMON event 0x03 with the source mask
(R264, R265). PFW_N is released by PFW_RELEASE alone. -/
def State.pfw (s : State) (f : Fld) (req : Bool) : State :=
  let s := s.wr f 0 (b2n req)
  if req && !s.flag F.PFW_STAT_ASSERTED 0 then
    let s := (s.wr F.PFW_STAT_ASSERTED 0 1).bump F.PFW_STAT_ASSERTS 0
    s.raise 0x09 0x03 { cause := s.pfwMask, cnt := s.rd F.PFW_STAT_ASSERTS 0 }
  else s

/-- PFW_RELEASE (R264): no request is left and tPFW_MIN is over. -/
def pfwRelease (s : State) : State :=
  if s.pfwMask = 0 then s.wr F.PFW_STAT_ASSERTED 0 0 else s

-- Stages

/-- The IN_LIMIT field of a rail's stage. -/
def limitFld (r : Nat) : Fld × Nat :=
  if r = 0 then (F.HDR_STAT_IN_LIMIT, 0) else if r ≤ 12 then (F.B_STAT_IN_LIMIT, r - 1)
  else if r ≤ 14 then (F.X_STAT_IN_LIMIT, r - 13) else if r ≤ 20 then (F.L_STAT_IN_LIMIT, r - 15)
  else (F.S_STAT_IN_LIMIT, r - 21)

/-- A B channel in this state is disabled: OFF, HICCUP_WAIT or OT_OFF (R144). -/
def arraysOff (st : Nat) : Bool := st == 0 || st == 4 || st == 6

/-- Abandon the probes of a channel: each segment returns to the state it came from, and is the next one probed unless CA_CTL.PROBE
has named another (R148). -/
def State.abandonProbes (s : State) (c : Nat) : State :=
  let one (s : State) (a : Arr) : State :=
    let p := s.cist.probing.at (arrKey c a)
    if p = 0 then s
    else
      let next := if s.cist.probeNext.at (arrKey c a) = 0 then s.cist.probeNext.put (arrKey c a) p else s.cist.probeNext
      let s := s.setSeg c a (p - 1) (fun x => if x.health = .probing
        then { x with health := if x.wasResting then .resting else .good, wasResting := false } else x)
      { s with cist := { s.cist with probing := s.cist.probing.put (arrKey c a) 0, probeNext := next } }
  (one (one s .hs) .ls).wr F.CA_STAT_PROBING c 0

/-- Change what a rail's stage holds beyond its registers. -/
def State.setSt (s : State) (r : Nat) (f : Stage → Stage) : State :=
  { s with stages := s.stages.put r (f (s.stages.at r)) }

/-- The setpoint that is kept beside the present one when a rail's stage moves to a state (R256): in DRAINING the one at its start, at
a setpoint change the one that was left, through a flush or a takeover that of the state before, else none. -/
def State.keptSet (s : State) (r v : Nat) : Option Nat :=
  if v = 5 ∧ s.stgThrough r ≠ 5 then some (s.setCode r)
  else if v = 2 ∨ v = 3 ∨ v = 5 ∨ v = 7 ∨ v = 8 then (s.stages.at r).oldSet
  else none

/-- Move a rail's stage to a state; a stage that does not switch is in no current limit. One that turns its outputs off for a fault of its
own, in OT_OFF or LOST, opens the rail's twin gate (R363). The levels of its monitor follow (R256,
R271). -/
def State.setStg (s0 : State) (r v : Nat) : State :=
  let s := if v = 6 ∨ v = 0xA then s0.openRailGate r else s0
  let s := s.setSt r (fun x => { x with oldSet := s0.keptSet r v })
  let s := if 1 ≤ r ∧ r ≤ 12 ∧ arraysOff v = true ∧ arraysOff (s.stg r) = false then s.abandonProbes (r - 1) else s
  let s := s.note (stageFld r).1 (stageFld r).2
  let s := if switching v then s else s.wr (limitFld r).1 (limitFld r).2 0
  let s := if r = 0 ∧ switching v = false then { s.wr F.HDR_STAT_OVERLOAD 0 0 with overload := 0 } else s
  State.relevel s0 (s.wr (stageFld r).1 (stageFld r).2 v) r

/-- Change what a rail's stage holds of its setpoints; the levels follow. -/
def State.setRef (s : State) (r : Nat) (f : Stage → Stage) : State := State.relevel s (s.setSt r f) r

/-- The stage is LOST (R156, R186, R209). -/
def State.stgLost (s : State) (r : Nat) : Bool :=
  if r = 0 then s.stg 0 == 6 else decide (1 ≤ r) && decide (r ≤ 14) && s.stg r == 0xA

/-- Let the stage's outputs off, with active discharge or floating (R181, R213, R215, R293); the OR gate of a twinned rail
opens with them (R363). LOST stays LOST; the pump's INPUT_LOW too, but not in SAFE (R203). The AON island keeps the time of the stop (R242). -/
def State.stageOff (s : State) (r : Nat) (discharge : Bool) : State :=
  let s := if switching (s.stg r) then s.setPower (fun p => { p with lastStop := some s.tb.now }) else s
  let s := (s.openRailGate r).setRef r (fun x => { x with discharge, setpt := none, oldSet := none, ovSink := false })
  if s.stgLost r || (r == 0 && s.stg 0 == 4 && !s.safe) then s
  else if 1 ≤ r ∧ r ≤ 12 ∧ s.stg r = 9 then s else s.setStg r 0

-- Setpoints

/-- The highest and lowest setpoint codes of a rail (R178, R197, R219, R222). -/
def State.vlim (s : State) (r : Nat) : Nat × Nat :=
  if r = 0 then (1000, 1320)
  else if r ≤ 12 then (s.cf F.B_VLIM_VMIN (r - 1), s.cf F.B_VLIM_VMAX (r - 1))
  else if r ≤ 14 then (s.cf F.X_VLIM_VMIN (r - 13), s.cf F.X_VLIM_VMAX (r - 13))
  else (s.cf F.L_VLIM_VMIN (r - 15), s.cf F.L_VLIM_VMAX (r - 15))

/-- A rail's output in mV now, as the device senses it. -/
def State.volts (s : State) (r : Nat) : Nat := Config.railMilliVolts r s.now % 0x10000

-- The well

/-- The pack is present (R314). -/
def State.pack (s : State) : Bool := !s.flag F.WELL_STAT_NO_PACK 0

/-- The well converter can source into VHDR (R314, R315): it is ARMED or lending, the pack is present, and its floor command is not held
at 0. -/
def State.wellSources (s : State) : Bool :=
  (s.rd F.WELL_STAT_CONV 0 == 1 || s.rd F.WELL_STAT_CONV 0 == 2) && s.pack && !s.well.floorOff

/-- The well converter can discharge into VHDR: it sources, and the pack floor does not limit it (R206, R316). -/
def State.wellGives (s : State) : Bool := s.wellSources && !s.flag F.WELL_STAT_FLOOR 0

/-- WELL_STAT.HO between hand-over and hand-back (R322, R335): 3 HOLD; 4 'hand-back wait' is taken as a stable feed that waits
for tPRE_HOLD (DEDUCED, log 15). -/
def State.hoShow (s : State) : State :=
  if s.rd F.WELL_STAT_HO 0 = 3 ∨ s.rd F.WELL_STAT_HO 0 = 4 then
    s.wr F.WELL_STAT_HO 0 (if s.well.hoDone && s.well.pre && s.anyStable then 4 else 3)
  else s

-- Pairs

/-- B channel `c` belongs to a pair in the active bank (R7, R173). -/
def State.paired (s : State) (c : Nat) : Bool := s.con F.B_CFG_PAIR (c / 2 * 2)

/-- Rail `r` is a paired channel's follower (R228). -/
def State.follower (s : State) (r : Nat) : Bool := s.rd F.SQ_RSTAT_STEP r == 0xB

/-- The rail that stands for rail `r`: its leader for a follower. -/
def State.leadRail (s : State) (r : Nat) : Nat := if s.follower r then r - 1 else r

-- Running current limits

/-- The committed limit of a B channel in mA: half the leader's in a pair (R157). -/
def State.committed (s : State) (c : Nat) : Nat :=
  if s.paired c then s.cf F.B_ILIM_ILIM (c / 2 * 2) / 2 else s.cf F.B_ILIM_ILIM c

/-- Header phases that are live. -/
def State.nLive (s : State) : Nat := ((List.range 3).filter (bitOf (s.rd F.HDR_STAT_LIVE 0))).length

/-- Bring every running limit in line with the active bank, I_EFF and the live phases (R157, R202). -/
def State.limits (s : State) : State :=
  let s := (List.range 12).foldl (fun s c =>
    s.wr F.B_STAT_ILIM_RUN c (min (s.committed c) (s.rd F.CA_STAT_I_EFF c))) s
  let s := (List.range 2).foldl (fun s x => s.wr F.X_STAT_ILIM_RUN x (s.cf F.X_ILIM_ILIM x)) s
  s.wr F.HDR_STAT_ILIM_RUN 0 (min (s.nLive * 1250) (s.cf F.HDR_ILIM_ILIM 0))

end Sys2Proof.Machine
end

