-- ==== Sys2Proof/Machine/Loop.lean ====
section
/-! DEFINITION. The loops of the pump, the B and the X channels (R168 to R173, R198 to R202, R208, R210 to R212): coefficients and their
derivation, limits, the command of a period, what the outputs do with it; and the references of all rails (R176, R178, R181, R203,
R204, R322). Voltages are in µV, currents in LSB_I, errors in LSB_E (log 41). -/

namespace Sys2Proof.Machine

open Sys2Proof

-- Units and set-up

/-- A B channel's rail. -/
def isB (r : Nat) : Bool := decide (1 ≤ r) && decide (r ≤ 12)

/-- LSB_E in µV and LSB_I in mA (R168, R200, R211). -/
def lsbE (r : Nat) : Nat := if isB r then 500 else 5000
def lsbI (r : Nat) : Nat := if isB r then 1 else 10

/-- The present setpoint in µV. -/
def State.setUv (s : State) (r : Nat) : Nat := s.setCode r * (vsetFld r).2.2 * 1000

/-- A follower takes its leader's fields (R173). -/
def State.leadChan (s : State) (c : Nat) : Nat := if s.paired c then c / 2 * 2 else c

/-- The other channel of a pair carries the rail beside channel `c` (R155, R174). -/
def State.partnerRuns (s : State) (c : Nat) : Bool := s.paired c && s.conducts (if c % 2 = 0 then c + 1 else c - 1)

/-- A rail's stage regulates: it switches, on a B rail by a channel that conducts; so through a flush of one channel of a pair, whose
partner keeps regulating (R155). -/
def State.regulating (s : State) (r : Nat) : Bool :=
  if isB r then s.stg r != 8 && switching (s.stgThrough r) && (s.conducts (r - 1) || s.partnerRuns (r - 1))
  else switching (s.stg r)

/-- The switching period in 156.25 ps (R171, R200, R211). -/
def State.chanPeriod (s : State) (r : Nat) : Nat :=
  if r = 0 then s.cf F.HDR_CFG_PERIOD 0 else if r ≤ 12 then s.cf F.B_CFG_PERIOD (s.leadChan (r - 1))
  else s.cf F.X_CFG_PERIOD (r - 13)

/-- PHASE of a B channel in 1/64 of its period: the follower's is the leader's plus 32, modulo 64 (R171, R173). -/
def State.chanPhase (s : State) (c : Nat) : Nat :=
  let l := s.leadChan c
  if c = l then s.cf F.B_CFG_PHASE c else (s.cf F.B_CFG_PHASE l + 32) % 64

/-- SLOPE in 0.05 A/µs and L_DECL in 20 nH of a B channel (R168, R173). -/
def State.chanSlope (s : State) (c : Nat) : Nat := s.cf F.B_LOOP_SLOPE (s.leadChan c)
def State.chanL (s : State) (c : Nat) : Nat := s.cf F.B_LOOP_L_DECL (s.leadChan c)

/-- Where a rail's period starts after its frame's start, in 156.25 ps (R171). -/
def State.phaseOfs (s : State) (r : Nat) : Nat := if isB r then s.chanPhase (r - 1) * s.chanPeriod r / 64 else 0

/-- The first period of a rail that starts after a time; frames of equal PERIOD start together (R171). -/
def State.periodAfter (s : State) (r t : Nat) : Nat :=
  let o := s.phaseOfs r
  let p := s.chanPeriod r
  if t < o then o else o + ((t - o) / p + 1) * p

-- Coefficients

/-- The integer square root of `n` below `r + 2^k`, bit by bit. -/
def rootFrom (n : Nat) : Nat → Nat → Nat
  | 0, r => r
  | k + 1, r => rootFrom n k (if (r + 2 ^ k) * (r + 2 ^ k) ≤ n then r + 2 ^ k else r)

/-- `a / b` rounded to the nearest. -/
def roundDiv (a : Int) (b : Nat) : Int := (2 * a + b) / (2 * b)

/-- 10^20, and π in it. -/
def unit20 : Nat := 100000000000000000000
def pi20 : Nat := 314159265358979323846

/-- The coefficient set that the device derives for a crossover of `fc` in 0.25 kHz, a period in 156.25 ps and a capacitance in µF,
with f_z = f_c / 5 and f_p = f_SW / 4, as "Choosing the coefficients" has it (R201, R211). With n = fc · period and d = 25,600,000,
f_c / f_SW is n / d. -/
def deriveCoefs (fc period c : Nat) : Coefs :=
  let n := fc * period
  let d := 25600000
  -- 1 / M and 2,048 · G
  let m := rootFrom ((d * d + 16 * n * n) * unit20 * unit20 / (26 * d * d)) 67 0
  let num : Nat := 4096 * 6400 * c * n * n * pi20 ^ 3 * m
  let den : Nat := (pi20 + 4 * unit20) * period * d * d * unit20 ^ 3
  -- α_z
  let zn : Nat := 5 * d * unit20
  let zd : Nat := pi20 * n
  -- q = (1 − α_p) / (1 + α_p) with α_p = 4 / π
  { b0 := roundDiv ((num : Int) * (zd + zn)) (den * zd)
    b1 := roundDiv (2 * (num : Int)) den
    b2 := roundDiv ((num : Int) * ((zd : Int) - zn)) (den * zd)
    a1 := roundDiv (4096 * 8 * (unit20 : Int)) (pi20 + 4 * unit20)
    a2 := roundDiv (4096 * ((pi20 : Int) - 4 * unit20)) (pi20 + 4 * unit20) }

/-- The derived sets of a bank: of the pump and of the X channels. -/
def derivedCoefs (rd : Fld → Nat → Nat) (r : Nat) : Coefs :=
  if r = 0 then deriveCoefs (rd F.HDR_CFG_FC 0) (rd F.HDR_CFG_PERIOD 0) (rd F.HDR_BOARD_C_HDR 0 * 10)
  else deriveCoefs (rd F.X_CFG_FC (r - 13)) (rd F.X_CFG_PERIOD (r - 13)) (rd F.X_BOARD_C_OUT (r - 13))

/-- Rails whose coefficients are derived. -/
def derivedRails : List Nat := [0, 13, 14]

/-- Put derived sets into force (R170, R201). -/
def State.setCoefs (s : State) (f : Nat → Coefs) : State :=
  derivedRails.foldl (fun s r => s.setSt r (fun x => { x with loop := { x.loop with coef := f r } })) s

/-- The coefficients of a rail's loop (R169, R201, R211). -/
def State.coefs (s : State) (r : Nat) : Coefs :=
  if isB r then
    let c := s.leadChan (r - 1)
    { b0 := ofField 24 (s.cf F.B_COEF0_COEF c), b1 := ofField 24 (s.cf F.B_COEF1_COEF c), b2 := ofField 24 (s.cf F.B_COEF2_COEF c)
      a1 := ofField 24 (s.cf F.B_COEF3_COEF c), a2 := ofField 24 (s.cf F.B_COEF4_COEF c) }
  else (s.stages.at r).loop.coef

-- Limits

/-- The running current limit of a stage (R157, R176, R202): of each channel of a pair for itself; in soft start the priming step's
where that is lower, half of it for each channel of a pair (DEDUCED, log 41). -/
def State.stageLimit (s : State) (r : Nat) : Nat :=
  let run := if r = 0 then s.rd F.HDR_STAT_ILIM_RUN 0 else if r ≤ 12 then s.rd F.B_STAT_ILIM_RUN (r - 1)
    else s.rd F.X_STAT_ILIM_RUN (r - 13)
  let p := (s.stages.at (s.leadRail r)).stepLim * 10 / lsbI r
  if s.stgThrough (s.leadRail r) = 1 then min run (if isB r && s.paired (r - 1) then p / 2 else p) else run

/-- VSYS in mV as the device measures it. -/
def State.vsysMv (s : State) : Nat := Config.measured (F.PE_VSYS_VOLT.key 0) s.now % 0x10000 * 10

/-- ΔI_L / 2 (R169). The pump's input is VSYS (DEDUCED, log 41). -/
def State.halfRipple (s : State) (r : Nat) : Int :=
  let v : Int := s.setCode (s.leadRail r) * (vsetFld r).2.2
  let vin : Int := if r = 0 then s.vsysMv else s.volts 0
  let l : Int := if r = 0 then s.cf F.HDR_BOARD_L_PH 0 else if r ≤ 12 then s.chanL (r - 1) else s.cf F.X_BOARD_L_DECL (r - 13)
  v * (vin - v) * s.chanPeriod r / ((if isB r then 256 else 12800) * vin * l)

/-- I_CMD_MAX (R169), of each channel of a pair from its own running limit (R157). -/
def State.cmdMax (s : State) (r : Nat) : Int := s.stageLimit r + s.halfRipple r

/-- I_NEG_LIM: I_NEG of a B channel, of a follower its leader's (DESIGN CHOICE, log 41: R173 does not name I_NEG among what a follower
takes), I_NEG_X of an X channel (R212, R221). No rule gives the pump's; it is 0 in a learning draw
(R345). -/
def State.negLimit (s : State) (r : Nat) : Nat :=
  if r = 0 then (if s.flag F.EST_STAT_DRAW 0 then 0 else Config.pumpSink)
  else if r ≤ 12 then s.cf F.B_ILIM_I_NEG (s.leadChan (r - 1)) else min (s.cf F.X_ILIM_ILIM (r - 13)) 300

-- One period

/-- The sum of R169, at full precision. -/
def loopSum (k : Coefs) (x : Loop) (e : Int) : Int := k.a1 * x.u1 + k.a2 * x.u2 + k.b0 * e + k.b1 * x.e1 + k.b2 * x.e2

/-- A sum rounded to the nearest LSB_I (R169); which way a tie goes, the spec leaves open. -/
def toLsb (x : Int) : Int := if x % 4096 = 2048 ∧ Config.tieUp x = false then x / 4096 else (x + 2048) / 4096

/-- Where a rail's feedback is taken (R168, R183, R361): 0 locally, 1 at the remote sense, 2 at TW_MOD behind an open twin gate. -/
def State.sensePoint (s : State) (r : Nat) : Nat :=
  if s.usedSlots.any (fun k => s.cf F.TW_SLOT_RAIL k == r && !bitOf s.closed k) then 2
  else if isB r && (s.con F.B_CFG_SNS_LOCAL (r - 1) || s.flag F.B_STAT_SNS_LOST (r - 1)) then 0 else 1

/-- The error e[k] of a rail at a time in 156.25 ps (R168). -/
def State.loopError (s : State) (r t : Nat) : Int :=
  (s.stages.at r).loop.ref / lsbE r - Config.feedback r (s.sensePoint r) t

/-- The present error, and the commands at the measured current: the loop state of R185, step 5. -/
def State.loopTaken (s : State) (r : Nat) : State :=
  let i := (Config.railMilliAmps r s.now).tdiv (lsbI r)
  let e := s.loopError r (s.now * 6400)
  s.setSt r (fun x => { x with loop := { x.loop with u1 := i, u2 := i, e1 := e, e2 := e } })

-- References

/-- V_PB_ZERO in mV (R196). -/
def pbZero : Nat := 50

/-- Where a reference starts at SOFT_START, and whether the output is discharged first or diode emulation runs (R176, R204, R212): at
the measured output up to the setpoint; an LDO's and a switch's rises from 0 V (DEDUCED, log 41). -/
def State.startAt (s : State) (r : Nat) (x : Loop) : Loop :=
  let v := s.volts r
  if 15 ≤ r then { x with ref := 0, diode := false, pre := false }
  else if r = 0 then { x with ref := v * 1000, diode := true, pre := false }
  else if isB r && !s.con F.B_CFG_PREBIAS (r - 1) && decide (v * 1000 ≤ s.setUv r) then
    { x with ref := 0, diode := false, pre := decide (pbZero ≤ v) }
  else { x with ref := min (v * 1000) (s.setUv r), diode := true, pre := false }

/-- A soft start takes its slew and its limit from the active bank; a priming step in progress keeps those it started with (R244). -/
def State.takeStep (s : State) (r : Nat) : State :=
  s.setSt r (fun x => { x with stepSr := s.cf F.SQ_PRIME_A_SR r, stepLim := s.cf F.SQ_PRIME_A_ILIM_P r })

/-- A stage enters SOFT_START: its reference starts, its loop has no history, its switching frame begins (R171, R176). -/
def State.startStage (s : State) (r : Nat) : State :=
  let t := (if s.rd F.SQ_RSTAT_STEP r = 2 then s else s.takeStep r).setStg r 1
  let fresh (x : Loop) : Loop := { ({} : Loop) with coef := x.coef, next := t.periodAfter r (t.now * 6400) }
  t.setSt r (fun x => { x with loop := t.startAt r (fresh x.loop) })

/-- A soft start from the present output, whatever PREBIAS is (R186). -/
def State.startFromOutput (s : State) (r : Nat) : State :=
  (s.startStage r).setSt r (fun x => { x with loop := { x.loop with
    ref := min (s.volts r * 1000 : Nat) (s.setUv r), diode := true, pre := false } })

/-- A drain goes on from the present output (R186), and regulation after a flush (R154). -/
def State.refFromOutput (s : State) (r : Nat) : State :=
  s.setSt r (fun x => { x with loop := { x.loop with ref := s.volts r * 1000 } })

/-- The reference stands at the rail's setpoint (R175, R374). -/
def State.refAtSet (s : State) (r : Nat) : State :=
  s.setSt r (fun x => { x with loop := { x.loop with ref := s.setUv r, pre := false } })

/-- The pump's reference is to rise linearly to HDR VSET in tHB_RAMP from now on (R322). -/
def State.handbackRamp (s : State) : State :=
  s.setSt 0 (fun x => { x with loop := { x.loop with rampFrom := x.loop.ref, rampAt := s.now } })

-- Outputs

/-- The number of live phases among those below `p`. -/
def liveBelow (m p : Nat) : Nat := ((List.range p).filter (bitOf m)).length

/-- Where phase `p` starts in the pump's period, in 156.25 ps: the live phases are spaced evenly (R200, R208). -/
def State.hdrPhaseOfs (s : State) (p : Nat) : Nat :=
  liveBelow (s.rd F.HDR_STAT_LIVE 0) p * s.chanPeriod 0 / s.nLive

/-- The part of a phase's share that a rejoined phase has reached, in µs of the 1 ms of tPH_JOIN (R208). -/
def State.joinPart (s : State) (p : Nat) : Nat :=
  let t := s.phJoin.at p
  if t = 0 then 1000 else min 1000 (s.now + 1 - t)

/-- The current command of phase `p` in 10 mA (R200, R202, R208): u / n_live, or less while it rejoins, when the others share the rest
equally; at most I_PH_PK; none below 0 in diode emulation (R204). Rounded toward zero (DESIGN CHOICE, log 41). -/
def State.phaseCommand (s : State) (p : Nat) : Int :=
  let m := s.rd F.HDR_STAT_LIVE 0
  let x := (s.stages.at 0).loop
  let u := if x.diode then max 0 x.u1 else x.u1
  let n : Int := s.nLive
  let live := (List.range 3).filter (bitOf m)
  let joining := live.filter (fun q => decide (s.joinPart q < 1000))
  let share (q : Nat) : Int := (u * s.joinPart q).tdiv (n * 1000)
  let rest := u - (joining.map share).foldl (· + ·) 0
  if !bitOf m p then 0
  else min (if joining.contains p then share p else rest.tdiv (n - joining.length)) (s.cf F.HDR_ILIM_I_PH 0)

/-- HPp_DIS is high: the phase disconnect conducts (R198). -/
def State.disOn (s : State) (p : Nat) : Bool := s.on && switching (s.stg 0) && bitOf (s.rd F.HDR_STAT_LIVE 0) p

/-- The command that a channel of rails 1 to 14 follows (R173, R176, R180): the leader's, clamped by the channel's own I_CMD_MAX, none
below 0 in diode emulation; −I_NEG_LIM while an over-voltage sinks. -/
def State.channelCommand (s : State) (r : Nat) : Int :=
  let x := s.stages.at (s.leadRail r)
  let u := min x.loop.u1 (s.cmdMax r)
  if x.ovSink then -(s.negLimit r : Int) else if x.loop.diode then max 0 u else u

/-- The threshold of a B channel's peak comparator in mA, `t` in 156.25 ps after its turn-on: the command less the slope ramp (R168). A
negative command runs the low side in valley mode. -/
def State.threshold (s : State) (c t : Nat) : Int := s.channelCommand (c + 1) - ((s.chanSlope c * t / 128 : Nat) : Int)

/-- A B channel's high-side interval in 156.25 ps, where the current reaches the threshold at `t` (R172): none below tON_SW_MIN (40
ns), at most the period less tOFF_SW_MIN (60 ns). -/
def State.highTime (s : State) (c t : Nat) : Nat :=
  if t < 256 then 0 else min t (s.chanPeriod (c + 1) - 384)

end Sys2Proof.Machine
end

