-- ==== Sys2Proof/Machine/Sequencer.lean ====
section
/-! DEFINITION. The sequencer (R223 to R248): dependencies, priming and drain steps, operations, start failures and running
faults. -/

namespace Sys2Proof.Machine

open Sys2Proof

-- Masks, steps and records

/-- A rail's step state (R228). -/
def State.stepOf (s : State) (r : Nat) : Nat := s.rd F.SQ_RSTAT_STEP r

/-- The rails whose step state satisfies `p`. -/
def State.stepMask (s : State) (p : Nat → Bool) : Nat := maskOf 24 (fun r => p (s.stepOf r))

/-- A step state counts as primed (R231): PRIMING, GOOD, DRAIN_WAIT, DRAINING, DISCHARGING. -/
def primedStep (st : Nat) : Bool := st == 2 || st == 3 || st == 7 || st == 8 || st == 9

/-- A drain step has not ended (R227). -/
def drainingStep (st : Nat) : Bool := st == 7 || st == 8 || st == 9

/-- The primed rails. -/
def State.primed (s : State) : Nat := s.stepMask primedStep

/-- The rails that are GOOD. -/
def State.goodMask (s : State) : Nat := s.stepMask (· == 3)

/-- Move a rail to a step state; SEQ_GOOD and SEQ_PRIMED follow. RUN_FAULT and START_FAILED clear on entering WAITING,
BACKFEED on becoming GOOD (R228). -/
def State.setStep (s : State) (r st : Nat) : State :=
  let s := (s.note F.SQ_RSTAT_STEP r).wr F.SQ_RSTAT_STEP r st
  let s := if st = 1 then
      ((s.wr F.SQ_RSTAT_RUN_FAULT r 0).wr F.SQ_RSTAT_START_FAILED r 0).setSeq (fun q => { q with retries := q.retries.put r 0 })
    else if st = 3 then s.wr F.SQ_RSTAT_BACKFEED r 0 else s
  (s.wr F.SEQ_GOOD_MASK 0 s.goodMask).wr F.SEQ_PRIMED_MASK 0 s.primed

/-- Time since the rail's step started, in 10 µs (R247). -/
def State.sinceStep (s : State) (r : Nat) : Nat :=
  let t := s.seq.stepAt.at r
  if t = 0 then 0 else min 0xFFFF ((s.now + 1 - t) / 10)

/-- Start the clock of a rail's step. -/
def State.stampStep (s : State) (r : Nat) : State :=
  { s with seq := { s.seq with stepAt := s.seq.stepAt.put r (s.now + 1) } }

/-- The operation in progress (R231). -/
def State.op (s : State) : Nat := s.rd F.SEQ_STAT_OP 0

/-- A sequencer step record and SEQ_LAST (R247). `rail` is 0xFF for events without a rail. -/
def State.seqRec (s : State) (rail ev cause op group cnt : Nat) : State :=
  let s := (s.wr F.SEQ_LAST_EVENT 0 ev).wr F.SEQ_LAST_CAUSE 0 cause |>.wr F.SEQ_LAST_RAIL 0 rail
  s.emit 0x08 0x04 (bytes 1 rail ++ bytes 1 ev ++ bytes 1 cause ++ bytes 1 op
    ++ bytes 2 (if rail < 24 then s.volts rail else 0) ++ bytes 2 (if rail < 24 then s.sinceStep rail else 0)
    ++ bytes 3 s.primed ++ bytes 1 group ++ bytes 2 cnt ++ bytes 2 0)

/-- A step record of a rail, under the operation in progress. -/
def State.railRec (s : State) (r ev cause : Nat) (cnt : Nat := 0) : State :=
  s.seqRec r ev cause s.op (s.cf F.SQ_CFG_GROUP r) cnt

/-- Add one to a per-rail counter, under the leader's index, and owe its save (R246). -/
def State.count (s : State) (f : Fld) (r : Nat) : State :=
  (s.bump f (s.leadRail r)).owe (108 + s.leadRail r / 8) true

-- Dependencies

/-- The rails that rail `r` depends on (R223): its DEP, an LDO's input rail, and HDR where it is fed from VHDR. -/
def State.deps (s : State) (r : Nat) : Nat :=
  let ldo := decide (15 ≤ r) && decide (r ≤ 20)
  let sel := s.cf F.L_CFG_IN_SEL (r - 15)
  let implied := if r = 0 then 0 else if ldo && decide (sel < 0xC) then 2 ^ (sel + 1) else 1
  mOr (s.cf F.SQ_DEP_DEP r) implied

/-- One round of adding the rails that depend on a rail of the mask. -/
def State.addDependants (s : State) (m : Nat) : Nat :=
  mOr m (maskOf 24 (fun i => decide (mAnd (s.deps i) m ≠ 0) && !s.follower i))

/-- Repeat a step of masks. -/
def iterMask (f : Nat → Nat) : Nat → Nat → Nat
  | 0, m => m
  | n + 1, m => iterMask f n (f m)

/-- A mask of rails with all their dependants (R223). -/
def State.withDependants (s : State) (m : Nat) : Nat := iterMask s.addDependants 24 m

/-- The members of a group (R224); followers belong to none. -/
def State.groupMask (s : State) (g : Nat) : Nat :=
  maskOf 24 (fun r => decide (s.cf F.SQ_CFG_GROUP r = g) && !s.follower r)

/-- Group `g` is an auto group (R224). -/
def State.isAuto (s : State) (g : Nat) : Bool := decide (g < 8) && bitOf (s.cf F.SEQ_CFG_AUTO_GROUPS 0) g

/-- The rails of the auto groups. -/
def State.autoMask (s : State) : Nat := maskOf 24 (fun r => s.isAuto (s.cf F.SQ_CFG_GROUP r) && !s.follower r)

/-- The standpipe rails, and the hold set (R225). -/
def State.standpipes (s : State) : Nat := maskOf 24 (s.con F.SQ_CFG_STANDPIPE)
def State.holdSet (s : State) : Nat := maskOf 24 (fun r => r == 0 || s.con F.SQ_CFG_HOLD r)

/-- Every rail but the standpipe rails. -/
def State.nonStandpipes (s : State) : Nat := 0xFFFFFF - s.standpipes

-- Ends of steps and of operations

/-- A priming operation, a drain is in progress. -/
def State.priming (s : State) : Bool := decide (s.seq.primeScope ≠ 0)
def State.draining (s : State) : Bool :=
  decide (mAnd s.seq.drainScope (s.stepMask drainingStep) ≠ 0) || decide (s.seq.joinAfterRamp ≠ 0)

/-- Any operation runs (R231). -/
def State.busyOp (s : State) : Bool := decide (s.op ≠ 0)

/-- The following state of a cutoff drain (R41, R323, R324): DORMANT with the valve closed, or SHIP with it open. The
control plane loses its power. A feed that is valid at entry is ignored where AUTO_RESTART = 0 (R241). -/
def State.powerDown (s : State) (p : PState) : State :=
  let s := (s.wr F.PSTATE_PREV_STATE 0 s.power.st.code).wr F.TW_STAT_CLOSED 0 0
  let s := if p = .ship then s.wr F.WELL_STAT_VALVE 0 0 else s
  let ignore := if s.con F.SEQ_CFG2_AUTO_RESTART 0 then 0 else maskOf 2 s.feedValid
  ({ s with power := { s.power with st := p, off := true, afterCutoff := none, ignoreFeed := ignore } } : State).entryApply

/-- Whether no rail of the priming operation has a step ahead (R231). -/
def State.primeDone (s : State) : Bool :=
  decide (mAnd s.seq.primeScope (s.stepMask (fun x => x == 1 || x == 2 || x == 4)) = 0)

/-- End the operation in progress (R231): its record, the latch of a start-failure drain (R233), the release of PFW, the
stroke time that the AON island keeps (R242), and the state that a cutoff drain enters. -/
def State.endOp (s : State) : State :=
  let drained := decide (s.seq.drainScope ≠ 0)
  let s := s.seqRec 0xFF 0x10 0 s.op 0xF 0
  let s := match s.seq.latchAfter with
    | none => s
    | some r =>
      let s := (s.wr F.SEQ_STAT_LATCHED 0 1).wr F.SEQ_STAT_LATCH_RAIL 0 r
      (s.railRec r 0x0B (s.rd F.SQ_RSTAT_CAUSE r)).raise 0x08 0x05 { unit := r, cause := s.rd F.SQ_RSTAT_CAUSE r }
  let s := s.wr F.SEQ_STAT_OP 0 0
  let s := if s.flag F.SEQ_STAT_PFW_REQ 0 then (s.wr F.SEQ_STAT_PFW_REQ 0 0).pfw F.PFW_STAT_SEQ false else s
  let s := if drained then s.setPower (fun p => { p with lastStop := some s.tb.now }) else s
  let s := if s.seq.handover then
      (s.setWell (fun w => { w with hoDone := true })).wr F.WELL_STAT_HO 0
        (if s.rd F.WELL_STAT_HO 0 = 2 then 3 else s.rd F.WELL_STAT_HO 0) |>.hoShow
    else s
  let s := s.setSeq (fun q => { q with primeScope := 0, drainScope := 0, lead := 0, latchAfter := none, handover := false })
  match s.power.afterCutoff with
  | some p => s.powerDown p
  | none => s

/-- The operation ends where it has no step ahead. -/
def State.settleOnce (s : State) : State :=
  if s.busyOp && s.primeDone && !s.draining then s.endOp else s

-- Drains

/-- Operation codes whose drain requests PFW_N (R231). -/
def opPfw (op : Nat) : Bool := op == 6 || op == 7 || op == 8 || op == 0xA || op == 0xB

/-- Stop the priming operation in progress (R231): WAITING and RETRY_WAIT return to OFF; PRIMING rails end their ramp and
then join the drain, or go on to their power-good. -/
def State.stopPriming (s : State) (scope : Nat) : State :=
  if !s.priming then s else
  let ps := s.seq.primeScope
  let ramping := mAnd ps (s.stepMask (· == 2))
  let s := s.seqRec 0xFF 0x10 0 s.op 0xF 0
  let s := (railsOf (mAnd ps (s.stepMask (fun x => x == 1 || x == 4)))).foldl (fun s r => s.setStep r 0) s
  { s.wr F.SEQ_STAT_OP 0 0 with seq := { s.seq with
      primeScope := 0, joinAfterRamp := mOr s.seq.joinAfterRamp (mAnd ramping scope)
      finishRamp := mOr s.seq.finishRamp (ramping - mAnd ramping scope) } }

/-- The reference of a PRIMING rail has reached its setpoint (R231, R259): its stage says so; rail 0 has no ramp while the
pump is OFF or INPUT_LOW. -/
def State.rampOver (s : State) (r : Nat) : Bool :=
  s.stgThrough r == 2 || (r == 0 && (s.stg 0 == 0 || s.stg 0 == 4))

/-- A rail of a drain waits for its drain step (R228). -/
def State.toDrainWait (s : State) (r : Nat) : State :=
  { s.setStep r 7 with seq := { s.seq with
      joinAfterRamp := clrBit s.seq.joinAfterRamp r, finishRamp := clrBit s.seq.finishRamp r } }

/-- Put a rail of a drain's scope into the drain: a GOOD rail at once, a PRIMING rail at the end of its ramp (R231). -/
def State.joinDrain (s : State) (r : Nat) : State :=
  if s.stepOf r = 3 then s.toDrainWait r
  else if s.stepOf r = 2 then
    if s.rampOver r then s.toDrainWait r
    else { s with seq := { s.seq with
      joinAfterRamp := setBit s.seq.joinAfterRamp r, finishRamp := clrBit s.seq.finishRamp r } }
  else s

/-- Start a drain, or merge it with the drain in progress (R231): a priming operation stops, the scope is the union, the
rails added by a drain that requests PFW_N wait tPFW_LEAD. -/
def State.startDrain (s : State) (op scope cause : Nat) : State :=
  let s := s.stopPriming scope
  let s := if s.busyOp then s else s.wr F.SEQ_STAT_OP 0 op
  let s := s.seqRec 0xFF 0x0F cause op 0xF 0
  let added := mAnd scope (s.stepMask (fun x => x == 2 || x == 3))
  let s := { s with seq := { s.seq with
    drainScope := mOr s.seq.drainScope scope
    lead := if opPfw op then mOr s.seq.lead added else s.seq.lead } }
  let s := if opPfw op then (s.wr F.SEQ_STAT_PFW_REQ 0 1).pfw F.PFW_STAT_SEQ true else s
  (railsOf added).foldl State.joinDrain s

/-- An overload shed (R205): counted, reported, and the drain of every rail outside the hold set. -/
def State.shedStart (s : State) : State :=
  let s := s.bump F.HDR_EVT_SHEDS 0
  let s := s.raise 0x05 0x03 { cnt := s.rd F.HDR_EVT_SHEDS 0 }
  let s := { s with overload := if s.overload = 1 then 2 else s.overload }
  s.startDrain 0x09 (mAnd s.primed (0xFFFFFF - s.holdSet)) 0

/-- One round of blocking (R228): a WAITING rail with a FAILED or BLOCKED dependency, or with one that is neither GOOD nor
among the rails still to prime. -/
def State.blockRound (s : State) : State :=
  let ahead := mAnd s.seq.primeScope (s.stepMask (fun x => x == 1 || x == 2 || x == 4))
  let bad := 0xFFFFFF - mOr s.goodMask ahead
  (railsOf (mAnd s.seq.primeScope (s.stepMask (· == 1)))).foldl (fun s r =>
    if mAnd (s.deps r) bad ≠ 0 then
      ((s.setStep r 6).wr F.SQ_RSTAT_CAUSE r 0x0A |>.railRec r 0x0A 0x0A).raise 0x08 0x09 { unit := r, cause := 0x0A }
    else s) s

/-- Repeat a step of states. -/
def iterState (f : State → State) : Nat → State → State
  | 0, s => s
  | n + 1, s => iterState f n (f s)

/-- While a priming operation runs, block every rail that can no longer prime, through all its dependants (R228). -/
def State.blockPass (s : State) : State := if s.priming then iterState State.blockRound 24 s else s

/-- Carry out what follows from the steps that have ended or changed: WAITING rails block, the operation ends, and an overload shed that waited for it
starts (R219). -/
def State.settle (s : State) : State :=
  let s := s.blockPass.settleOnce
  if s.seq.shedPend && !s.busyOp && !s.safe then
    ({ s with seq := { s.seq with shedPend := false } } : State).shedStart.settleOnce
  else s

/-- Start a drain that runs to its end in this very step where it has no rail to drain. -/
def State.drain (s : State) (op scope cause : Nat) : State := (s.startDrain op scope cause).settle

/-- A class drain of R282; in SAFE none runs (R283). -/
def State.classDrain (s : State) (scope : Nat) : State := if s.safe then s else s.drain 0x08 scope 0

-- SAFE

/-- The rail is held on by the safe-state map (R293). -/
def State.heldOn (s : State) (r : Nat) : Bool :=
  (if r < 16 then bitsOf (s.cf F.SAFE_MAP0_MAP 0) (2 * r + 1) (2 * r)
    else bitsOf (s.cf F.SAFE_MAP1_MAP 0) (2 * (r - 16) + 1) (2 * (r - 16))) == 2

/-- In SAFE a fault on a rail held on turns it off with active discharge, and every held-on rail that depends on it (R295). -/
def State.safeKill (s : State) (r st : Nat) : State :=
  let hit := s.withDependants (2 ^ r)
  let s := (railsOf (mAnd (clrBit hit r) (s.stepMask primedStep))).foldl
    (fun s q => (s.stageOff q true).setStep q 0) s
  ((s.stageOff r true).setStep r st).settle

-- Priming

/-- Start a priming operation on a scope (R228, R231): its rails that are off wait for their step; one that is still in a priming step or
waits for its retry goes on as part of the operation. -/
def State.startPrime (s : State) (op scope cause : Nat) : State :=
  let fresh := mAnd scope (s.stepMask (fun x => x == 0 || x == 5 || x == 6 || x == 0xA))
  let going := mAnd scope (s.stepMask (fun x => x == 2 || x == 4))
  let s := s.wr F.SEQ_STAT_OP 0 op |>.seqRec 0xFF 0x0F cause op 0xF 0
  let s := (railsOf fresh).foldl (fun s r => s.setStep r 1) s
  s.setSeq (fun q => { q with primeScope := mOr fresh going, finishRamp := q.finishRamp - mAnd q.finishRamp going }) |>.settle

/-- The rail's stage is still too warm to start (R188, R213). -/
def State.hot (s : State) (r : Nat) : Bool := (s.stages.at r).hot

/-- Groups let the rail start its priming step (R224). -/
def State.orderLets (s : State) (r : Nat) : Bool :=
  let g := s.cf F.SQ_CFG_GROUP r
  if s.con F.SEQ_CFG2_GROUP_ORDER 0 && s.isAuto g then
    let ahead := mAnd s.seq.primeScope (s.stepMask (fun x => x == 1 || x == 2 || x == 4))
    (railsOf ahead).all (fun q => !(s.isAuto (s.cf F.SQ_CFG_GROUP q) && decide (s.cf F.SQ_CFG_GROUP q < g)))
  else true

/-- A start failure (R232, R233, R246). In SAFE R295 applies. A GOOD rail whose hiccup restart stalls (R177) has no priming step to
repeat: the policy applies at once (DEDUCED, log 29). One that has ended its ramp outside any operation, its priming stopped, has no retry
either (DESIGN CHOICE, log 29: R231 has it fail under R232 and names none). `val` crossed its limit (R281); `beside` is what the same
instant reports after the failure (R286). -/
def State.startFail (s : State) (r cause : Nat) (val : Int := 0) (beside : State → State := id) : State :=
  let joining := bitOf s.seq.joinAfterRamp r
  let retry := !s.safe && decide (s.seq.retries.at r < s.cf F.SQ_CFG_SF_RETRIES r) && !joining && !bitOf s.seq.finishRamp r
    && s.stepOf r == 2
  let s := s.stageOff r false
  let s := if cause = 0x07 then s.count F.SEQ_CNT1_OV r else s
  let s := (s.count F.SEQ_CNT0_START_FAIL r).wr F.SQ_RSTAT_START_FAILED r 1 |>.wr F.SQ_RSTAT_CAUSE r cause
  let n := s.rd F.SEQ_CNT0_START_FAIL (s.leadRail r)
  let s := { s with seq := { s.seq with
    joinAfterRamp := clrBit s.seq.joinAfterRamp r, finishRamp := clrBit s.seq.finishRamp r } }
  let s := s.setStep r (if retry then 4 else 5)
  let s := beside ((s.railRec r 0x05 cause n).raise 0x08 0x01 { unit := r, cause, val, cnt := n })
  if s.safe then s.safeKill r 5
  else if retry then s.setSeq (fun q => { q with retries := q.retries.put r (q.retries.at r + 1) })
  else if joining then s.settle
  else if s.con F.SQ_CFG_STANDPIPE r || s.con F.SQ_CFG_SF_POLICY r then
    let hit := clrBit (mAnd (s.withDependants (2 ^ r)) (s.stepMask (fun x => x == 2 || x == 3))) r
    ((railsOf hit).foldl State.joinDrain { s with seq := { s.seq with drainScope := mOr s.seq.drainScope hit } }).settle
  else
    { s with seq := { s.seq with latchAfter := some r } }.drain 0x07 s.primed 0

/-- A rail's stage begins a priming step at the active bank's setpoint, with no restart counted and no discharge (R178, R179, R226). -/
def State.restage (s : State) (r : Nat) : State :=
  s.setRef r (fun x => { x with setpt := none, oldSet := none, hiccups := 0, discharge := false })

/-- A priming step of rail 0 leaves the pump OFF while VSYS lies below V_HDR_VIN_ON (R203) and in HOLD (R320), in INPUT_LOW too; a hand-back
alone ends that. -/
def State.pumpStays (s : State) (r : Nat) (vinOk : Bool) : Bool :=
  r == 0 && (!vinOk || s.power.st == .hold || s.stg 0 == 4)

/-- PRIMING_STEP_START (R226): the start condition holds and tPRIME_DLY has passed. A LOST channel fails at once with cause
0x04, one that is too warm with 0x03 (R232). Rail 0 returns the floor of the well (R315). -/
def primingStepStart (r : Nat) (vinOk : Bool) (s : State) : State :=
  if s.stepOf r = 1 ∧ bitOf s.seq.primeScope r = true ∧ mAnd (s.deps r) (0xFFFFFF - s.goodMask) = 0
      ∧ s.orderLets r = true then
    let s := ((s.setStep r 2).stampStep r).railRec r 0x01 0
    let s := (s.takeStep r).restage r
    if s.stgLost r then s.startFail r 0x04
    else if s.hot r then s.startFail r 0x03
    else
      let s := if r = 0 then { s with well := { s.well with floorOff := false } } else s
      if s.pumpStays r vinOk then s else s.startStage r
  else s

/-- START_RETRY (R232): after tOFF_MIN the priming step is repeated. -/
def startRetry (r : Nat) (vinOk : Bool) (s : State) : State :=
  if s.stepOf r = 4 then
    let s := ((s.setStep r 2).stampStep r).railRec r 0x06 (s.rd F.SQ_RSTAT_CAUSE r)
    let why := s.rd F.SQ_RSTAT_CAUSE r
    let say (s : State) : State := s.raise 0x08 0x07 { unit := r, cause := why }
    if s.stgLost r then s.startFail r 0x04 0 say
    else if s.hot r then s.startFail r 0x03 0 say
    else
      let s := (say s).takeStep r |>.restage r
      if s.pumpStays r vinOk then s else s.startStage r
  else s

/-- PG_DEADLINE_PASSED (R232): cause 0x01. -/
def pgDeadlinePassed (r : Nat) (s : State) : State := if s.stepOf r = 2 then s.startFail r 0x01 else s

-- Drain steps

/-- Nothing of the drain still has to end before this rail's drain step (R223, R224). -/
def State.drainLets (s : State) (r : Nat) : Bool :=
  let waiting := mOr (mAnd s.seq.drainScope (s.stepMask drainingStep)) s.seq.joinAfterRamp
  let g := s.cf F.SQ_CFG_GROUP r
  decide (mAnd (clrBit (s.withDependants (2 ^ r)) r) waiting = 0)
  && (!s.con F.SEQ_CFG2_GROUP_ORDER 0 || !decide (g < 8)
    || (railsOf waiting).all (fun q => !(decide (g < s.cf F.SQ_CFG_GROUP q) && decide (s.cf F.SQ_CFG_GROUP q < 8))))

/-- A rail's drain step ends (R227, R228): its stage is off, and active discharge goes on where ACT_DIS asks for it; rail 0's begins
then where the well alone had carried it. -/
def State.endStep (s : State) (r : Nat) (discharge : Bool) : State :=
  let s := if s.stg r = 0 then
      s.setRef r (fun x => { x with discharge := (x.discharge || r == 0) && discharge, setpt := none })
    else s.stageOff r discharge
  let s := s.setStep r (if s.flag F.SQ_RSTAT_RUN_FAULT r then 0xA else 0)
  (s.railRec r 0x04 0).settle

/-- Start a rail's drain step where its turn has come (R227). A rail that is already off ends it at once; rail 0 on the
well's floor is not off (R315). -/
def State.drainStep (s : State) (r : Nat) : State :=
  if s.stepOf r = 7 ∧ bitOf s.seq.lead r = false ∧ s.drainLets r = true then
    let s := (((s.openRailGate r).setStep r 8).stampStep r).railRec r 0x03 0
    let s := if r = 0 then { s with well := { s.well with floorOff := true } } else s
    let st := s.stg r
    if r ≠ 0 ∧ (st = 0 ∨ st = 6 ∨ st = 7 ∧ 21 ≤ r ∨ st = 0xA) then s.endStep r false
    else if r = 0 ∧ (st = 0 ∨ st = 4 ∨ st = 6) then s
    else if st = 7 ∨ st = 8 then s.setRef r (fun x => { x with ret := 5, oldSet := s.keptSet r 5 })
    else s.setStg r 5
  else s

/-- DRAIN_STEP_START (R227): tDRAIN_DLY has passed. -/
def drainStepStart (r : Nat) (s : State) : State := s.drainStep r

/-- PFW_LEAD_END (R231): tPFW_LEAD has passed for the rails of the mask; the first drain steps without a delay start. -/
def pfwLeadEnd (m : Nat) (s : State) : State :=
  let s := { s with seq := { s.seq with lead := s.seq.lead - mAnd s.seq.lead m } }
  (railsOf (mAnd m (s.stepMask (· == 7)))).foldl (fun s r =>
    if s.cf F.SQ_CFG_DELAY_D r = 0 then s.drainStep r else s) s

/-- DRAIN_STEP_END (R227): the output is below V_PB_ZERO. From DISCHARGING the discharge stops at once, whatever ACT_DIS is (DESIGN CHOICE,
log 29: R227 would let it go on for tDIS_MAX, R239 gives up to tDIS_MAX in all). -/
def drainStepEnd (r : Nat) (s : State) : State :=
  if s.stepOf r = 8 then s.endStep r (s.con F.SQ_DRAIN_ACT_DIS r)
  else if s.stepOf r = 9 then s.endStep r false
  else s

/-- DRAIN_TIMEOUT (R239): the output is above V_PB_ZERO at the end of tDRAIN_MAX. -/
def drainTimeout (r : Nat) (s : State) : State :=
  if s.stepOf r = 8 then (s.setStep r 9).stageOff r true else s

/-- DISCHARGE_TIMEOUT (R239): tDIS_MAX has passed. In DISCHARGING the step ends with BACKFEED; a discharge that follows a
drain stops. -/
def dischargeTimeout (r : Nat) (s : State) : State :=
  if s.stepOf r = 9 then
    let s := (s.count F.SEQ_CNT3_BACKFEED r).wr F.SQ_RSTAT_BACKFEED r 1
    let n := s.rd F.SEQ_CNT3_BACKFEED (s.leadRail r)
    let s := (s.railRec r 0x08 0 n).raise 0x08 0x03 { unit := r, cnt := n }
    s.endStep r false
  else s.setSt r (fun x => { x with discharge := false })

-- Running faults

/-- A failure during a drain (R238): the step ends in FAULTED, with the record 0x09 alone and no 0x04 beside it (DESIGN CHOICE, log 29:
R247 does not say). `val` crossed its limit (R281). -/
def State.drainFail (s : State) (r cause : Nat) (val : Int := 0) : State :=
  let s := s.stageOff r (s.con F.SQ_DRAIN_ACT_DIS r)
  let s := (s.setStep r 0xA).wr F.SQ_RSTAT_CAUSE r cause
  ((s.railRec r 0x09 cause).raise 0x08 0x04 { unit := r, cause, val }).settle

/-- The scope of a running-fault drain (R237). -/
def State.runScope (s : State) (r : Nat) : Nat :=
  match s.cf F.SQ_CFG_RUN_SCOPE r with
  | 1 =>
    let g := s.cf F.SQ_CFG_GROUP r
    s.withDependants (mOr (2 ^ r) (if g < 8 then s.groupMask g else 0))
  | 2 => mOr (s.withDependants (2 ^ r)) s.nonStandpipes
  | _ => s.withDependants (2 ^ r)

/-- A running fault of a GOOD rail (R235, R236, R246). In SAFE R295 applies. `val` crossed its limit (R281). -/
def State.runFault (s : State) (r cause : Nat) (val : Int := 0) : State :=
  let s := (s.wr F.SQ_RSTAT_RUN_FAULT r 1).wr F.SQ_RSTAT_CAUSE r cause
  let f : Option Fld := match cause with
    | 0x05 => some F.SEQ_CNT1_OC | 0x06 => some F.SEQ_CNT0_UV | 0x07 => some F.SEQ_CNT1_OV | _ => none
  let (s, n) := match f with
    | some f => let t := s.count f r; (t, t.rd f (s.leadRail r))
    | none => (s, 0)
  let s := (s.raise 0x08 0x02 { unit := r, cause, val, cnt := n }).railRec r 0x07 cause n
  if s.safe then s.safeKill r 0xA else s.drain 0x06 (s.runScope r) cause

/-- A cause of R232 or R235 on a rail, judged by its step state (R232, R235, R238). A follower's stands for its pair. An under-voltage
is no start failure. `val` crossed its limit (R281). -/
def State.railFault (s : State) (r cause : Nat) (val : Int := 0) : State :=
  let r := s.leadRail r
  let st := s.stepOf r
  if st = 3 then s.runFault r cause val
  else if st = 2 ∧ cause ≠ 0x06 then s.startFail r cause val
  else if st = 8 ∨ st = 9 then s.drainFail r cause val
  else s

-- Operations asked for by steps, commands and the device

/-- Error codes (R75). -/
def errOk : Nat := 0x00
def errRange : Nat := 0x01
def errReserved : Nat := 0x02
def errLocked : Nat := 0x03
def errBusy : Nat := 0x04
def errState : Nat := 0x05
def errDeadline : Nat := 0x06
def errBudget : Nat := 0x07
def errDepCycle : Nat := 0x08
def errCrc : Nat := 0x09
def errPrivilege : Nat := 0x0A
def errAlias : Nat := 0x0B
def errTwin : Nat := 0x0C
def errSealed : Nat := 0x0D
def errSupply : Nat := 0x0E
def errSlotFull : Nat := 0x0F
def errThermal : Nat := 0x10
def errNotFitted : Nat := 0x11

/-- A group or rail prime that is asked for (R188, R231, R234, R295): the error code, and the state after. -/
def State.askPrime (s : State) (op scope : Nat) (follower : Bool) : Nat × State :=
  let todo := scope - mAnd scope s.goodMask
  if s.safe then (errState, s)
  else if s.flag F.SEQ_STAT_LATCHED 0 || follower then (errState, s)
  else if op = 3 ∧ todo = 0 then (errOk, s)
  else if s.busyOp then (errBusy, s)
  else if (railsOf todo).any (fun r => decide (mAnd (s.deps r) (0xFFFFFF - mOr s.goodMask todo) ≠ 0)) then (errState, s)
  else if (railsOf todo).any s.hot then (errThermal, s)
  else (errOk, s.startPrime op todo 0x0B)

/-- A group prime or group drain (R103, R231). -/
def State.askGroup (s : State) (g : Nat) (prime : Bool) : Nat × State :=
  if prime then s.askPrime 0x02 (s.groupMask g) false
  else if s.safe then (errState, s)
  else (errOk, s.drain 0x04 (s.withDependants (s.groupMask g)) 0x0B)

/-- A RAIL_EN (R103, R194, R231). -/
def State.askRail (s : State) (r : Nat) (enable : Bool) : Nat × State :=
  if enable then s.askPrime 0x03 (2 ^ r) (s.follower r)
  else if s.safe || s.follower r then (errState, s)
  else (errOk, s.drain 0x05 (s.withDependants (2 ^ r)) 0x0B)

/-- The auto prime (R231, R243): the rails of the auto groups that are not GOOD; in HOLD only the hold set, and the others
count as shed. It does not run while LATCHED (R234). -/
def State.autoPrime (s : State) : State :=
  if s.flag F.SEQ_STAT_LATCHED 0 || s.busyOp || s.safe then s
  else if s.power.st = .hold then
    let left := s.autoMask - mAnd s.autoMask s.holdSet
    { s with seq := { s.seq with shed := mOr s.seq.shed left } }.startPrime 0x01 (mAnd s.autoMask s.holdSet) 0
  else s.startPrime 0x01 s.autoMask 0

/-- The restart prime at the end of a hand-back (R240): the rails that were shed. One that falls due while LATCHED, or while another
operation runs, is not run and its mask is forgotten (DESIGN CHOICE, log 29: R234 names group, rail and auto prime only, and R231 lets no
priming wait for another operation). -/
def State.restartPrime (s : State) : State :=
  let m := s.seq.shed
  let s := { s with seq := { s.seq with shed := 0 } }
  if s.con F.SEQ_CFG2_AUTO_RESTART 0 && !s.flag F.SEQ_STAT_LATCHED 0 && !s.busyOp && m != 0 then s.startPrime 0x0C m 0
  else s

/-- SEQ_UNLATCH (R234): refused with STATE while not latched, with BUSY while a drain runs. -/
def State.unlatch (s : State) : Nat × State :=
  if !s.flag F.SEQ_STAT_LATCHED 0 then (errState, s)
  else if s.draining then (errBusy, s)
  else
    let s := (s.wr F.SEQ_STAT_LATCHED 0 0).wr F.SEQ_STAT_LATCH_RAIL 0 0xFF
    (errOk, s.seqRec 0xFF 0x0C 0x0B s.op 0xF 0)

-- Lanes

/-- Lanes that are not retired. -/
def State.lanes (s : State) : Nat := s.rd F.UNIT_STAT_SEQ_LANE_OK 0

/-- A lane is retired until the next chip reset (R229). -/
def State.retireLane (s : State) (lane : Nat) : State :=
  let s := s.seqRec 0xFF 0x0E 0 s.op lane 0
  let s := s.losing (fun s =>
    (s.wr F.UNIT_STAT_SEQ_LANE_OK 0 (clrBit s.lanes lane)).wr F.SEQ_LANE_RETIRED 0 (setBit (s.rd F.SEQ_LANE_RETIRED 0) lane))
  s.raise 0x08 0x06 { unit := lane }

/-- LANE_DIVERGENCE (R229, R230): a lane differs from the majority at a tick; it is reloaded and counted, or retired where it
still differs after the reload or needs N_LANE_MAX resyncs within an hour. With two lanes left a disagreement is
LANES_LOST, SAFE. -/
def laneDivergence (lane : Nat) (persists : Bool) (s : State) : State :=
  if !bitOf s.lanes lane then s
  else if s.lanes ≠ 7 then (s.setSeq (fun q => { q with lanesLost := true })).raise 0x08 0x0A { unit := lane }
  else
    let times := (s.now :: (s.seq.laneTimes.at lane).filter (fun t => decide (s.now ≤ t + 3600000000))).take 3
    let s := { s with seq := { s.seq with laneTimes := s.seq.laneTimes.put lane times } }
    let f := if lane = 0 then F.SEQ_LANE_SYNC0 else if lane = 1 then F.SEQ_LANE_SYNC1 else F.SEQ_LANE_SYNC2
    let s := s.bump f 0
    let n := s.rd f 0
    let s := s.seqRec 0xFF 0x0D 0 s.op lane n
    let s := if 3 ≤ times.length ∨ persists = true then s.retireLane lane else s
    s.raise 0x08 0x08 { unit := lane, cnt := n }

end Sys2Proof.Machine
end

