-- ==== Sys2Proof/Machine/ChgPhase.lean ====
section
/-! DEFINITION. The states of the well converter and the phases of the charger, with what moves them at once (R315, R325, R329). Charger
phases are coded as WELL_CSTAT.CHG: 0 OFF, 1 QUAL, 2 PRECHARGE, 3 CC, 4 CV, 5 TOPOFF, 6 DONE, 7 SUSPENDED, 8 FAULT. -/

namespace Sys2Proof.Machine

open Sys2Proof

-- The converter

/-- Bring WELL_STAT.CONV in line with what arms the converter (R315, R329): LOST and TAKEOVER stand; without a pack it stays ARMED and
can source nothing (R314). -/
def State.convShow (s : State) : State :=
  let c := s.rd F.WELL_STAT_CONV 0
  let want := if s.con F.WELL_CFG_EN 0 && s.flag F.WELL_STAT_VALVE 0 then (if s.well.lend then 2 else 1) else 0
  if c = 4 then s
  else if c = 3 then { s with well := { s.well with ret := want } }
  else s.wr F.WELL_STAT_CONV 0 want

-- The charger

/-- The charger's phase. -/
def State.chg (s : State) : Nat := s.rd F.WELL_CSTAT_CHG 0

/-- The charge voltage and V_RECHG in mV at the pack (R325). -/
def State.chargeMv (s : State) : Nat :=
  let n := s.cf F.WELL_PACK_CELLS 0
  s.cf F.WELL_CHG_V_V_CHG 0 * n - (if s.rd F.WELL_CSTAT_ZONE 0 = 3 then s.cf F.WELL_ADJ_WARM_DV 0 * 10 * n else 0)
def State.rechargeMv (s : State) : Nat := s.chargeMv - s.cf F.WELL_CHG_V_RECHG 0 * 10 * s.cf F.WELL_PACK_CELLS 0

/-- What suspends charging now, coded as WELL_CSTAT.SUSP (R325, R335); a later hand-back keeps 2 through its dwell. The floor also
suspends it while its command is held at 0, where the charger does not charge (R315; that it is SUSPENDED is DEDUCED, log 15). -/
def State.suspendedBy (s : State) (code : Nat) : Bool :=
  match code with
  | 1 => s.rd F.WELL_CSTAT_ZONE 0 == 0 || decide (4 ≤ s.rd F.WELL_CSTAT_ZONE 0)
  | 2 => s.power.st == .hold || decide (2 ≤ s.rd F.WELL_STAT_HO 0)
  | 3 => s.well.lend
  | 4 => s.flag F.EST_STAT_DRAW 0
  | 5 => s.well.floorLow || s.well.floorOff
  | _ => false

/-- The first reason for suspension; a reason that still holds stays the one shown. -/
def State.suspCode (s : State) : Nat :=
  let old := s.rd F.WELL_CSTAT_SUSP 0
  if s.suspendedBy old then old else ((List.range 6).filter s.suspendedBy).headD 0

/-- A reason for suspension after which the charger starts again at QUAL holds (R325). -/
def State.requalNow (s : State) : Bool := s.suspendedBy 2 || s.suspendedBy 3 || s.suspendedBy 4

/-- Close the learning window (R344). -/
def State.closeWindow (s : State) : State := s.wr F.EST_STAT_WINDOW 0 0

/-- Put the charger into a phase; each timer starts at 0 on entry to its phase or phases (R328). Entering PRECHARGE, CC or
CV closes the learning window (R344). -/
def State.chgGo (s : State) (p : Nat) : State :=
  let old := s.chg
  let s := if p = 2 ∨ p = 5 ∨ (p = 3 ∧ old ≠ 4) then { s with well := { s.well with count := 0, wall := 0 } } else s
  let s := if p = 2 ∨ p = 3 ∨ p = 4 then s.closeWindow else s
  (s.note F.WELL_CSTAT_CHG 0).wr F.WELL_CSTAT_CHG 0 p |>.wr F.WELL_CSTAT_SUSP 0 0

/-- What lets the charger leave OFF (R325). LEND keeps the converter at work, so the charger is suspended and not off. -/
def State.chgMay (s : State) : Bool :=
  s.con F.WELL_CFG_CHG_EN 0 && s.pack && (s.rd F.WELL_STAT_CONV 0 == 1 || s.rd F.WELL_STAT_CONV 0 == 2)

/-- Bring the charger in line with the conditions that act on every phase (R325): OFF, FAULT while CHG_FAULT is latched,
SUSPENDED and back. -/
def State.chgSettle (s : State) : State :=
  let p := s.chg
  if !s.chgMay then
    if p = 0 then s else (s.chgGo 0)
  else if s.flag F.WELL_CSTAT_CHG_FAULT 0 then (if p = 8 then s else s.chgGo 8)
  else if p = 7 then
    let c := s.suspCode
    let s := { s with well := { s.well with requal := s.well.requal || s.requalNow } }
    if c ≠ 0 then s.wr F.WELL_CSTAT_SUSP 0 c
    else
      let next := if s.well.requal then 1 else s.well.phaseLeft
      let s := if next = 1 then s.chgGo 1 else s.wr F.WELL_CSTAT_CHG 0 next |>.wr F.WELL_CSTAT_SUSP 0 0
      { s with well := { s.well with requal := false } }
  else
    -- OFF goes to QUAL in RUN and SAFE, and QUAL may be suspended at once
    let s := if p = 0 ∧ (s.power.st = .run ∨ s.power.st = .safe) then s.chgGo 1 else s
    let p := s.chg
    if p = 0 ∨ s.suspCode = 0 then s
    else
      let s := { s with well := { s.well with phaseLeft := p, requal := s.requalNow } }
      s.wr F.WELL_CSTAT_CHG 0 7 |>.wr F.WELL_CSTAT_SUSP 0 s.suspCode

/-- The converter passes to a state; the charger follows, OFF while it is not ARMED (R325). -/
def State.setConv (s : State) (c : Nat) : State := ((s.note F.WELL_STAT_CONV 0).wr F.WELL_STAT_CONV 0 c).chgSettle

end Sys2Proof.Machine
end

