-- ==== Sys2Proof/Machine/Channel.lean ====
section
/-! DEFINITION. The stages of the rails: setpoints and ramps (R175 to R178, R203), over-current and hiccup (R179, R205, R206),
over-voltage (R180), drains (R181), remote sense (R182, R183), the lockstep controllers and their spares (R184 to R186,
R212, R317), temperature (R188, R213), load switches (R215), the header phases (R207 to R209), telemetry (R189, R190). -/

namespace Sys2Proof.Machine

open Sys2Proof

-- Setpoints and ramps

/-- Move a rail's present setpoint to a code: the reference ramps there (R178, R203). -/
def State.moveSet (s : State) (r code : Nat) : State :=
  let old := s.setCode r
  if code = old then s else
  let moving := s.stgThrough r = 2 ∨ s.stgThrough r = 3
  let t := s.setSt r (fun x => { x with setpt := some code, oldSet := if moving then some old else x.oldSet })
  let t := if s.stg r = 2 then t.setStg r 3
    else if s.stg r = 7 ∨ s.stg r = 8 then
      (if (s.stages.at r).ret = 2 ∧ r ≤ 14 then t.setSt r (fun x => { x with ret := 3 }) else t)
    else t
  State.relevel s t r

/-- A RAIL_SET (R178, R219): refused as the table says; the code becomes the present setpoint. -/
def State.askRailSet (s : State) (r code : Nat) : Nat × State :=
  let st := s.stgThrough r
  if 21 ≤ r then (errRange, s)
  else if code < (s.vlim r).1 ∨ (s.vlim r).2 < code then (errRange, s)
  else if s.safe || s.follower r then (errState, s)
  else if st = 0 ∨ st = 1 ∨ st = 5 ∨ st = 6 ∨ st = 9 ∨ st = 0xA then (errState, s)
  else if r = 0 ∧ (st = 4 ∨ s.rd F.WELL_STAT_HO 0 = 1 ∨ s.rd F.WELL_STAT_HO 0 = 5 ∨ s.flag F.EST_STAT_DRAW 0 = true) then
    (errState, s)
  else (errOk, s.moveSet r code)

/-- RAMP_COMPLETE (R175, R203): the reference has reached its setpoint. A rail that ended its ramp to join a drain joins it
(R231). -/
def rampComplete (r : Nat) (s : State) : State :=
  if s.stg r = 1 ∨ s.stg r = 3 then
    let t := (s.setStg r 2).refAtSet r
    if bitOf t.seq.joinAfterRamp r then (t.joinDrain r).settle else t
  else s

/-- POWER_GOOD (R226, R259): inside its window for tPGQ after its ramp. A rail in PRIMING becomes GOOD; for a rail that has
moved to a new setpoint the levels leave the old one (R256). A GOOD rail 0 that the well carries, its pump OFF, INPUT_LOW or LOST, shows PG
too (R235, R276). -/
def powerGood (r : Nat) (s : State) : State :=
  if s.stepOf r = 2 ∧ s.rampOver r = true ∧ bitOf s.seq.joinAfterRamp r = false then
    let s := s.wr F.SQ_RSTAT_T_PG r (s.sinceStep r)
    let s := { s.setStep r 3 with seq := { s.seq with finishRamp := clrBit s.seq.finishRamp r } }
    let s := s.setRef r (fun x => { x with oldSet := none })
    ((s.wr F.WM_MSTAT_PG r 1).railRec r 0x02 0).settle
  else if s.stepOf r = 3 ∧ (s.stg r = 2 ∨ (r = 0 ∧ (s.stg 0 = 0 ∨ s.stg 0 = 4 ∨ s.stg 0 = 6))) then
    (s.setRef r (fun x => { x with oldSet := none })).wr F.WM_MSTAT_PG r 1
  else s

/-- RAMP_STALL (R177, R203): counted, and a start failure with cause 0x02 that turns the stage off, in the hiccup restart of a
GOOD rail too. -/
def rampStall (r : Nat) (s : State) : State :=
  if s.stg r = 1 then
    let s := if r = 0 then s.bump F.HDR_EVT_STALLS 0
      else if r ≤ 12 then
        let s := s.bump F.B_EVT_STALLS (r - 1)
        s.raise 0x06 0x09 { unit := r - 1, val := s.crossed 0x06 0x09 (r - 1), cnt := s.rd F.B_EVT_STALLS (r - 1) }
      else if r ≤ 14 then
        let s := s.bump F.X_EVT_STALLS (r - 13)
        s.raise 0x05 0x0F { unit := r, val := s.crossed 0x05 0x0F r, cnt := s.rd F.X_EVT_STALLS (r - 13) }
      else s
    if s.stepOf r = 2 ∨ s.stepOf r = 3 then s.startFail r 0x02 else s.stageOff r false
  else s

-- Over-current, hiccup, over-voltage

/-- HICCUP_EN and N_HICCUP_MAX of a B or X rail (R179, R212). -/
def State.hiccupCf (s : State) (r : Nat) : Bool × Nat :=
  if 1 ≤ r ∧ r ≤ 12 then (s.con F.B_CFG_HICCUP_EN (r - 1), s.cf F.B_CFG_HICCUP_MAX (r - 1))
  else if r = 13 ∨ r = 14 then (s.con F.X_CFG_HICCUP_EN (r - 13), s.cf F.X_CFG_HICCUP_MAX (r - 13))
  else (false, 0)

/-- Count and report an over-current of a rail's stage (R179, R195, R206, R213, R220). -/
def State.ocReport (s : State) (r : Nat) : State :=
  let val := Config.railMilliAmps r s.now
  if r = 0 then s.bump F.HDR_EVT_OC 0
  else if r ≤ 12 then
    let s := s.bump F.B_EVT_OC (r - 1)
    s.raise 0x06 0x08 { unit := r - 1, val, cnt := s.rd F.B_EVT_OC (r - 1) }
  else if r ≤ 14 then
    let s := s.bump F.X_EVT_OC (r - 13)
    s.raise 0x05 0x0E { unit := r, val, cnt := s.rd F.X_EVT_OC (r - 13) }
  else if r ≤ 20 then s.raise 0x05 0x04 { unit := r, cause := 0x05, val }
  else s

/-- An over-current of a rail's stage (R179, R206, R213), outside soft start for a B, X or HDR stage: counted where its clamp acts; hiccup
or a running fault of the rail, in DRAINING a failed drain step (R238). A follower's counts in its own B_EVT and acts on its pair. -/
def State.stageOverCurrent (s : State) (q : Nat) (steady : Bool) : State :=
  let r := s.leadRail q
  let st := s.stg r
  if 21 ≤ r then s
  else if st = 2 ∨ st = 3 ∨ st = 5 ∨ (st = 1 ∧ 15 ≤ r) then
    let s := (s.wr (limitFld q).1 (limitFld q).2 1).ocReport q
    let s := if steady then s.setSt r (fun x => { x with hiccups := 0 }) else s
    if st ≠ 5 ∧ (s.hiccupCf r).1 = true ∧ (s.stages.at r).hiccups < (s.hiccupCf r).2 then s.setStg r 4
    else if 15 ≤ r ∧ s.stepOf r = 2 then s.startFail r 0x05 (Config.railMilliAmps r s.now)
    else s.railFault r 0x05 (Config.railMilliAmps r s.now)
  else s

/-- OVER_CURRENT of a channel, the pump, an LDO (R179, R206, R213). `steady`: the rail had stayed in REGULATING for 1 s since its last
hiccup. The pump's clamp is an over-current only while the well cannot discharge (R206). Load switches have SWITCH_LIMIT_EXPIRY. -/
def overCurrent (r : Nat) (steady : Bool) (s : State) : State :=
  if r = 0 ∧ s.wellGives = true then s else s.stageOverCurrent r steady

/-- HICCUP_END (R179): soft start again; the restart is counted, and the last one allowed is a running fault, of a rail still in PRIMING a
start failure by over-current (R232). -/
def hiccupEnd (r : Nat) (s : State) : State :=
  if s.stg r = 4 ∧ 1 ≤ r ∧ r ≤ 14 then
    let s := (s.count F.SEQ_CNT2_HICCUP r).setSt r (fun x => { x with hiccups := x.hiccups + 1 })
    let n := s.rd F.SEQ_CNT2_HICCUP (s.leadRail r)
    let s := if r ≤ 12 then s.raise 0x06 0x0A { unit := r - 1, cnt := n } else s.raise 0x05 0x10 { unit := r, cnt := n }
    let s := s.startStage r
    if (s.hiccupCf r).2 ≤ (s.stages.at r).hiccups then
      (if s.stepOf (s.leadRail r) = 2 then s.railFault r 0x05 (s.crossed 0x08 0x01 r) else s.railFault r 0x09)
    else s
  else s

/-- OUTPUT_OVER_VOLTAGE of a B or X channel (R180, R212): the high side is held off, the low side sinks; a running fault. -/
def outputOverVoltage (r : Nat) (mv : Int) (s : State) : State :=
  if 1 ≤ r ∧ r ≤ 14 ∧ switching (s.stg r) = true then
    let s := s.setSt r (fun x => { x with ovSink := true })
    let s := if r ≤ 12 then s.raise 0x06 0x07 { unit := r - 1, val := mv }
      else
        let s := s.bump F.X_EVT_OV (r - 13)
        s.raise 0x05 0x08 { unit := r, val := mv, cnt := s.rd F.X_EVT_OV (r - 13) }
    s.railFault r 0x07 mv
  else s

/-- CHANNEL_DRAIN_END (R181): the output is below V_PB_ZERO, the stage is off, active discharge begins where it is asked. -/
def channelDrainEnd (r : Nat) (s : State) : State :=
  if s.stg r = 5 then
    (s.setStg r 0).setRef r (fun x => { x with discharge := s.con F.SQ_DRAIN_ACT_DIS r, setpt := none })
  else s

-- Remote sense

/-- SENSE_LOSS (R182, R183): local sense from the next sample. -/
def senseLoss (c : Nat) (s : State) : State :=
  if s.con F.B_CFG_SNS_LOCAL c || s.flag F.B_STAT_SNS_LOST c then s
  else
    let s := (s.wr F.B_STAT_SNS_LOST c 1).bump F.B_EVT_SNS_LOSS c
    s.raise 0x06 0x03 { unit := c, val := s.crossed 0x06 0x03 c, cnt := s.rd F.B_EVT_SNS_LOSS c }

/-- B_CTL.SNS_RETRY (R183, R197). -/
def State.askSnsRetry (s : State) (c : Nat) : Nat × State :=
  if !s.flag F.B_STAT_SNS_LOST c || s.con F.B_CFG_SNS_LOCAL c then (errState, s)
  else (errOk, s.setSt (c + 1) (fun x => { x with snsRetry := true }))

/-- SNS_RETRY_DONE (R183): remote sense returns if the lines are good. -/
def snsRetryDone (c : Nat) (good : Bool) (s : State) : State :=
  if (s.stages.at (c + 1)).snsRetry then
    let s := s.setSt (c + 1) (fun x => { x with snsRetry := false })
    if good then s.wr F.B_STAT_SNS_LOST c 0 else s
  else s

-- Controllers

/-- The fields of a unit's controller pair. -/
def spareFld : CtlUnit → Fld × Nat
  | .b c => (F.B_STAT_CTRL_SPARE, c) | .x n => (F.X_STAT_CTRL_SPARE, n) | .well => (F.WELL_STAT_CTRL_SPARE, 0)
def soloFld : CtlUnit → Fld × Nat
  | .b c => (F.B_STAT_SOLO, c) | .x n => (F.X_STAT_SOLO, n) | .well => (F.WELL_STAT_SOLO, 0)
def mismatchFld : CtlUnit → Fld × Nat
  | .b c => (F.B_CTLR_MISMATCH, c) | .x n => (F.X_EVT_MISMATCH, n) | .well => (F.WELL_CTLR_MISMATCH, 0)

/-- Whether a unit runs on its group's spare, or on one half. -/
def State.onSpare (s : State) (u : CtlUnit) : Bool := s.flag (spareFld u).1 (spareFld u).2
def State.solo (s : State) (u : CtlUnit) : Bool := s.flag (soloFld u).1 (soloFld u).2

/-- The units that share a unit's spare (R16): B0 to B5, B6 to B11, and X0, X1 with the well converter. -/
def spareGroup : CtlUnit → List CtlUnit
  | .b c => if c.val < 6 then [.b 0, .b 1, .b 2, .b 3, .b 4, .b 5] else [.b 6, .b 7, .b 8, .b 9, .b 10, .b 11]
  | .x _ => [.x 0, .x 1, .well]
  | .well => [.x 0, .x 1, .well]

/-- The group's spare is claimed. -/
def State.claimed (s : State) (u : CtlUnit) : Bool := (spareGroup u).any s.onSpare

/-- The HEALTH of a unit's own pair (R197, R499). -/
def State.setHealth (s : State) (u : CtlUnit) (v : Nat) : State :=
  match u with
  | .b c => s.wr F.B_CTLR_HEALTH c v
  | .x n => { s with health := s.health.put n v }
  | .well => s.wr F.WELL_CTLR_HEALTH 0 v

def State.healthOf (s : State) (u : CtlUnit) : Nat :=
  match u with
  | .b c => s.rd F.B_CTLR_HEALTH c
  | .x n => s.health.at n
  | .well => s.rd F.WELL_CTLR_HEALTH 0

/-- B_STAT.SPARE_FREE of every channel follows the claims (R197). -/
def State.spareFree (s : State) : State :=
  let lo := !s.claimed (.b 0)
  let hi := !s.claimed (.b 6)
  (List.range 12).foldl (fun s c => s.wr F.B_STAT_SPARE_FREE c (b2n (if c < 6 then lo else hi))) s

/-- The unit's stage state, and the rail it drives. -/
def unitRail : CtlUnit → Option Nat
  | .b c => some (c + 1) | .x n => some (13 + n) | .well => none

/-- The unit is LOST. -/
def State.unitLost (s : State) (u : CtlUnit) : Bool :=
  match unitRail u with
  | some r => s.stgLost r || (s.stages.at r).gone
  | none => s.rd F.WELL_STAT_CONV 0 == 4

/-- The unit's event block, its unit byte and its codes: takeover, SOLO, LOST for want of a controller (R195, R220, R333). -/
def unitEvent : CtlUnit → Nat × Nat × Nat × Nat × Nat
  | .b c => (0x06, c, 0x01, 0x02, 0x0B)
  | .x n => (0x05, 13 + n, 0x02, 0x07, 0x0B)
  | .well => (0x0B, 0xFF, 0x07, 0x08, 0x09)

/-- A B channel is LOST (R156, R174, R186). In a pair whose other channel still works the rail goes on with that one, which
BCH 0x05 reports; otherwise `last` reports, and the rail has a fault with cause 0x04. -/
def State.chanLost (s : State) (c : Nat) (last : State → State) : State :=
  let r := c + 1
  let other := if c % 2 = 0 then c + 1 else c - 1
  if s.paired c && !(s.stages.at (other + 1)).gone then
    let s := s.setSt r (fun x => { x with gone := true })
    let s := if c % 2 = 1 then s.setStg r 0xA
      else if s.stg r = 7 ∨ s.stg r = 8 then s.setStg r (s.stages.at r).ret else s
    s.raise 0x06 0x05 { unit := c }
  else
    let s := s.setSt r (fun x => { x with gone := true })
    let s := s.setStg r 0xA
    let s := if s.paired c then s.setStg (c / 2 * 2 + 1) 0xA else s
    (last s).railFault r 0x04

/-- A unit is LOST for want of a controller (R186, R317). -/
def State.loseUnit (s : State) (u : CtlUnit) : State :=
  let e := unitEvent u
  let last (s : State) : State := s.raise e.1 e.2.2.2.2 { unit := e.2.1 }
  match u with
  | .b c => s.chanLost c last
  | .x n => (last (s.setStg (13 + n) 0xA)).railFault (13 + n) 0x04
  | .well => last (s.setConv 4)

/-- Hold a unit's stage off for a self-test; a stage that does not switch stays as it is (R186). -/
def State.holdUnit (s : State) (u : CtlUnit) : State :=
  match unitRail u with
  | some r =>
    let st := s.stg r
    if switching st then (s.setSt r (fun x => { x with bist := true, ret := st })).setStg r 8
    else s.setSt r (fun x => { x with bist := true })
  | none =>
    let st := s.rd F.WELL_STAT_CONV 0
    let s := { s with well := { s.well with bist := true, ret := st } }
    if st = 0 then s else s.setConv 3

/-- The group's spare takes over a unit: the claim, which B_STAT.SPARE_FREE and DEGRADED follow, and the takeover event that
reports the loss (R40, R185, R187, R195). -/
def State.takeSpare (s : State) (u : CtlUnit) : State :=
  let e := unitEvent u
  let s := (s.losing (fun s => s.wr (spareFld u).1 (spareFld u).2 1)).spareFree
  s.raise e.1 e.2.2.1 { unit := e.2.1, cnt := s.rd (mismatchFld u).1 (mismatchFld u).2 }

/-- A unit runs on one half of its pair (R186). -/
def State.goSolo (s : State) (u : CtlUnit) : State :=
  let e := unitEvent u
  (s.losing (fun s => s.wr (soloFld u).1 (soloFld u).2 1)).raise e.1 e.2.2.2.1 { unit := e.2.1 }

/-- A unit's stage passes through TAKEOVER while its group's spare takes over, and is back in its state (R175, R185, R317): the loop starts
from the measured current and the present error. -/
def State.passTakeover (s : State) (u : CtlUnit) : State :=
  match unitRail u with
  | some r =>
    if s.follower r then s.takeSpare u
    else
      let st := s.stg r
      let s := s.loopTaken r
      if switching st then (((s.setSt r (fun x => { x with ret := st })).setStg r 8).takeSpare u).setStg r st else s.takeSpare u
  | none =>
    let st := s.rd F.WELL_STAT_CONV 0
    if st = 0 then s.takeSpare u
    else ((s.setConv 3).takeSpare u).setConv st

/-- LOCKSTEP_MISMATCH (R185, R186): the group's spare takes over within tTAKEOVER and the stage goes on in the state it was
in; without a free spare the pair is held off for its self-test. During a flush the takeover waits for the flush's end
(R194). A unit in SOLO has no lockstep to mismatch. Every mismatch counts in the MISMATCH of the unit's own pair, one of the spare that
it has claimed too (DESIGN CHOICE, log 36). -/
def lockstepMismatch (u : CtlUnit) (s : State) : State :=
  let flushing := match u with | .b c => s.flag F.CA_STAT_FLUSHING c | _ => false
  if s.unitLost u || s.solo u then s
  else if flushing then
    match unitRail u with
    | some r => s.setSt r (fun x => { x with mismatchPend := true })
    | none => s
  else
    let own := !s.onSpare u
    let s := (s.bump (mismatchFld u).1 (mismatchFld u).2).owe ctrlChunk false
    let s := if own then s.setHealth u 1 else s
    if own && !s.claimed u then s.passTakeover u else s.holdUnit u

/-- A stage resumes after its self-test: DRAINING goes on from the present output, every other state by soft start (R186). A flush that
waits runs first (R194). -/
def State.resumeStage (s : State) (r : Nat) : State :=
  let back := if (s.stages.at r).ret = 5 then 5 else 1
  let t := if back = 5 then (s.refFromOutput r).setStg r 5 else s.startFromOutput r
  if r ≤ 12 ∧ s.flag F.CA_STAT_FLUSHING (r - 1) = true then (t.setSt r (fun x => { x with ret := back })).setStg r 7 else t

/-- Resume a unit after its self-test (R186). -/
def State.resumeUnit (s : State) (u : CtlUnit) : State :=
  match unitRail u with
  | some r =>
    let s := s.setSt r (fun x => { x with bist := false })
    if s.stg r = 8 then s.resumeStage r else s
  | none =>
    let s := { s with well := { s.well with bist := false } }
    if s.rd F.WELL_STAT_CONV 0 = 3 then s.setConv s.well.ret else s

/-- A unit waits for its self-test's result. -/
def State.inBist (s : State) (u : CtlUnit) : Bool :=
  match unitRail u with | some r => (s.stages.at r).bist | none => s.well.bist

/-- CONTROLLER_BIST_DONE (R186): how many halves passed. -/
def controllerBistDone (u : CtlUnit) (halves : Nat) (s : State) : State :=
  if !s.inBist u then s
  else
    if 2 ≤ halves then
      let s := if s.onSpare u then s else s.setHealth u 0
      s.resumeUnit u
    else if halves = 1 then (s.goSolo u).resumeUnit u
    else
      let s := match unitRail u with
        | some r => s.setSt r (fun x => { x with bist := false })
        | none => { s with well := { s.well with bist := false } }
      s.loseUnit u

-- Temperature

/-- CHANNEL_OVER_TEMP (R188): the channel's temperature in 0.125 °C. At T_CH_SHUT the channel enters OT_OFF; above T_CH_WARN
it warns; a channel starts only below T_CH_SHUT − T_CH_HYS (15 °C). In a pair the stage that both channels share enters OT_OFF, which the
leader's STATE shows, the follower's STATE stays FOLLOWER, and the entry counts in the B_EVT.OT of the channel that is hot (DESIGN
CHOICE, log 36). -/
def channelOverTemp (c : Nat) (t : Int) (s : State) : State :=
  let l := if s.follower (c + 1) then c - 1 else c
  let shut : Int := s.cf F.B_TEMP_T_SHUT l * 8
  let warn : Int := s.cf F.B_TEMP_T_WARN l * 8
  let s := s.setSt (c + 1) (fun x => { x with hot := decide (shut - 120 ≤ t) })
  let newWarn := decide (warn < t) && !s.flag F.B_STAT_T_WARN c
  let s := s.wr F.B_STAT_T_WARN c (b2n (decide (warn < t)))
  let s := if newWarn then s.raise 0x06 0x04 { unit := c, val := t } else s
  let r := l + 1
  if shut ≤ t ∧ s.stg r ≠ 0 ∧ s.stg r ≠ 6 ∧ s.stg r ≠ 0xA then
    let s := (s.setSt r (fun x => { x with bist := false, hiccups := 0 })).setStg r 6
    let s := s.bump F.B_EVT_OT c
    (s.raise 0x06 0x06 { unit := c, val := t, cnt := s.rd F.B_EVT_OT c }).railFault r 0x08 t
  else s

/-- LDO_THERMAL_SHUTDOWN (R213): the pass device is above T_LDO_SHUT, or has fallen below T_LDO_SHUT − T_LDO_HYS. -/
def ldoThermal (k : Nat) (above : Bool) (s : State) : State :=
  let r := 15 + k
  let s := s.setSt r (fun x => { x with hot := above })
  if above ∧ s.stg r ≠ 0 ∧ s.stg r ≠ 6 then
    let val := s.crossed 0x05 0x05 r
    ((s.setStg r 6).raise 0x05 0x05 { unit := r, cause := 0x08, val }).railFault r 0x08 val
  else s

-- Load switches

/-- SWITCH_LIMIT_EXPIRY (R215): the switch turns off and reports a running fault. -/
def switchLimitExpiry (j : Nat) (s : State) : State :=
  let r := 21 + j
  if s.stg r = 2 then
    let s := (s.setStg r 7).bump F.S_EVT_OC j
    let val := Config.railMilliAmps r s.now
    (s.raise 0x05 0x06 { unit := r, cause := 0x05, val, cnt := s.rd F.S_EVT_OC j }).railFault r 0x05 val
  else s

/-- SWITCH_REVERSE_BLOCK (R215): the gate is off until the reverse voltage clears. -/
def switchReverseBlock (j : Nat) (on : Bool) (s : State) : State :=
  if on then
    if s.flag F.S_STAT_REV_BLOCK j then s
    else
      let s := (s.wr F.S_STAT_REV_BLOCK j 1).bump F.S_EVT_REV j
      s.raise 0x05 0x0C { unit := 21 + j, val := s.crossed 0x05 0x0C (21 + j), cnt := s.rd F.S_EVT_REV j }
  else s.wr F.S_STAT_REV_BLOCK j 0

/-- A hand-back in progress is abandoned: the device stays in HOLD (R322). -/
def State.handbackLost (s : State) : State :=
  if s.rd F.WELL_STAT_HO 0 = 5 then (s.wr F.WELL_STAT_HO 0 3).hoShow else s

-- Header phases

/-- Set which phases are live; the running limit follows (R202, R208). -/
def State.setLive (s : State) (m : Nat) : State := (s.wr F.HDR_STAT_LIVE 0 m).limits

/-- PHASE_LOSS with a cause of R207 (R208, R209): the phase is isolated and the others re-spaced; with no phase left the pump
is LOST. A rail 0 that is in PRIMING then is left to tPG_DL (DESIGN CHOICE, log 29: R232 names a channel that becomes LOST, not the
pump). -/
def phaseLoss (p cause : Nat) (s : State) : State :=
  let live := s.rd F.HDR_STAT_LIVE 0
  if !bitOf live p then s
  else
    let s := if cause = 1 then (s.bump F.HDR_PH_MISMATCH p).owe ctrlChunk false else s
    let s := (s.wr F.HDR_PH_CAUSE p cause).bump F.HDR_EVT_PH_LOSS 0
    let s := s.losing (fun s => s.setLive (clrBit live p))
    let val := if cause = 3 ∨ cause = 4 ∨ cause = 5 then s.crossed 0x05 0x01 p else 0
    let s := s.raise 0x05 0x01 { unit := p, cause, val, cnt := s.rd F.HDR_EVT_PH_LOSS 0 }
    if s.rd F.HDR_STAT_LIVE 0 = 0 then ((s.setStg 0 6).raise 0x05 0x0A {}).handbackLost else s

/-- HDR_CTL.PH_RETRY of one phase (R208). -/
def State.askPhRetry (s : State) (p : Nat) : Nat × State :=
  let c := s.rd F.HDR_PH_CAUSE p
  if s.stg 0 ≠ 2 ∨ (c ≠ 1 ∧ c ≠ 4) then (errState, s)
  else (errOk, { s with phRetry := setBit s.phRetry p })

/-- PH_RETRY_DONE (R208): the phase rejoins at the next frame, or its cause becomes 0x6. -/
def phRetryDone (p : Nat) (passed : Bool) (s : State) : State :=
  if !bitOf s.phRetry p then s
  else
    let s := { s with phRetry := clrBit s.phRetry p }
    if passed then
      let s := { s with phJoin := s.phJoin.put p (s.now + 1) }
      ((s.wr F.HDR_PH_CAUSE p 0).setLive (setBit (s.rd F.HDR_STAT_LIVE 0) p)).raise 0x05 0x0D { unit := p }
    else s.wr F.HDR_PH_CAUSE p 6

/-- PUMP_INPUT_LOW (R203, R219): retries are abandoned, an overload ends; a hand-back in progress is abandoned (R322). -/
def pumpInputLow (s : State) : State :=
  let s := { s with phRetry := 0 }
  let st := s.stg 0
  if st = 1 ∨ st = 2 ∨ st = 3 then
    let s := (s.setSt 0 (fun x => { x with setpt := none, oldSet := none })).setStg 0 4
    s.handbackLost
  else s

/-- The pump may be overloaded (R205): it switches, the well can discharge, no learning draw and no hand-back is in progress. -/
def State.overloadable (s : State) : Bool :=
  switching (s.stg 0) && s.wellGives && !s.flag F.EST_STAT_DRAW 0 && s.rd F.WELL_STAT_HO 0 != 5

/-- PERSIST_OVERLOAD is reported, once in an overload (R205). -/
def State.persistReport (s : State) : State := ({ s with overload := 3 } : State).raise 0x05 0x09 {}

/-- OVERLOAD_SHED (R205): an overload has lasted tHDR_SHED. With SHED_EN = 1 every rail outside the hold set drains, after a
drain in progress (R219), in SAFE none (R283); with SHED_EN = 0 PERSIST_OVERLOAD is reported and nothing is shed. Once in an overload. -/
def overloadShed (s : State) : State :=
  if !s.overloadable || s.overload != 0 then s
  else
    let s := { s.wr F.HDR_STAT_OVERLOAD 0 1 with overload := 1 }
    if !s.con F.HDR_CFG_SHED_EN 0 then s.persistReport
    else if s.safe then s
    else if s.draining then { s with seq := { s.seq with shedPend := true } }
    else s.shedStart.settle

/-- PERSIST_OVERLOAD (R205): the overload has lasted a further tHDR_SHED after the shed. -/
def persistOverload (s : State) : State := if s.overload = 2 then s.persistReport else s

-- Telemetry

/-- The REC_DIV of a rail (R190, R222). -/
def State.recDiv (s : State) (r : Nat) : Nat :=
  if r = 0 then s.cf F.HDR_TEL_REC_DIV 0 else if r ≤ 12 then s.cf F.B_TEL_REC_DIV (r - 1)
  else if r ≤ 14 then s.cf F.X_TEL_REC_DIV (r - 13) else s.cf F.LS_TEL_REC_DIV 0

/-- Show a window's averages and peaks where the rail has registers for them (R189, R222). -/
def State.telShow (s : State) (r : Nat) (w : TelWindow) : State :=
  if r = 0 ∨ r = 13 ∨ r = 14 then s
  else if r ≤ 12 then
    let c := r - 1
    let hi (s : State) (f : Fld) (x : Int) : State :=
      if ofField 16 (s.rd f c) < x then s.wr f c (s16 x) else s
    let s := (s.wr F.B_TEL_VI_V_AVG c w.vAvg).wr F.B_TEL_VI_I_AVG c (s16 w.iAvg)
    let s := (s.wr F.B_TEL_PT_P_AVG c w.pAvg).wr F.B_TEL_PT_T c (s16 w.temp)
    let s := if s.rd F.B_PK_V_V_MAX c < w.vMax then s.wr F.B_PK_V_V_MAX c w.vMax else s
    let s := if w.vMin < s.rd F.B_PK_V_V_MIN c then s.wr F.B_PK_V_V_MIN c w.vMin else s
    hi (hi s F.B_PK_IT_I_MAX w.iMax) F.B_PK_IT_T_MAX w.temp
  else if r ≤ 20 then s.wr F.L_STAT_V_AVG (r - 15) w.vAvg
  else s.wr F.S_STAT_I_AVG (r - 21) (s16 w.iAvg)

/-- Byte 13 of a rail telemetry record (R190). -/
def State.telFlags (s : State) (r : Nat) (w : TelWindow) : Nat :=
  if 1 ≤ r ∧ r ≤ 12 then
    let c := r - 1
    b2n (s.con F.B_CFG_SNS_LOCAL c || s.flag F.B_STAT_SNS_LOST c) + 2 * b2n w.inLimit
      + 4 * b2n (s.flag F.B_STAT_CTRL_SPARE c || s.flag F.B_STAT_SOLO c) + 8 * s.rd F.B_STAT_T_WARN c
      + 16 * b2n (s.paired c)
  else 2 * b2n w.inLimit

/-- TELEMETRY_WINDOW_END (R189, R190). The readings of a pair come as its leader's rail gives them; the phase currents of
rail 0 come with its window. -/
def telemetryWindowEnd (r : Nat) (w : TelWindow) (s : State) : State :=
  if s.follower r then s else
  let s := s.telShow r w
  let s := if r = 0 then
      (List.range 3).foldl (fun s p => s.wr F.HDR_PH_I_AVG p (s16 (w.phase.getD p 0))) s else s
  let s := s.setSt r (fun x => { x with
    telWins := x.telWins + 1, recVMax := max x.recVMax w.vMax, recVMin := min x.recVMin w.vMin
    recIMax := max x.recIMax w.iMax })
  let m := s.recDiv r
  if m ≠ 0 ∧ m ≤ (s.stages.at r).telWins then
    let x := s.stages.at r
    let s := s.emit (if 1 ≤ r ∧ r ≤ 12 then 0x06 else 0x05) 0x01
      (bytes 1 r ++ bytes 1 (s.telFlags r w) ++ bytes 2 w.vAvg ++ bytes 2 (s16 w.iAvg) ++ bytes 2 w.pAvg
        ++ bytes 2 (s16 w.temp) ++ bytes 2 x.recVMax ++ bytes 2 x.recVMin ++ bytes 2 (s16 x.recIMax))
    s.setSt r (fun x => { x with telWins := 0, recVMax := 0, recVMin := 0xFFFF, recIMax := -32768 })
  else s

end Sys2Proof.Machine
end

