-- ==== Sys2Proof/Machine/Cistern.lean ====
section
/-! DEFINITION. The cistern arrays of B0 to B11 (R134 to R163): segments and banks, retirement and derating, adaptation,
rotation, probing, driver loss, shorts and flushes, initialisation. -/

namespace Sys2Proof.Machine

open Sys2Proof

-- Segments and banks

/-- A bank may be made active: its driver works and none of its segments waits to be probed for a leaking gate (R149). -/
def State.usable (s : State) (c : Nat) (a : Arr) (b : Nat) : Bool :=
  s.driverOk c a b && !(s.cist.leaking.at (arrKey c a)).any (fun g => decide (bankOf a g = b))

/-- Make a bank active or inactive. A resting segment stays RESTING with its bank inactive: only a rotation, a probe or a retirement
changes it (R138). -/
def State.setBank (s : State) (c : Nat) (a : Arr) (b : Nat) (on : Bool) : State :=
  let m := s.cist.active.at (arrKey c a)
  { s with cist := { s.cist with active := s.cist.active.put (arrKey c a) (if on then setBit m b else clrBit m b) } }

/-- The outgoing bank of an exchange in progress is active, but does not count in n (R143). -/
def State.outgoing (s : State) (c : Nat) (a : Arr) (b : Nat) : Bool := (s.cist.swap.at (arrKey c a)).2 == b + 1

/-- The active banks of an array that count in n, in ascending index. -/
def State.actives (s : State) (c : Nat) (a : Arr) : List Nat :=
  (List.range 16).filter (fun b => s.bankActive c a b && !s.outgoing c a b)

/-- The inactive banks of an array that may be made active. -/
def State.spares (s : State) (c : Nat) (a : Arr) : List Nat :=
  (List.range 16).filter (fun b => !s.bankActive c a b && s.usable c a b)

/-- The number of active banks n (R140): the larger of the two arrays'. -/
def State.nActive (s : State) (c : Nat) : Nat := max (s.actives c .hs).length (s.actives c .ls).length

/-- CA_STAT.ACTIVE shows n − 1 (R165). -/
def State.showActive (s : State) (c : Nat) : State := s.wr F.CA_STAT_ACTIVE c (s.nActive c - 1)

-- Retirement, derating, WORN

/-- Retired segments of an array (R162). -/
def State.retired (s : State) (c : Nat) (a : Arr) : Nat :=
  match a with | .hs => s.rd F.CA_COUNT_HS_RET c | .ls => s.rd F.CA_COUNT_LS_RET c

/-- The array value of R157. -/
def arrayRating (n r : Nat) : Nat := if 100 * r ≤ 12 * n then 6000 else 6000 * 100 * (n - r) / (88 * n)

/-- The segment map change record (R162). -/
def State.mapRec (s : State) (c : Nat) (a : Arr) (g b cause health : Nat) : State :=
  s.emit 0x07 0x0D (bytes 1 c ++ bytes 1 a.idx ++ bytes 2 g ++ bytes 1 b ++ bytes 1 cause ++ bytes 1 health
    ++ bytes 1 (s.rd F.CA_STAT_DERATED c + 2 * s.rd F.CA_STAT_WORN c + 4 * s.rd F.CA_STAT_LOST c
      + 8 * s.rd F.CA_STAT_MAP_LOST c)
    ++ bytes 2 (s.rd F.CA_COUNT_HS_RET c) ++ bytes 2 (s.rd F.CA_COUNT_LS_RET c) ++ bytes 2 (s.rd F.CA_STAT_I_EFF c)
    ++ bytes 2 0)

/-- A status-only segment map change record. R162 gives its health 0xFF alone: array 0, segment 0xFFFF, bank 0 and cause 0 are the
model's (DESIGN CHOICE, log 36). -/
def State.mapStatus (s : State) (c : Nat) : State := s.mapRec c .hs 0xFFFF 0 0 0xFF

/-- Recompute I_EFF, DERATED and WORN of a channel (R157, R158); where `say`, each flag that is set is reported (R162, R163).
WORN never clears: the map that it follows from outlives every reset. -/
def State.derate (s : State) (c : Nat) (say : Bool) : State :=
  let hs := s.retired c .hs
  let ls := s.retired c .ls
  let eff := min (arrayRating 1024 hs) (arrayRating 1536 ls)
  let newD := decide (eff < 6000) && !s.flag F.CA_STAT_DERATED c
  let worn := decide (1024 ≤ 4 * hs) || decide (1536 ≤ 4 * ls)
  let newW := worn && !s.flag F.CA_STAT_WORN c
  let s := (s.wr F.CA_STAT_I_EFF c eff).wr F.CA_STAT_DERATED c (b2n (decide (eff < 6000)))
  let s := if worn then s.wr F.CA_STAT_WORN c 1 else s
  let s := s.wr F.CA_SUMMARY_DERATED 0 (maskOf 12 (s.flag F.CA_STAT_DERATED))
    |>.wr F.CA_SUMMARY_WORN 0 (maskOf 12 (s.flag F.CA_STAT_WORN))
  let s := s.limits
  let s := if newD && say then (s.mapStatus c).raise 0x07 0x03 { unit := c } else s
  if newW && say then (s.mapStatus c).raise 0x07 0x04 { unit := c } else s

/-- Count a retirement that was not one before. -/
def State.countRetired (s : State) (c : Nat) (a : Arr) : State :=
  match a with
  | .hs => s.wr F.CA_COUNT_HS_RET c (s.rd F.CA_COUNT_HS_RET c + 1)
  | .ls => s.wr F.CA_COUNT_LS_RET c (s.rd F.CA_COUNT_LS_RET c + 1)

/-- Put a segment into a retired state and count it, with its cause and CA_LAST; the map's save is owed (R138, R159). -/
def State.markRetired (s : State) (c : Nat) (a : Arr) (g cause : Nat) (h : Health) : State :=
  let was := (s.seg c a g).health.retired
  let s := s.setSeg c a g (fun x => { x with health := h, cause, suspect := false, linkOpen := x.linkOpen || h == .retiredLink })
  let s := if was then s else s.countRetired c a
  let s := (s.wr F.CA_LAST_ARRAY c a.idx).wr F.CA_LAST_SEG c g |>.wr F.CA_LAST_CAUSE c cause
  let s := { s with cist := { s.cist with lastCause := s.cist.lastCause.put (arrKey c a) cause } }
  (s.owe (c * 8 + a.idx * 4 + bankOf a g / 4) false).owe (96 + c) true

/-- Take a segment out of whatever the probe engine does with it. -/
def State.dropProbe (s : State) (c : Nat) (a : Arr) (g : Nat) : State :=
  let k := arrKey c a
  let p (t : Tab Nat) : Tab Nat := if t.at k = g + 1 then t.put k 0 else t
  let s := { s with cist := { s.cist with
    probing := p s.cist.probing, probeNext := p s.cist.probeNext
    leaking := s.cist.leaking.put k ((s.cist.leaking.at k).filter (· != g)) } }
  s.wr F.CA_STAT_PROBING c (b2n (s.cist.probing.at (arrKey c .hs) != 0 || s.cist.probing.at (arrKey c .ls) != 0))

/-- Retire a segment for good (R138): nothing happens to a RETIRED_LINK one, nor to a RETIRED_GATE one unless its link has
opened. -/
def State.retire (s : State) (c : Nat) (a : Arr) (g cause : Nat) (h : Health) : State :=
  let old := (s.seg c a g).health
  if old = .retiredLink ∨ (old = .retiredGate ∧ h = .retiredGate) ∨ segsOf a ≤ g then s
  else
    let s := (s.dropProbe c a g).markRetired c a g cause h
    -- R157: I_EFF and the running limits before the record that shows them
    let t := s.derate c false
    let t := t.mapRec c a g (bankOf a g) cause h.code
    (t.wr F.CA_STAT_DERATED c (s.rd F.CA_STAT_DERATED c)).wr F.CA_STAT_WORN c (s.rd F.CA_STAT_WORN c) |>.derate c true

-- Adaptation

/-- Good segments of a bank: GOOD or RESTING (R140, R145). -/
def State.goodIn (s : State) (c : Nat) (a : Arr) (b : Nat) : Nat :=
  s.bankCount c a b (fun x => x.health == .good || x.health == .resting)

/-- The banks of an array that can be active, the active ones first, in ascending index (DEDUCED, log 12). -/
def State.bankOrder (s : State) (c : Nat) (a : Arr) : List Nat :=
  (s.actives c a).filter (s.usable c a) ++ s.spares c a

/-- The least number of banks, taken in order, whose short-time capacity 1.5 A × good / size reaches the limit (R140). -/
def floorOf (size limit : Nat) : List Nat → Nat → Nat → Nat
  | [], _, n => n
  | g :: gs, acc, n => if limit * size ≤ acc * 1500 then n else floorOf size limit gs (acc + g) (n + 1)

/-- n_floor (R140). -/
def State.nFloor (s : State) (c : Nat) : Nat :=
  let lim := s.rd F.B_STAT_ILIM_RUN c
  let f (a : Arr) := floorOf (bankSize a) lim ((s.bankOrder c a).map (s.goodIn c a)) 0 0
  max (f .hs) (f .ls)

/-- n_target for an average channel current in mA (R140). -/
def State.nTarget (s : State) (c iAvg : Nat) : Nat :=
  min 16 (max (max (ceilDiv (20 * iAvg) (s.rd F.CA_STAT_I_EFF c)) (s.nFloor c)) (s.cf F.CA_CFG_MIN_BANKS c + 1))

/-- The bank of a list with the least or the most wear; the first of equals. -/
def pickWear (w : Nat → Nat) (least : Bool) : List Nat → Option Nat
  | [] => none
  | b :: bs => match pickWear w least bs with
    | none => some b
    | some x => if (if least then w x < w b else w b < w x) then some x else some b

/-- The wear of a bank (R142). -/
def State.wear (s : State) (c : Nat) (a : Arr) (b : Nat) : Nat := s.rd F.CA_WEAR_WEAR (bankKey c a b)

/-- Add the least-worn usable bank to an array, or take its most-worn one away (DEDUCED, log 12). -/
def State.addBank (s : State) (c : Nat) (a : Arr) : State :=
  match pickWear (s.wear c a) true (s.spares c a) with
  | some b => s.setBank c a b true
  | none => s
def State.dropBank (s : State) (c : Nat) (a : Arr) : State :=
  match pickWear (s.wear c a) false (s.actives c a) with
  | some b => s.setBank c a b false
  | none => s

/-- Bring an array to `n` active banks by at most one change. -/
def State.stepBanks (s : State) (c : Nat) (a : Arr) (n : Nat) : State :=
  let have_ := (s.actives c a).length
  if have_ < n then s.addBank c a else if n < have_ then s.dropBank c a else s

/-- Add banks to an array until `n` are active, as far as there are any to add. -/
def State.fillBanks (s : State) (c : Nat) (a : Arr) (n : Nat) : State :=
  iterState (fun s => if (s.actives c a).length < n then s.addBank c a else s) 16 s

/-- Recompute n where the floor has risen above it (R149, R154). -/
def State.renewBanks (s : State) (c n : Nat) : State :=
  let m := max n (s.nFloor c)
  ((s.fillBanks c .hs m).fillBanks c .ls m).showActive c

/-- With ADAPT_EN = 0 every bank with a working driver is active (R140). -/
def State.allBanks (s : State) (c : Nat) : State := s.renewBanks c 16

/-- A swap that clears ADAPT_EN acts at once (R140). -/
def State.adaptApply (s : State) : State :=
  (List.range 12).foldl (fun s c => if s.con F.CA_CFG_ADAPT_EN c then s else s.allBanks c) s

/-- Charge the active banks' wear for 50 µs at I_avg / n each (R146). -/
def State.chargeWear (s : State) (c iAvg : Nat) : State :=
  let n := s.nActive c
  if n = 0 then s else
  let q := iAvg * 720720 / n
  let unit := 72000000 * 720720
  [Arr.hs, Arr.ls].foldl (fun s a => (List.range 16).foldl (fun s b =>
    if s.bankActive c a b then
      let k := bankKey c a b
      let t := s.cist.wearRest.at k + q
      let s := { s with cist := { s.cist with wearRest := s.cist.wearRest.put k (t % unit) } }
      if unit ≤ t then s.wr F.CA_WEAR_WEAR k (satAdd 0xFFFFFFFF (s.rd F.CA_WEAR_WEAR k) (t / unit)) else s
    else s) s) s

/-- ADAPT_STEP (R140, R141, R146): tADAPT_STEP at an average channel current in mA. n rises by one bank toward n_target, and
falls by one when n_target ≤ n − 2; while frozen it stays. With ADAPT_EN = 0 there is no adaptation. -/
def adaptStep (c iAvg : Nat) (s : State) : State :=
  let s := s.chargeWear c iAvg
  if !s.con F.CA_CFG_ADAPT_EN c then s.allBanks c
  else if s.flag F.CA_STAT_FROZEN c then s
  else
    let n := s.nActive c
    let t := s.nTarget c iAvg
    let m := if n < t then n + 1 else if t + 2 ≤ n then n - 1 else n
    ((s.stepBanks c .hs m).stepBanks c .ls m).showActive c

-- Probing

/-- A segment can be probed now: RESTING or GOOD in an inactive bank; RESTING in an active bank while the rest of its array conducts
(R138, R147). -/
def State.probeable (s : State) (c : Nat) (a : Arr) (g : Nat) : Bool :=
  let h := (s.seg c a g).health
  if s.bankActive c a (bankOf a g) then h == .resting && s.chanSwitches c else h == .resting || h == .good

/-- The segment among a list that was probed longest ago; the lowest index among equals. -/
def oldestProbed (p : Nat → Nat) : List Nat → Option Nat
  | [] => none
  | g :: gs => match oldestProbed p gs with
    | none => some g
    | some x => if p x < p g then some x else some g

/-- The next segment of an array to probe (R139, R147, R149): the one CA_CTL.PROBE named, then those of a bank with a
leaking gate, then SUSPECT ones, then the one probed longest ago. -/
def State.nextProbe (s : State) (c : Nat) (a : Arr) : Option Nat :=
  let k := arrKey c a
  let named := s.cist.probeNext.at k
  if named ≠ 0 ∧ s.probeable c a (named - 1) = true then some (named - 1)
  else
    let ok := (List.range (segsOf a)).filter (s.probeable c a)
    let leak := ok.filter (fun g => (s.cist.leaking.at k).contains g)
    let sus := ok.filter (fun g => (s.seg c a g).suspect)
    oldestProbed (fun g => (s.seg c a g).probed) (if leak.isEmpty then (if sus.isEmpty then ok else sus) else leak)

/-- PROBE_START (R147): the engine picks the next segment of an array. -/
def probeStart (c : Nat) (a : Arr) (s : State) : State :=
  let k := arrKey c a
  if s.cist.probing.at k ≠ 0 then s
  else match s.nextProbe c a with
    | none => s
    | some g =>
      let s := s.setSeg c a g (fun x => { x with wasResting := x.health == .resting, health := .probing })
      let next := if s.cist.probeNext.at k = g + 1 then s.cist.probeNext.put k 0 else s.cist.probeNext
      { s with cist := { s.cist with probing := s.cist.probing.put k (g + 1), probeNext := next } }
        |>.wr F.CA_STAT_PROBING c 1

/-- Insert a number into an ascending list. -/
def insertAsc (x : Nat) : List Nat → List Nat
  | [] => [x]
  | y :: ys => if x ≤ y then x :: y :: ys else y :: insertAsc x ys

/-- Twice the median of a list: the sum of the middle two of an even number (DEDUCED, log 36); none of an empty list. -/
def median2 (l : List Nat) : Option Nat :=
  let a := l.foldr insertAsc []
  match a[(a.length - 1) / 2]?, a[a.length / 2]? with
  | some x, some y => some (x + y)
  | _, _ => none

/-- The V_TH of a bank's segments at their last completed probes (R147); those of segments that have been retired since still count
(DESIGN CHOICE, log 36: the rule does not say). -/
def State.bankVth (s : State) (c : Nat) (a : Arr) (b : Nat) : List Nat :=
  (List.range (bankSize a)).filterMap (fun i =>
    let v := (s.seg c a (b * bankSize a + i)).vth
    if v = 0 then none else some (v - 1))

/-- The on-resistance proxy of a segment lies above V_TH_LIM (R147); without a completed probe in its bank there is no median and
it passes (DEDUCED, log 36). -/
def State.vthFails (s : State) (c : Nat) (a : Arr) (g vth : Nat) : Bool :=
  match median2 (s.bankVth c a (bankOf a g)) with
  | some m => decide (m + 2 * (s.cf F.CA_PROBE_VTH_LIM c * 5) < 2 * vth)
  | none => false

/-- PROBE_DONE (R138, R139, R147): the readings are compared with I_GLEAK_MAX and V_TH_LIM. -/
def probeDone (c : Nat) (a : Arr) (p : ProbeResult) (s : State) : State :=
  let k := arrKey c a
  if s.cist.probing.at k = 0 then s
  else
    let g := s.cist.probing.at k - 1
    let x := s.seg c a g
    let vth := s.vthFails c a g p.vth
    let s := { s with cist := { s.cist with probes := s.cist.probes + 1 } }
    let s := s.setSeg c a g (fun x => { x with
      probed := s.cist.probes, suspect := vth, vth := p.vth + 1, wasResting := false
      health := if x.wasResting then .resting else .good })
    let s := s.dropProbe c a g
    if s.cf F.CA_PROBE_GLEAK_LIM c * 10 < p.leak then
      let s := s.retire c a g 1 .retiredGate
      s.raise 0x07 0x06 { unit := c, cause := 1, val := s.crossed 0x07 0x06 c, cnt := s.retired c a }
    else if vth && x.suspect then
      let s := s.retire c a g 2 .retiredGate
      s.raise 0x07 0x06 { unit := c, cause := 2, val := p.vth, cnt := s.retired c a }
    else s

-- Load steps and rotation

/-- LOAD_STEP_DETECTED (R141, R148): n and rotation freeze; probes are abandoned. -/
def loadStepDetected (c : Nat) (s : State) : State := (s.abandonProbes c).wr F.CA_STAT_FROZEN c 1

/-- FREEZE_END (R141): tADAPT_HOLD after the last load step. -/
def freezeEnd (c : Nat) (s : State) : State := s.wr F.CA_STAT_FROZEN c 0

/-- The next `n` of a bank's segments after index `i` that satisfy `p`, wrapping (R142). -/
def takeFrom (size i n : Nat) (p : Nat → Bool) : List Nat :=
  (((List.range size).map (fun k => (i + k) % size)).filter p).take n

/-- Advance the resting segments of a bank to its next CA_CFG.REST GOOD segments (R142, R145). -/
def State.advanceRest (s : State) (c : Nat) (a : Arr) (b : Nat) : State :=
  let size := bankSize a
  let base := b * size
  let old := (List.range size).filter (fun i => (s.seg c a (base + i)).health == .resting)
  let next := takeFrom size (s.cist.restFrom.at (bankKey c a b)) (s.cf F.CA_CFG_REST c)
    (fun i => (s.seg c a (base + i)).health == .good)
  let s := old.foldl (fun s i => s.setSeg c a (base + i) (fun x => { x with health := .good })) s
  let s := next.foldl (fun s i => s.setSeg c a (base + i) (fun x => { x with health := .resting })) s
  match next.getLast? with
  | some i => { s with cist := { s.cist with restFrom := s.cist.restFrom.put (bankKey c a b) ((i + 1) % size) } }
  | none => s

/-- Record the exchange in progress of an array; (0, 0) for none. -/
def State.setSwap (s : State) (c : Nat) (a : Arr) (x : Nat × Nat) : State :=
  { s with cist := { s.cist with swap := s.cist.swap.put (arrKey c a) x } }

/-- Begin to exchange the most-worn active bank for the least-worn inactive one with less wear: the incoming bank is enabled beside
the outgoing one (R142, R143). -/
def State.swapBanks (s : State) (c : Nat) (a : Arr) : State :=
  let w := s.wear c a
  match pickWear w false (s.actives c a), pickWear w true (s.spares c a) with
  | some o, some i => if w i < w o then (s.setBank c a i true).setSwap c a (i + 1, o + 1) else s
  | _, _ => s

/-- An array's exchange ends: the outgoing bank is disabled (R143). -/
def State.endSwap (s : State) (c : Nat) (a : Arr) : State :=
  let o := (s.cist.swap.at (arrKey c a)).2
  if o = 0 then s else (s.setBank c a (o - 1) false).setSwap c a (0, 0)

/-- The rotation in progress of a channel ends (R143); a flush ends it at once, its incoming banks enabled (R161). -/
def State.endRotation (s : State) (c : Nat) : State :=
  if s.cist.rotEnd.at c = 0 then s
  else
    let s := { s with cist := { s.cist with rotEnd := s.cist.rotEnd.put c 0 } }
    ((s.endSwap c .hs).endSwap c .ls).wr F.CA_STAT_ROTATING c 0

/-- A rotation (R142, R143): the resting segments advance, and an exchange lasts one full switching period (R171), to the end of the
microsecond in which it ends; a probe in progress is abandoned (R148). One that still ran ends first (DEDUCED, log 36). -/
def State.rotate (s : State) (c : Nat) : State :=
  let one (s : State) (a : Arr) : State :=
    let s := s.swapBanks c a
    (List.range 16).foldl (fun s b => if s.bankActive c a b && !s.outgoing c a b then s.advanceRest c a b else s) s
  let s := one (one ((s.endRotation c).abandonProbes c) .hs) .ls
  if (s.cist.swap.at (arrKey c .hs)).2 = 0 ∧ (s.cist.swap.at (arrKey c .ls)).2 = 0 then s
  else ({ s with cist := { s.cist with rotEnd := s.cist.rotEnd.put c (s.now + ceilDiv (s.chanPeriod (c + 1)) 6400) } } : State).wr F.CA_STAT_ROTATING c 1

/-- The rotations whose switching period is over end (R143). -/
def State.rotationsEnd (s : State) : State :=
  s.cist.rotEnd.cells.foldl (fun s x => if x.2 ≤ s.now then s.endRotation x.1 else s) s

/-- What refuses a rotation: BUSY, STATE, or nothing (R144). -/
def State.rotateErr (s : State) (c : Nat) : Nat :=
  let st := s.rd F.B_STAT_STATE c
  if s.flag F.CA_STAT_FROZEN c || s.flag F.CA_STAT_FLUSHING c || st == 8 then errBusy
  else if arraysOff st || st == 0xA || st == 9 || s.flag F.CA_STAT_LOST c then errState
  else errOk

/-- A ROTATE step or CA_CTL.ROTATE (R144). -/
def State.askRotate (s : State) (c : Nat) : Nat × State :=
  if s.rotateErr c = errOk then (errOk, s.rotate c) else (s.rotateErr c, s)

/-- An automatic rotation (R144): skipped where a commanded one would be refused. -/
def State.autoRotate (s : State) (c : Nat) : State := (s.askRotate c).2

-- Drivers

/-- A bank leaves an exchange in progress: the outgoing one is gone, or the outgoing one stays for the incoming one (R143). -/
def State.leaveSwap (s : State) (c : Nat) (a : Arr) (b : Nat) : State :=
  let x := s.cist.swap.at (arrKey c a)
  if x.1 = b + 1 ∨ x.2 = b + 1 then s.setSwap c a (0, 0) else s

/-- A bank's driver is lost (R149): its segments become RETIRED_GATE with cause DRIVER, one record for the bank, and a bank
with a working driver takes its place. A bank that is known to have no working driver loses those of its segments that a map write
cut short has brought back (R138, R159). -/
def State.loseDriver (s : State) (c : Nat) (a : Arr) (b : Nat) : State :=
  if !s.driverOk c a b && s.bankCount c a b (fun x => !x.health.retired) == 0 then s
  else
    let was := s.bankActive c a b
    let n := s.nActive c
    let s := (s.leaveSwap c a b).wr F.CA_BANK_DRIVER_OK (bankKey c a b) 0
    let s := s.raise 0x07 0x02 { unit := c, cause := 3, cnt := s.retired c a + s.bankCount c a b (fun x => !x.health.retired) }
    let s := (List.range (bankSize a)).foldl (fun s i =>
      let g := b * bankSize a + i
      if (s.seg c a g).health.retired then s else (s.dropProbe c a g).markRetired c a g 3 .retiredGate) s
    let s := (s.setBank c a b false).owe (96 + c) true
    let d := (s.rd F.CA_STAT_DERATED c, s.rd F.CA_STAT_WORN c)
    let t := (s.derate c false).mapRec c a 0xFFFF b 3 4
    let s := ((t.wr F.CA_STAT_DERATED c d.1).wr F.CA_STAT_WORN c d.2).derate c true
    if was then s.renewBanks c n else s.showActive c

/-- BANK_DRIVER_LOSS (R149), at a switching edge: a channel that does not switch has none; a flush goes on with the remaining banks
(R161). `leaking`: the output matches its command and only the charge per edge is high; the bank is made inactive and its segments
are probed in turn. -/
def bankDriverLoss (c : Nat) (a : Arr) (b : Nat) (leaking : Bool) (s : State) : State :=
  if !s.chanSwitches c && !s.flushes c a then s
  else if leaking then
    let todo := ((List.range (bankSize a)).map (b * bankSize a + ·)).filter (fun g => !(s.seg c a g).health.retired)
    let n := s.nActive c
    let s := (s.leaveSwap c a b).setBank c a b false
    let s := { s with cist := { s.cist with
      leaking := s.cist.leaking.put (arrKey c a) (s.cist.leaking.at (arrKey c a) ++ todo) } }
    (s.fillBanks c a n).showActive c
  else s.loseDriver c a b

-- Scans

/-- Links of a channel that are open while the map does not say so: their map write was cut short (R159). -/
def State.openLinks (s : State) (c : Nat) : List (Arr × Nat) :=
  s.cist.segs.cells.filterMap (fun x =>
    if x.1 / 4096 = c ∧ x.2.linkOpen = true ∧ x.2.health ≠ .retiredLink then some (arrOf (x.1 % 4096 / 2048), x.1 % 2048) else none)

/-- A scan finds links open, those of `opened` and those that State knows: each one not in the map becomes RETIRED_LINK with a cause
(R136, R138). -/
def State.scan (s : State) (c : Nat) (opened : List (Arr × Nat)) (cause : Nat) (say : Bool) : State :=
  (s.openLinks c ++ opened).foldl (fun s x =>
    if (s.seg c x.1 x.2).health = .retiredLink ∨ segsOf x.1 ≤ x.2 then s
    else
      let s := s.retire c x.1 x.2 cause .retiredLink
      if say then s.raise 0x07 0x07 { unit := c, cause, cnt := s.retired c x.1 } else s) s

/-- CA_BACKGROUND_SCAN (R136, R160): cause OPEN. A scan that a flush has met starts again after it (R161). -/
def caBackgroundScan (c : Nat) (opened : List (Arr × Nat)) (s : State) : State :=
  if s.flag F.CA_STAT_FLUSHING c then s else s.scan c opened 5 true

-- Shorts and flushes

/-- A channel that switches resumes regulation from the present output voltage (R151, R153, R154), unless its pair's partner has kept the
rail at its reference (R155). -/
def State.reenter (s : State) (c : Nat) : State :=
  if !s.chanSwitches c || s.partnerRuns c then s else s.refFromOutput (s.leadRail (c + 1))

/-- No flush is in progress any more. -/
def State.flushOver (s : State) (c : Nat) : State :=
  ({ s with cist := { s.cist with suspect := s.cist.suspect.put c 0 } } : State).wr F.CA_STAT_FLUSHING c 0

/-- A channel's arrays are lost (R156). -/
def State.arraysLost (s : State) (c : Nat) : State :=
  let s := ((s.abandonProbes c).flushOver c).wr F.CA_STAT_LOST c 1
  let s := (s.setSt (c + 1) (fun x => { x with flushCool := false, mismatchPend := false })).mapStatus c
  s.chanLost c (fun s => s.raise 0x07 0x0A { unit := c })

/-- The suspect array of an internal short, as the flush holds it. -/
def suspectCode : ShortKind → Nat
  | .hsShort => 1 | .lsShort => 2 | .external => 0

/-- SHORT_TRIGGER (R150, R151, R156). An external short is counted and nothing more. Otherwise both arrays go off; unless the
diagnosis confirms the short, regulation resumes from the present output; a confirmed one starts a flush, or the channel is LOST where VHDR is
below V_FLUSH_MIN, both arrays show a stuck node, or more than FLUSH_MAX shorts fall within one second. Only a high-side short shows
on a channel that does not switch (R151, R161). A rotation stops with its incoming banks (R161). -/
def shortTrigger (c : Nat) (k : ShortKind) (confirmed bothStuck vhdrOk : Bool) (s : State) : State :=
  if s.flag F.CA_STAT_LOST c || s.flag F.CA_STAT_FLUSHING c || (k != .hsShort && !s.chanSwitches c) then s
  else match k with
  | .external =>
    let s := s.bump F.CA_EVT_EXT_SHORT c
    s.raise 0x07 0x09 { unit := c, cnt := s.rd F.CA_EVT_EXT_SHORT c }
  | _ =>
    let s := (s.endRotation c).abandonProbes c
    if !confirmed then
      let s := (s.reenter c).bump F.CA_EVT_UNCONF c
      s.raise 0x07 0x08 { unit := c, cnt := s.rd F.CA_EVT_UNCONF c }
    else
      let times := (s.now :: (s.cist.shorts.at c).filter (fun t => decide (s.now ≤ t + 1000000))).take 16
      let s := { s with cist := { s.cist with shorts := s.cist.shorts.put c times } }
      if bothStuck || !vhdrOk || decide (s.cf F.CA_GCFG_FLUSH_MAX 0 < times.length) then s.arraysLost c
      else
        let st := s.stg (c + 1)
        let s := { s with cist := { s.cist with suspect := s.cist.suspect.put c (suspectCode k) } }
        let s := s.wr F.CA_STAT_FLUSHING c 1
        if switching st then (s.setSt (c + 1) (fun x => { x with ret := st })).setStg (c + 1) 7 else s

/-- A flush has ended and cleared the short (R153, R154): n is recomputed, the channel regulates again in the state it was in, from the
present output voltage, and a mismatch that waited starts its takeover (R194). The success follows the scan, whose retirements have been reported (R154). -/
def State.flushOk (s : State) (c : Nat) : State :=
  let r := c + 1
  let s := ((s.flushOver c).renewBanks c (s.nActive c)).bump F.CA_EVT_FLUSH_OK c
  let s := s.raise 0x07 0x01 { unit := c, cause := 4, cnt := s.rd F.CA_EVT_FLUSH_OK c }
  let s := (if s.stg r = 7 then s.setStg r (s.stages.at r).ret else s).reenter c
  let pend := (s.stages.at r).mismatchPend
  let s := s.setSt r (fun x => { x with flushCool := false, mismatchPend := false })
  if pend then (if h : c < 12 then lockstepMismatch (.b ⟨c, h⟩) s else s) else s

/-- A flush ends (R153, R155): its scan, the rail's flush counter, and whether the short is cleared. -/
def State.flushScan (s : State) (c : Nat) (x : FlushScan) : Bool × State :=
  let fresh := x.opened.any (fun y => (s.seg c y.1 y.2).health != .retiredLink)
  let s := (s.scan c x.opened 4 false).count F.SEQ_CNT2_FLUSH (c + 1)
  (fresh && !x.stuck, s)

/-- FLUSH_END (R153): success, or both arrays stay off for tFLUSH_COOL. -/
def flushEnd (c : Nat) (x : FlushScan) (s : State) : State :=
  if s.flag F.CA_STAT_FLUSHING c && !(s.stages.at (c + 1)).flushCool then
    let (ok, s) := s.flushScan c x
    if ok then s.flushOk c
    else (s.bump F.CA_EVT_FLUSH_FAIL c).setSt (c + 1) (fun x => { x with flushCool := true })
  else s

/-- SECOND_FLUSH (R153, R156): if it fails the channel is LOST. -/
def secondFlush (c : Nat) (x : FlushScan) (s : State) : State :=
  if s.flag F.CA_STAT_FLUSHING c && (s.stages.at (c + 1)).flushCool then
    let (ok, s) := s.flushScan c x
    if ok then s.flushOk c else (s.bump F.CA_EVT_FLUSH_FAIL c).arraysLost c
  else s

/-- WEAR_SAVE (R146). -/
def wearSave (s : State) : State := (List.range 12).foldl (fun s c => s.owe (96 + c) true) s

-- CA_CTL

/-- What refuses every CA_CTL command (R165). -/
def State.caErr (s : State) (c : Nat) : Nat :=
  if s.flag F.CA_STAT_FLUSHING c then errBusy
  else if s.flag F.CA_STAT_LOST c || s.follower (c + 1) then errState else errOk

/-- CA_CTL.RETIRE of a segment (R138, R165). -/
def State.askRetire (s : State) (c : Nat) (a : Arr) (g : Nat) : Nat × State :=
  if (s.seg c a g).health.retired then (errState, s) else (errOk, s.retire c a g 6 .retiredGate)

/-- CA_CTL.PROBE of a segment (R147, R165). -/
def State.askProbe (s : State) (c : Nat) (a : Arr) (g : Nat) : Nat × State :=
  if (s.seg c a g).health.retired then (errState, s)
  else (errOk, { s with cist := { s.cist with probeNext := s.cist.probeNext.put (arrKey c a) (g + 1) } })

-- Initialisation

/-- The retired segments of a channel's array, counted in the map (R160). -/
def State.mapCount (s : State) (c : Nat) (a : Arr) : Nat :=
  (s.cist.segs.cells.filter (fun x => decide (x.1 / 2048 = arrKey c a) && x.2.health.retired)).length

/-- Banks that the map marks without a working driver while some of their segments are not retired (R138, R149). -/
def State.deadBanks (s : State) (c : Nat) : List (Arr × Nat) :=
  [Arr.hs, Arr.ls].flatMap (fun a => ((List.range 16).filter (fun b => !s.driverOk c a b)).map (fun b => (a, b)))

/-- One channel's initialisation (R160): maps, counts and latches, the scan, the driver self-test. `lost`: neither copy of a map
chunk was valid. Only new retirements, MAP_LOST and what they set are reported. -/
def State.initChannel (s : State) (c : Nat) (opened : List (Arr × Nat)) (drivers : List (Arr × Nat)) (lost : Bool) : State :=
  let s := ((s.wr F.CA_COUNT_HS_RET c (s.mapCount c .hs)).wr F.CA_COUNT_LS_RET c (s.mapCount c .ls)).derate c false
  let s := [Arr.hs, Arr.ls].foldl (fun s a => { s with cist := { s.cist with
    active := s.cist.active.put (arrKey c a) (maskOf 16 (s.driverOk c a)) } }) s
  let s := if lost then ((s.wr F.CA_STAT_MAP_LOST c 1).mapStatus c).raise 0x07 0x05 { unit := c } else s
  let s := s.scan c opened 5 true
  let s := (s.deadBanks c ++ drivers).foldl (fun s d => s.loseDriver c d.1 d.2) s
  s.showActive c

end Sys2Proof.Machine
end

