-- ==== Sys2Proof/Machine/Budget.lean ====
section
/-! DEFINITION. The power sums of R31 over one configuration bank, read through `rd`: the efficiency table of B0 to B11
(R191, R192), the stages fed from VHDR (R30, R210 to R216), and the sums that check 0x6 of R71 and a lend start (R329)
take. Powers are exact fractions in µW. -/

namespace Sys2Proof.Machine

open Sys2Proof

/-- A fraction; sums and comparisons are exact, and nothing is reduced. -/
structure Frac where
  num : Nat
  den : Nat := 1
deriving DecidableEq, Repr, Inhabited

def Frac.add (a b : Frac) : Frac := ⟨a.num * b.den + b.num * a.den, a.den * b.den⟩
def Frac.mul (a b : Frac) : Frac := ⟨a.num * b.num, a.den * b.den⟩

/-- `a > b`. -/
def Frac.gt (a b : Frac) : Bool := decide (b.num * a.den < a.num * b.den)

/-- The sum of a list. -/
def Frac.sum (l : List Frac) : Frac := l.foldl Frac.add ⟨0, 1⟩

/-- How the checks read a bank. -/
abbrev Rd := Fld → Nat → Nat

-- Rails of a bank

/-- Rail `r` is a follower under the bank (R7). -/
def followerIn (rd : Rd) (r : Nat) : Bool := decide (2 ≤ r) && decide (r ≤ 12) && r % 2 == 0 && rd F.B_CFG_PAIR (r - 2) == 1

/-- Rail `r` is the leader of a pair under the bank. -/
def leaderIn (rd : Rd) (r : Nat) : Bool := decide (1 ≤ r) && decide (r ≤ 11) && r % 2 == 1 && rd F.B_CFG_PAIR (r - 1) == 1

/-- The declared worst-case load of a rail in mA, without its LDOs. -/
def declared (rd : Rd) (r : Nat) : Nat :=
  if r = 0 then 0 else if r ≤ 12 then rd F.B_DECL_I_LOAD (r - 1) else if r ≤ 14 then rd F.X_DECL_I_LOAD (r - 13)
  else if r ≤ 20 then rd F.L_ILIM_I_LOAD (r - 15) else rd F.S_DECL_I_LOAD (r - 21)

/-- A rail is enabled (R192): no field says so. DEDUCED (log 13): rail 0 always; another rail when it is in a group or declares
a load. A follower is no rail. -/
def enabledIn (rd : Rd) (r : Nat) : Bool :=
  !followerIn rd r && (r == 0 || decide (rd F.SQ_CFG_GROUP r < 8) || decide (declared rd r ≠ 0))

/-- The address of a rail's declared-load field (R31, R157). -/
def declAddr (r : Nat) : Nat :=
  if r ≤ 12 then 0x0C2C + (r - 1) * 0x80 else if r ≤ 14 then 0x0A94 + (r - 13) * 0x40
  else if r ≤ 20 then 0x0B08 + (r - 15) * 0x10 else 0x0B74 + (r - 21) * 0x10

/-- HDR's setpoint in mV. -/
def vhdrOf (rd : Rd) : Nat := rd F.HDR_VSET_VSET 0 * 10

/-- The input rail of LDO `k`: a B rail, or none for VHDR (R213). -/
def ldoInput (rd : Rd) (k : Nat) : Option Nat :=
  if rd F.L_CFG_IN_SEL k < 12 then some (rd F.L_CFG_IN_SEL k + 1) else none

/-- The load of a B rail in mA with the enabled LDOs that it feeds (R30). -/
def loadOf (rd : Rd) (r : Nat) : Nat :=
  declared rd r + (((List.range 6).filter (fun k =>
    enabledIn rd (15 + k) && ldoInput rd k == some r)).map (fun k => rd F.L_ILIM_I_LOAD k)).foldl (· + ·) 0

-- Efficiency of B0 to B11

/-- The table of R191: current in mA, then the percentages at `effVolts`. -/
def effRows : List (Nat × List Nat) :=
  [(500, [68, 73, 77, 82, 87, 90, 90]), (1000, [73, 78, 82, 86, 90, 92, 92]), (2000, [76, 81, 85, 88, 91, 93, 93]),
   (3000, [77, 82, 85, 88, 92, 93, 94]), (4000, [77, 82, 85, 88, 91, 93, 93]), (5000, [76, 82, 84, 87, 91, 92, 93]),
   (6000, [75, 81, 83, 86, 90, 92, 92])]
def effVolts : List Nat := [600, 800, 1100, 1800, 3300, 5000, 5500]

/-- Linear interpolation in a table of rising abscissae, held at both ends. -/
def interp : List (Nat × Frac) → Nat → Frac
  | [], _ => ⟨0, 1⟩
  | [(_, y)], _ => y
  | (x0, y0) :: (x1, y1) :: l, x =>
    if x ≤ x0 then y0
    else if x ≤ x1 then
      ⟨y0.num * y1.den * (x1 - x) + y1.num * y0.den * (x - x0), y0.den * y1.den * (x1 - x0)⟩
    else interp ((x1, y1) :: l) x

/-- The efficiency in percent at a voltage in mV and twice a current per channel in mA (R191, R192): first along current. -/
def effAt (mv ma2 : Nat) : Frac :=
  interp ((List.range 7).map (fun j =>
    (effVolts.getD j 0, interp (effRows.map (fun r => (2 * r.1, ⟨r.2.getD j 1, 1⟩))) ma2))) mv

/-- Output power and loss of a B rail in µW (R192); a pair is computed once for each channel at half the current. -/
def polPower (rd : Rd) (r : Nat) : Frac × Frac :=
  let c := r - 1
  let n := if leaderIn rd r then 2 else 1
  let mv := rd F.B_VLIM_VMAX c * 5
  -- twice the current per channel, so that half of an odd current stays exact
  let i2 := max 1000 (loadOf rd r * 2 / n)
  let eff := effAt mv i2
  let out : Frac := ⟨mv * i2, 2⟩
  let per := rd F.B_CFG_PERIOD c
  let sw : Frac := ⟨200000 * (6400 - per), if per = 0 then 1 else per⟩
  let loss := (out.mul (⟨(100 * eff.den - eff.num) * vhdrOf rd, eff.num * 12000⟩)).add sw
  (out.mul ⟨n, 1⟩, loss.mul ⟨n, 1⟩)

-- Sums

/-- The control overhead P_CTL_RUN in µW (R31, R516). -/
def overheadUw : Frac := ⟨1100000, 1⟩

/-- The power that a rail takes from VHDR in µW (R31, R192, R212, R216). -/
def vhdrPower (rd : Rd) (r : Nat) : Frac :=
  if r = 0 || !enabledIn rd r then ⟨0, 1⟩
  else if r ≤ 12 then (polPower rd r).1.add (polPower rd r).2
  else if r ≤ 14 then
    ⟨rd F.X_VLIM_VMAX (r - 13) * 10 * declared rd r * 100, max 1 (rd F.X_DECL_EFF (r - 13))⟩
  else if r ≤ 20 then (if ldoInput rd (r - 15) = none then ⟨vhdrOf rd * declared rd r, 1⟩ else ⟨0, 1⟩)
  else ⟨vhdrOf rd * declared rd r, 1⟩

/-- The loss of an LDO in µW (R214). -/
def ldoLoss (rd : Rd) (k : Nat) : Frac :=
  let vin := match ldoInput rd k with | some r => rd F.B_VLIM_VMAX (r - 1) * 5 | none => vhdrOf rd
  if enabledIn rd (15 + k) then ⟨(vin - rd F.L_VLIM_VMIN k * 5) * rd F.L_ILIM_I_LOAD k, 1⟩ else ⟨0, 1⟩

/-- The loss of a rail's stage inside the package (R31). -/
def packageLoss (rd : Rd) (r : Nat) : Frac :=
  if !enabledIn rd r || r = 0 then ⟨0, 1⟩
  else if r ≤ 12 then (polPower rd r).2 else if 15 ≤ r ∧ r ≤ 20 then ldoLoss rd (r - 15) else ⟨0, 1⟩

/-- The output power of a B rail that is enabled (R31). -/
def polOut (rd : Rd) (r : Nat) : Frac := if 1 ≤ r ∧ r ≤ 12 ∧ enabledIn rd r = true then (polPower rd r).1 else ⟨0, 1⟩

/-- The first rail, in ascending order, at which a running sum passes its limit in µW. -/
def firstOver (f : Nat → Frac) (limit : Nat) : List Nat → Frac → Option Nat
  | [], _ => none
  | r :: rs, acc =>
    let acc := acc.add (f r)
    if acc.gt ⟨limit, 1⟩ then some r else firstOver f limit rs acc

/-- The VHDR-side power of a set of rails plus the control overhead, in µW. -/
def vhdrSum (rd : Rd) (p : Nat → Bool) : Frac :=
  ((Frac.sum (((List.range 24).filter p).map (vhdrPower rd)))).add overheadUw

/-- The header sum, and the HOLD-state well sum (R31). -/
def headerSum (rd : Rd) : Frac := vhdrSum rd (fun _ => true)
def holdSum (rd : Rd) : Frac := vhdrSum rd (fun r => r == 0 || rd F.SQ_CFG_HOLD r == 1)

/-- The pack current in mA that a VHDR-side power draws at V_CUT × CELLS and the declared efficiency is above I_DCHG_LIM
(R331, R351). -/
def overDischarge (rd : Rd) (p : Frac) : Bool :=
  -- µW × 100 / EFF / mV = mA
  (p.mul ⟨100, max 1 (rd F.WELL_BOARD_EFF 0 * (rd F.WELL_PACK_V_CUT 0 * rd F.WELL_PACK_CELLS 0))⟩).gt
    ⟨rd F.WELL_CFG_I_DCHG 0 * 100, 1⟩

end Sys2Proof.Machine
end

