-- ==== Sys2Proof/Machine/Thermistor.lean ====
section
/-! DEFINITION. The pack temperature from WELL_NTC (R326): a thermistor of resistance NOM at 25 °C and of BETA, below the bias resistor
R_NTC_BIAS of 10 kΩ. Its equation R = NOM · exp(BETA · (1/T − 1/298.15 K)) is that of every thermistor named by its beta (PRESUMED,
log 30). -/

namespace Sys2Proof.Machine

open Sys2Proof

/-- The first `n` bits of the binary logarithm of a number between 1 and 2 in 2⁻³⁰, after the point. -/
def log2Bits : Nat → Nat → Nat
  | 0, _ => 0
  | n + 1, x =>
    let y := x * x / 2 ^ 30
    if 2 ^ 31 ≤ y then 2 ^ n + log2Bits n (y / 2) else log2Bits n y

/-- The binary logarithm of a number from 1, in 2⁻²⁴. -/
def log2Fix (a : Nat) : Nat := a.log2 * 2 ^ 24 + log2Bits 24 (a * 2 ^ 30 / 2 ^ a.log2)

/-- The natural logarithm of `a / b` in 2⁻²⁴; ln 2 is 11,629,080 · 2⁻²⁴. -/
def lnRatio (a b : Nat) : Int := ((log2Fix a : Int) - log2Fix b) * 11629080 / 2 ^ 24

/-- The temperature in 0.125 °C, rounded to the nearest, of a WELL_NTC reading in 1/65,536 of its bias; NOM in 10 Ω, BETA in K (R326,
R335): 1/T = 1/298.15 + ln(R / NOM) / BETA. -/
def ntcTemp (nom beta code : Nat) : Int :=
  let l := lnRatio (1000 * code) ((65536 - code) * nom)
  let d : Int := 100 * beta * 2 ^ 24 + 29815 * l
  roundDiv (80 * 29815 * beta * 2 ^ 24 - 21852 * d) (10 * d).toNat

end Sys2Proof.Machine
end

