-- ==== Sys2Proof/Machine/Charger.lean ====
section
/-! DEFINITION. The charger (R325 to R328) and the estimator with its
learning draw (R336 to R354). Charger phases are coded as WELL_CSTAT.CHG: 0 OFF, 1 QUAL, 2 PRECHARGE, 3 CC, 4 CV, 5 TOPOFF,
6 DONE, 7 SUSPENDED, 8 FAULT. -/

namespace Sys2Proof.Machine

open Sys2Proof

-- The charger

/-- C_USE in 10 mAh (R341). -/
def State.cUse (s : State) : Nat :=
  if s.rd F.EST_CAP_C_LEARN 0 = 0 then s.cf F.EST_CFG_C_RATED 0 else s.rd F.EST_CAP_C_LEARN 0

/-- Set Q_C in µAh. -/
def State.setQc (s : State) (q : Int) : State := s.wr F.EST_QC_QC 0 (toField 32 q)

/-- Charge done (R325, R333): DEDUCED (log 30), every entry to DONE but a return from SUSPENDED reports it. A DONE reached from TOPOFF
sets Q_C to C_USE and opens the learning window (R341, R344). -/
def State.chgDone (s : State) (fromTopoff : Bool) : State :=
  let s := s.chgGo 6
  let s := if fromTopoff then
      let s := (s.setQc (s.cUse * 10000)).wr F.EST_STAT_WINDOW 0 1
      { s with est := { s.est with qDraw := 0 } }
    else s
  s.raise 0x0B 0x12 {}

/-- FOLD and DILATED (R327, R328): foldback acts above T_FOLD; more than 10 °C above it the limit is below half, and the timers
dilate. -/
def State.foldShow (s : State) : State :=
  let f : Int := s.cf F.WELL_ADJ_T_FOLD 0 * 8
  (s.wr F.WELL_CSTAT_FOLD 0 (b2n (decide (f < s.well.dieTemp)))).wr F.WELL_CSTAT_DILATED 0 (b2n (decide (f + 80 < s.well.dieTemp)))

/-- The well's floor follows the active bank, in HOLD by idle microseconds (R332). -/
def State.floorShow (s : State) : State :=
  if s.power.st = .hold then s else s.setWell (fun w => { w with floorMv := s.cf F.WELL_CFG_VREG 0 * 10 })

/-- The converter and the charger after a change of what they follow. -/
def State.wellSettle (s : State) : State := s.floorShow.foldShow.convShow.chgSettle

/-- Latch a charge fault (R328, R331): the charger stops, CHG_FAULT and its cause latch, WELL event 0x04. -/
def State.chgFault (s : State) (cause : Nat) : State :=
  let s := (s.wr F.WELL_CSTAT_CHG_FAULT 0 1).wr F.WELL_CSTAT_FLT_CAUSE 0 cause
  let s := s.bump F.WELL_EVT_CHG_FLT 0
  (s.chgSettle).raise 0x0B 0x04 { cause, cnt := s.rd F.WELL_EVT_CHG_FLT 0 }

/-- CHARGE_PHASE_CHANGE (R325). -/
def chargePhaseChange (e : ChgEvent) (s : State) : State :=
  let p := s.chg
  let n := s.cf F.WELL_PACK_CELLS 0
  match e with
  | .voltage mv =>
    if p = 1 then
      if mv < s.cf F.WELL_CHG_V_V_PRE 0 * 20 * n then s.chgGo 2
      else if mv < s.rechargeMv then s.chgGo 3 else s.chgDone false
    else if p = 3 ∧ s.chargeMv ≤ mv then s.chgGo 4 else s
  | .preHeld => if p = 2 then s.chgGo 3 else s
  | .tapered =>
    if p = 4 then
      let s := s.chgGo 5
      if s.cf F.WELL_CHG_T_T_TOPOFF 0 = 0 then s.chgDone true else s
    else s
  | .topoffOver => if p = 5 then s.chgDone true else s
  | .recharge => if p = 6 then s.chgGo 3 else s
  | .floor below => { s with well := { s.well with floorLow := below } }.chgSettle

/-- The limit of the present phase's timer in µs (R328): tPRE_MAX of PRECHARGE, tFAST_MAX of CC and CV; none in other phases. -/
def State.chgLimit (s : State) : Option Nat :=
  if s.chg = 2 then some (s.cf F.WELL_CHG_T_T_PRE 0 * 60000000)
  else if s.chg = 3 ∨ s.chg = 4 then some (s.cf F.WELL_CHG_T_T_FAST 0 * 360000000) else none

/-- CHARGE_TIMER_EXPIRY (R328): the count has reached its limit, or twice the limit has passed in wall time; cause 1 in PRECHARGE, cause 2
in CC and CV. -/
def chargeTimerExpiry (s : State) : State :=
  match s.chgLimit with
  | none => s
  | some l => if 2 * l ≤ s.well.count ∨ 2 * l ≤ s.well.wall then s.chgFault (if s.chg = 2 then 1 else 2) else s

/-- The pack temperature boundaries T1 to T4 in 0.125 °C, by 1 to 4 (R326). -/
def State.zoneEdge (s : State) (j : Nat) : Int :=
  8 * ofField 8 (match j with
    | 1 => s.cf F.WELL_ZONE_T1 0 | 2 => s.cf F.WELL_ZONE_T2 0 | 3 => s.cf F.WELL_ZONE_T3 0 | _ => s.cf F.WELL_ZONE_T4 0)

/-- A temperature lies above boundary `j`, seen from a zone: a colder zone than NORMAL is left 2 °C above its upper boundary, a warmer one
2 °C below its lower one (R326; which side takes the hysteresis, DESIGN CHOICE, log 30). From an NTC fault there is none. -/
def State.aboveEdge (s : State) (zone j : Nat) (t : Int) : Bool :=
  let e := s.zoneEdge j
  if zone = 5 then decide (e ≤ t)
  else if j ≤ 2 then decide ((if zone < j then e + 16 else e) ≤ t) else decide ((if zone < j then e else e - 16) ≤ t)

/-- The zone of a temperature in 0.125 °C, seen from a zone, coded as WELL_CSTAT.ZONE (R326, R335). -/
def State.zoneAt (s : State) (zone : Nat) (t : Int) : Nat := ([1, 2, 3, 4].takeWhile (fun j => s.aboveEdge zone j t)).length

/-- A WELL_NTC reading outside 2 % to 98 % of its bias range, in 1/65,536 of it (R326). -/
def ntcBad (code : Nat) : Bool := decide (code * 100 < 2 * 65536) || decide (98 * 65536 < code * 100)

/-- The zone of a WELL_NTC reading: 5 for an NTC fault (R326, R335). -/
def State.zoneOf (s : State) (code : Nat) : Nat :=
  if ntcBad code then 5
  else s.zoneAt (s.rd F.WELL_CSTAT_ZONE 0) (ntcTemp (s.cf F.WELL_NTC_NOM 0) (s.cf F.WELL_NTC_BETA 0) code)

/-- PACK_ZONE_CHANGE (R326): the reading of WELL_NTC, in 1/65,536 of its bias, has come into another zone: event 0x10, and 0x0C for an
NTC fault. -/
def packZoneChange (code : Nat) (s : State) : State :=
  let z := s.zoneOf code
  if s.rd F.WELL_CSTAT_ZONE 0 = z then s
  else
    let s := s.wr F.WELL_CSTAT_ZONE 0 z
    let s := if z = 5 then s.raise 0x0B 0x0C {}
      else s.raise 0x0B 0x10 { val := ntcTemp (s.cf F.WELL_NTC_NOM 0) (s.cf F.WELL_NTC_BETA 0) code }
    s.chgSettle

/-- FOLDBACK_CHANGE (R327, R328): the highest die temperature in 0.125 °C. -/
def foldbackChange (t : Int) (s : State) : State :=
  let was := s.flag F.WELL_CSTAT_FOLD 0
  let s := (s.setWell (fun w => { w with dieTemp := t })).foldShow
  if s.flag F.WELL_CSTAT_FOLD 0 && !was then s.raise 0x0B 0x11 { val := t } else s

/-- WELL_CTL.CLR_CHG (R325, R335): FAULT to OFF. -/
def State.askClrChg (s : State) : Nat × State :=
  if !s.flag F.WELL_CSTAT_CHG_FAULT 0 then (errState, s)
  else
    let s := (s.wr F.WELL_CSTAT_CHG_FAULT 0 0).wr F.WELL_CSTAT_FLT_CAUSE 0 0
    (errOk, (if s.chg = 8 then s.chgGo 0 else s).chgSettle)

/-- WELL_CTL.CHG_RESTART (R332, R335). -/
def State.askChgRestart (s : State) : Nat × State :=
  if s.power.st = .hold ∨ s.chg = 8 then (errState, s) else (errOk, (s.chgGo 1).chgSettle)

/-- The timers of R328 over one microsecond: paused outside their phases, at half rate while DILATED. -/
def State.chgTick (s : State) : State :=
  let p := s.chg
  if p = 2 ∨ p = 3 ∨ p = 4 ∨ p = 5 then
    { s with well := { s.well with
      count := s.well.count + (if s.flag F.WELL_CSTAT_DILATED 0 then 1 else 2), wall := s.well.wall + 1 } }
  else s

-- Estimator records and saves

/-- The chunk of EST (R499). -/
def estChunk : Nat := 111

/-- The pack readings of the present, for a record formed before any sample (R354). -/
def State.packReading (s : State) : EstReading :=
  let now (f : Fld) := Config.measured (f.key 0) s.now % 0x10000
  { vbat := now F.WELL_MEAS_V_PACK, cur := ofField 16 (now F.WELL_MEAS_I_PACK), temp := ofField 16 (now F.WELL_MEAS2_T_PACK),
    dq := 0, slow := false, charged := false }

/-- The 16 payload bytes of an estimator record (R354), with the readings of the last sample. -/
def State.estBytes (s : State) (cause : Nat) (dormant : Bool) : List Byte :=
  let r := s.est.last.getD s.packReading
  bytes 1 (s.rd F.EST_STAT_SOC 0) ++ bytes 1 (s.rd F.EST_STAT_SOC_C 0)
  ++ bytes 1 (s.rd F.EST_STAT_CONFLICT 0 + 2 * s.rd F.EST_STAT_SLOW 0 + 4 * s.rd F.EST_STAT_WINDOW 0
    + 8 * s.rd F.EST_STAT_DRAW 0 + 16 * b2n dormant + 32 * b2n s.est.zUpdated)
  ++ bytes 1 cause ++ bytes 2 r.vbat ++ bytes 2 (s16 r.cur) ++ bytes 2 (s16 r.temp)
  ++ bytes 2 (s.rd F.EST_CAP_C_LEARN 0) ++ bytes 2 (min 0xFFFF (s.rd F.EST_EFC_EFC 0 / 10))
  ++ bytes 2 (s.rd F.EST_REMAIN_REMAIN 0)

/-- Form an estimator record (R354). -/
def State.estRec (s : State) (cause : Nat) : State :=
  let s := s.emit 0x0C 0x0A (s.estBytes cause false)
  { s with est := { s.est with zUpdated := false } }

-- The learning draw

/-- End the draw: the pump ramps back to HDR VSET unless it is INPUT_LOW, and the charger goes to QUAL (R346, R347). A pump that
yields for a pre-emptive hand-over keeps its yield setpoint until the hand-back (DEDUCED, log 14). -/
def State.endDraw (s : State) : State :=
  let s := s.wr F.EST_STAT_DRAW 0 0
  let s := if s.stg 0 = 4 ∨ s.well.pre = true then s else s.moveSet 0 (s.bankSet 0)
  s.chgSettle

/-- Abandon a learning draw (R347). -/
def State.abandonDraw (s : State) : State :=
  if !s.flag F.EST_STAT_DRAW 0 then s
  else
    let s := (s.endDraw).bump F.EST_EVT_ABANDONED 0
    (s.raise 0x0C 0x05 { cnt := s.rd F.EST_EVT_ABANDONED 0 }).estRec 0x04

/-- The device has a used slot and the twin partner reports an active draw (R345, R366). DEDUCED (log 14): 'the rail is twinned'
is taken as a used slot of any rail, since rail 0 cannot be twinned. -/
def State.partnerDraws (s : State) : Bool :=
  s.con F.TW_CFG_EN 0 && (List.range 8).any (fun k => s.cf F.TW_SLOT_RAIL k != 0xFF) && bitOf (s.rd F.TW_PARTNER_FLAGS 0) 0

/-- Start a learning draw (R345). -/
def State.askLearnStart (s : State) : Nat × State :=
  if !s.con F.EST_CFG_LEARN_EN 0 || s.power.st != .run || !s.anyStable || !s.flag F.EST_STAT_WINDOW 0 then (errState, s)
  else if s.flag F.EST_STAT_DRAW 0 then (errBusy, s)
  else if s.rd F.WELL_CSTAT_ZONE 0 = 0 ∨ s.rd F.WELL_CSTAT_ZONE 0 = 4 ∨ s.flag F.WELL_CSTAT_FOLD 0 = true then (errThermal, s)
  else if s.partnerDraws then (errTwin, s)
  else
    let s := s.wr F.EST_STAT_DRAW 0 1
    (errOk, (s.moveSet 0 (s.cf F.WELL_CFG_VREG 0 - 30)).chgSettle)

/-- Stop a learning draw (R347). -/
def State.askLearnStop (s : State) : Nat × State :=
  if s.flag F.EST_STAT_DRAW 0 then (errOk, s.abandonDraw) else (errState, s)

/-- END_OF_DISCHARGE (R346): the capacity is learned or rejected. -/
def endOfDischarge (s : State) : State :=
  if !s.flag F.EST_STAT_DRAW 0 then s
  else
    let q := s.est.qDraw
    let c := s.rd F.EST_CAP_C_LEARN 0
    let ok := decide (500000 ≤ q) && decide (q ≤ 60000000)
      && (c == 0 || (decide (7 * c * 10000 ≤ 10 * q) && decide (10 * q ≤ 13 * c * 10000)))
    let new : Int := if c = 0 then (q / 10000 : Nat)
      else c + (((q / 10000 : Nat) : Int) - c) * (s.cf F.EST_CFG_LEARN_WT 0 : Nat) / 8
    let s := if ok then (s.wr F.EST_CAP_C_LEARN 0 new.toNat).bump F.EST_CAP_LEARNS 0 else s.bump F.EST_CAP_REJECTS 0
    let s := (s.setQc 0).closeWindow.wr F.EST_REMAIN_Q_DRAW 0 (min 0xFFFF (q / 10000))
    let s := (s.owe estChunk false).endDraw
    if ok then (s.raise 0x0C 0x03 { cnt := s.rd F.EST_CAP_LEARNS 0 }).estRec 0x03
    else (s.raise 0x0C 0x04 { cnt := s.rd F.EST_CAP_REJECTS 0 }).estRec 0x04

-- The estimate

/-- SoC_W in 1e-6 of full charge (R342). -/
def State.socW (s : State) : Nat :=
  let c : Int := s.cUse * 10000
  let socC := if c = 0 then 0 else (max 0 (ofField 32 (s.rd F.EST_QC_QC 0) * 1000000 / c)).toNat
  if s.flag F.EST_STAT_CONFLICT 0 then min s.est.socV socC else s.est.socV

/-- EST_REMAIN.REMAIN in minutes while the pack discharges, as the last sample has it (R343). -/
def State.judgeRemain (s : State) : State :=
  let cur := match s.est.last with | some r => r.cur | none => 0
  s.wr F.EST_REMAIN_REMAIN 0 (if cur < 0 then min 0xFFFF (s.socW * s.cUse * 6 / (10000 * cur.natAbs)) else 0xFFFF)

/-- Leave a conflict (R342). -/
def State.clearConflict (s : State) : State :=
  if s.flag F.EST_STAT_CONFLICT 0 then (((s.wr F.EST_STAT_CONFLICT 0 0).judgeRemain).raise 0x0C 0x02 {}).estRec 0x05 else s

/-- Show SoC_V and SoC_C in 0.5 % (R342). -/
def State.socShow (s : State) : State :=
  let c : Int := s.cUse * 10000
  let q := ofField 32 (s.rd F.EST_QC_QC 0)
  let socC := if c = 0 then 0 else min 200 (max 0 (q * 200 / c)).toNat
  s.wr F.EST_STAT_SOC 0 (s.est.socV / 5000) |>.wr F.EST_STAT_SOC_C 0 socC

/-- Set Q_C from SoC_V (R341). -/
def State.resync (s : State) : State :=
  let s := s.setQc ((s.est.socV * s.cUse / 100 : Nat) : Int)
  (s.socShow).clearConflict

/-- An OCV point of the selected chemistry, in 0.1 µV (R338). -/
def State.ocv (s : State) (i : Nat) : Nat := s.cf F.EST_OCV_V (s.cf F.WELL_PACK_CHEM 0 * 32 + i) * 1000

/-- SoC_V in 1e-6 of full charge for a cell voltage in 0.1 µV: the segment that holds it, by its lower point (R337). -/
def State.socFrom (s : State) (v : Int) : Nat → Nat
  | 0 => 0
  | n + 1 =>
    if (s.ocv n : Int) ≤ v then
      let a := s.ocv n
      let b := s.ocv (n + 1)
      (n * 1000000 + (v.toNat - a) * 1000000 / (b - a)) / 31
    else s.socFrom v n
def State.socOf (s : State) (v : Int) : Nat :=
  if (s.ocv 31 : Int) ≤ v then 1000000 else if v < s.ocv 0 then 0 else min 1000000 (s.socFrom v 31)

/-- Where a value lies between points `lo + step * i`, 0 to `n`: the point below and the weight of the one above, of `step`;
held at the ends (R339). -/
def gridAt (x lo : Int) (step n : Nat) : Nat × Nat :=
  if x ≤ lo then (0, 0)
  else
    let d := (x - lo).toNat
    if n * step ≤ d then (n, 0) else (d / step, d % step)

/-- The impedance in 0.1 mΩ, as a numerator over 125000 × 120, at a SoC in 1e-6 and a temperature in 0.125 °C (R339). -/
def State.impedance (s : State) (soc : Nat) (t : Int) : Nat :=
  let (b, wb) := gridAt soc 62500 125000 7
  let (p, wp) := gridAt t (-160) 120 5
  let z (p b : Nat) := s.rd F.EST_Z_Z (min 5 p * 8 + min 7 b)
  (z p b * (125000 - wb) + z p (b + 1) * wb) * (120 - wp) + (z (p + 1) b * (125000 - wb) + z (p + 1) (b + 1) * wb) * wp

/-- Learn one impedance cell from two consecutive fast samples (R340). -/
def State.learnZ (s : State) (r : EstReading) (soc : Nat) : State :=
  match s.est.last with
  | none => s
  | some l =>
    let di := r.cur - l.cur
    let near := decide (soc < s.est.socV + 10000) && decide (s.est.socV < soc + 10000)
    if r.slow || s.flag F.EST_STAT_SLOW 0 || decide (di.natAbs < 500) || !near then s
    else
      let n := s.cf F.WELL_PACK_CELLS 0
      let dv : Int := ((r.vbat * 10000 / n : Nat) : Int) - ((l.vbat * 10000 / n : Nat) : Int)
      let meas := if di < 0 then (-dv) / (-di) else dv / di
      let b := min 7 (soc / 125000)
      let p := (min 5 (max 0 ((r.temp + 220) / 120))).toNat
      let k := p * 8 + b
      let old := s.rd F.EST_Z_Z k
      if meas < 1 ∨ 5000 < meas ∨ 2 * meas < old ∨ (4 * old : Nat) < meas then s
      else
        let new := (old : Int) + (meas - old) / 8
        let s := (s.wr F.EST_Z_Z k new.toNat).bump F.EST_Z_UPDATES k
        { s with est := { s.est with zUpdated := true } }

/-- Count discharge toward the window's draw and the equivalent cycles (R346, R348). -/
def State.countCharge (s : State) (dq : Int) : State :=
  let s := s.setQc (max (-2147483648) (min 2147483647 (ofField 32 (s.rd F.EST_QC_QC 0) + dq)))
  if 0 ≤ dq then s
  else
    let q := (-dq).toNat
    let c := s.cUse * 10000
    -- the part of a cycle that is not counted yet stays the same part when C_USE changes
    let rest := if s.est.efcOf = c ∨ s.est.efcOf = 0 then s.est.efcRest else s.est.efcRest * c / s.est.efcOf
    let t := rest + q * 100
    let s := { s with est := { s.est with
      qDraw := if s.flag F.EST_STAT_WINDOW 0 then s.est.qDraw + q else s.est.qDraw
      efcRest := if c = 0 then 0 else t % c, efcOf := c } }
    if c ≠ 0 ∧ c ≤ t then s.wr F.EST_EFC_EFC 0 (satAdd 0xFFFFFFFF (s.rd F.EST_EFC_EFC 0) (t / c)) else s

/-- Judge the conflict between SoC_V and SoC_C (R342). -/
def State.judgeConflict (s : State) : State :=
  let c : Int := s.cUse * 10000
  let d := (((s.est.socV * s.cUse / 100 : Nat) : Int) - ofField 32 (s.rd F.EST_QC_QC 0)).natAbs
  if s.flag F.EST_STAT_CONFLICT 0 then (if (d * 100 : Nat) < 10 * c then s.clearConflict else s)
  else if 15 * c < (d * 100 : Nat) then
    let s := ((s.wr F.EST_STAT_CONFLICT 0 1).judgeRemain).bump F.EST_EVT_CONFLICTS 0
    (s.raise 0x0C 0x01 { cnt := s.rd F.EST_EVT_CONFLICTS 0 }).estRec 0x05
  else s

/-- Judge one level of R343. -/
def State.judgeLevel (s : State) (f lvl : Fld) (ev : Nat) : State :=
  let w := s.socW
  let l := s.cf lvl 0 * 10000
  if s.flag f 0 then (if l + 20000 ≤ w then (s.wr f 0 0).estRec 0x06 else s)
  else if w < l then ((s.wr f 0 1).raise 0x0C ev {}).estRec 0x06
  else s

/-- The periodic record of R354, every EST_REC.REC_DIV samples; no sample counts while REC_DIV is 0. -/
def State.periodicRec (s : State) : State :=
  let m := s.cf F.EST_REC_REC_DIV 0
  if m ≠ 0 ∧ s.est.recCount < m then s
  else
    let s : State := { s with est := { s.est with recCount := 0 } }
    if m = 0 then s else s.estRec 0x01

/-- WELL_MEAS and WELL_MEAS2 show the readings of the last sample (R335, R336; DEDUCED, log 39). -/
def State.packShow (s : State) (r : EstReading) : State :=
  ((s.wr F.WELL_MEAS_V_PACK 0 r.vbat).wr F.WELL_MEAS_I_PACK 0 (s16 r.cur)).wr F.WELL_MEAS2_T_PACK 0 (s16 r.temp)

/-- EST_SAMPLE (R336 to R343, R354). The coulomb count integrates while the DATA island is powered (R341). -/
def estSample (r : EstReading) (s : State) : State :=
  if !s.pack then s
  else
    let s := if bitOf (s.rd F.UNIT_STAT_ISLAND_OK 0) 7 then s.countCharge r.dq else s
    let s := (if r.charged then s.closeWindow else s).packShow r
    let v : Int := (r.vbat * 10000 / s.cf F.WELL_PACK_CELLS 0 : Nat)
    let ocv := v - r.cur * (s.impedance s.est.socV r.temp : Nat) / 15000000
    let soc := s.socOf ocv
    let out := decide (ocv < s.ocv 0) || decide ((s.ocv 31 : Int) < ocv)
    let left := out && !s.est.outside
    let s := s.learnZ r soc
    let s := { s.wr F.EST_STAT_SLOW 0 (b2n r.slow) with
      est := { s.est with last := some r, socV := soc, outside := out, recCount := s.est.recCount + 1 } }
    let s := if s.est.resyncNext then ({ s with est := { s.est with resyncNext := false } } : State).resync else s
    let s := s.socShow.judgeConflict.judgeRemain
    let s := (s.judgeLevel F.EST_STAT_LOW F.EST_LVL_SOC_WARN 0x06).judgeLevel F.EST_STAT_CRIT F.EST_LVL_SOC_CRIT 0x07
    let s := if left then s.raise 0x0C 0x0A { val := ocv / 10000 } else s
    s.periodicRec

/-- A sample taken at rest (R349): the pack voltage gives SoC_V, and Q_C follows it. -/
def State.restSample (s : State) (r : EstReading) : State :=
  let v : Int := (r.vbat * 10000 / s.cf F.WELL_PACK_CELLS 0 : Nat)
  ({ (s.packShow r) with est := { s.est with last := some r, socV := s.socOf v } }).resync

/-- Return the learned fields to their Reset values and save them at once (R350). -/
def State.forgetPack (s : State) : State :=
  let s := s.abandonDraw.closeWindow
  let s := (s.wr F.EST_CAP_C_LEARN 0 0).wr F.EST_CAP_LEARNS 0 0 |>.wr F.EST_CAP_REJECTS 0 0 |>.wr F.EST_EFC_EFC 0 0
  let s := (List.range 48).foldl (fun s k => (s.wr F.EST_Z_Z k F.EST_Z_Z.rst).wr F.EST_Z_UPDATES k 0) s
  { s with est := { s.est with efcRest := 0 } }.owe estChunk false

/-- EST_CTL.NEW_PACK (R350). -/
def State.askNewPack (s : State) : Nat × State := (errOk, s.forgetPack)

/-- EST_CTL.RESYNC (R341). -/
def State.askResync (s : State) : Nat × State := if s.pack then (errOk, s.resync) else (errState, s)

/-- IMPEDANCE_SAVE (R350): every tZ_SAVE. -/
def impedanceSave (s : State) : State := s.owe estChunk true

end Sys2Proof.Machine
end

