-- ==== Sys2Proof/Machine/Well.lean ====
section
/-! DEFINITION. The well as the device's power path (R311 to R335): hand-over and hand-back, cutoff, DORMANT and SHIP, the
pack's presence, lend mode. -/

namespace Sys2Proof.Machine

open Sys2Proof

-- Power lost, and the lend

/-- The device loses its power at once and rests as in SHIP: the valve is open (R323, R332). -/
def State.powerLost (s : State) : State := s.powerDown .ship

/-- The AON island has a supply in DORMANT: VSYS from a feed, or the pack through the closed valve (R32). -/
def State.aonFed (s : State) : Bool := s.anyFeed || (s.pack && s.flag F.WELL_STAT_VALVE 0)

/-- The AON island loses its supply in DORMANT: the device rests as in SHIP (R32, R323, R332). -/
def aonFollow (s0 s : State) : State := if s.dormant && s0.aonFed && !s.aonFed then s.powerLost else s

/-- Stop a lend with a cause of R329, in the order of its list. -/
def State.stopLend (s : State) (cause : Nat) : State :=
  if !s.well.lend then s
  else
    let val := if cause = 3 ∨ cause = 6 then s.crossed 0x0B 0x0E 0xFF else 0
    ({ s with well := { s.well with lend := false } }.wellSettle).raise 0x0B 0x0E { cause, val }

/-- Start a lend (R329): refused with STATE, BUSY or BUDGET. -/
def State.askLendStart (s : State) : Nat × State :=
  let rd : Rd := fun f i => s.cf f i
  let extra : Frac := ⟨rd F.WELL_LEND_I_LEND 0 * 50 * (rd F.WELL_CFG_VREG 0 * 10), 1⟩
  if s.power.st ≠ .hold then (errState, s)
  else if s.well.lend then (errBusy, s)
  else if ((holdSum rd).add extra).gt ⟨200000000, 1⟩ then (errBudget, s)
  else (errOk, { s with well := { s.well with lend := true } }.wellSettle)

/-- WELL_CTL.LEND_STOP and the command (R329, R335). -/
def State.askLendStop (s : State) (twin : Bool) : Nat × State :=
  if s.well.lend then (errOk, s.stopLend (if twin then 2 else 1)) else (errState, s)

/-- LEND_AUTO_STOP (R329): WELL_BAT below V_LEND_MIN, or the receiver is full. -/
def lendAutoStop (full : Bool) (s : State) : State := s.stopLend (if full then 6 else 3)

-- Hand-over

/-- The pump's condition for a hand-over (R318). -/
def State.pumpYields (s : State) : Bool := s.stg 0 == 4 || s.stg 0 == 6 || s.rd F.WELL_STAT_HO 0 == 1

/-- HANDOVER_DETECT (R318, R321): more than I_HO_DET into VHDR for tHO_DET. From RUN the device enters HOLD; in SAFE it stays
in SAFE and no shed drain follows. In HOLD nothing starts (R320). -/
def handoverDetect (s : State) : State :=
  let ho := s.rd F.WELL_STAT_HO 0
  if !(s.wellSources && s.pumpYields) || (s.power.st != .run && s.power.st != .safe) || (ho != 0 && ho != 1 && ho != 6) then s
  else
    let inSafe := s.safe
    let s := if inSafe then s else
      { s.wr F.PSTATE_PREV_STATE 0 s.power.st.code with power := { s.power with st := .hold } }
    let s := { s with well := { s.well with pre := decide (ho = 1), leadPend := !inSafe, hoDone := inSafe } }
    -- the supply's request holds until the device leaves RUN (R263)
    let s := if inSafe then s else s.pfw F.PFW_STAT_SUPPLY false
    let s := (s.wr F.WELL_STAT_HO 0 (if inSafe then 3 else 2)).pfw F.PFW_STAT_HANDOVER true
    let s := s.bump F.WELL_EVT_HO 0
    let s := s.raise 0x0B 0x01 { val := s.crossed 0x0B 0x01 0xFF, cnt := s.rd F.WELL_EVT_HO 0 }
    (s.abandonDraw.wellSettle).hoShow

/-- HANDOVER_LEAD_END (R318, R240): the shed drain of every primed rail outside the hold set. In SAFE none runs (R321). -/
def handoverLeadEnd (s : State) : State :=
  if !s.well.leadPend then s
  else
    let s := { s with well := { s.well with leadPend := false } }
    if s.safe then
      (({ s with well := { s.well with hoDone := true } } : State).wr F.WELL_STAT_HO 0 3).hoShow
    else
      let scope := mAnd s.primed (0xFFFFFF - s.holdSet)
      ({ s with seq := { s.seq with handover := true, shed := mOr s.seq.shed scope } }.drain 0x09 scope 0).hoShow

/-- A pre-emptive hand-over starts (R319): the pump yields. -/
def State.preempt (s : State) : State :=
  let ho := s.rd F.WELL_STAT_HO 0
  if s.power.st ≠ .run ∨ (ho ≠ 0 ∧ ho ≠ 6) then s
  else
    let s := (s.wr F.WELL_STAT_HO 0 1).bump F.WELL_EVT_PRE 0
    let s := s.raise 0x0B 0x02 { cnt := s.rd F.WELL_EVT_PRE 0 }
    s.moveSet 0 (s.cf F.WELL_CFG_VREG 0 - 30)

-- Hand-back

/-- HANDBACK_START (R322): the hand-over is complete and a feed is stable; after a pre-emptive hand-over the environment
asserts that tPRE_HOLD has passed. In SAFE the pump must have been running or held in INPUT_LOW (DEDUCED, log 16). -/
def handbackStart (s : State) : State :=
  let ho := s.rd F.WELL_STAT_HO 0
  let st := s.stg 0
  if !s.well.hoDone || !s.anyStable || (ho != 3 && ho != 4) || st == 6 || s.draining || (s.safe && st == 0)
      || (s.power.st != .hold && !s.safe) then s
  else
    let s := (s.stopLend 4).wr F.WELL_STAT_HO 0 5
    (if st = 0 ∨ st = 4 then
      (s.setSt 0 (fun x => { x with setpt := none, oldSet := none, discharge := false })).startStage 0
    else s.moveSet 0 (s.bankSet 0)).handbackRamp

/-- HANDBACK_RAMP_END (R322, R240): the pump regulates, the device enters RUN, the restart prime follows. In SAFE the state
stays SAFE. -/
def handbackRampEnd (s : State) : State :=
  if s.rd F.WELL_STAT_HO 0 ≠ 5 ∨ ¬(s.stg 0 = 1 ∨ s.stg 0 = 2 ∨ s.stg 0 = 3) then s
  else
    let s := if s.stg 0 = 2 then s else (s.setStg 0 2).refAtSet 0
    let inSafe := s.safe
    let s := if inSafe then s else
      { s.wr F.PSTATE_PREV_STATE 0 s.power.st.code with power := { s.power with st := .run } }
    let s := { s with well := { s.well with pre := false, hoDone := false } }
    let s := ((s.wr F.WELL_STAT_HO 0 6).pfw F.PFW_STAT_HANDOVER false).bump F.WELL_EVT_HB 0
    let s := (s.raise 0x0B 0x03 { cnt := s.rd F.WELL_EVT_HB 0 }).wellSettle
    if inSafe then s else s.restartPrime

/-- CHG_DWELL_END (R322): the charger leaves SUSPENDED. -/
def chgDwellEnd (s : State) : State :=
  if s.rd F.WELL_STAT_HO 0 = 6 then (s.wr F.WELL_STAT_HO 0 0).chgSettle else s

-- Cutoff, DORMANT, SHIP

/-- Start the cutoff drain toward a state (R41, R324): a lend stops, since the device leaves HOLD (R329, R332). -/
def State.cutoff (s : State) (p : PState) : State :=
  let s := s.stopLend 5
  ({ s with power := { s.power with afterCutoff := some p } }).drain 0x0A s.primed 0

/-- HOLDUP_CUTOFF (R323): in HOLD the cutoff drain and DORMANT; in SAFE with no feed valid the valve opens. -/
def holdupCutoff (s : State) : State :=
  if s.power.st = .hold then
    if s.power.afterCutoff.isSome then s else (s.raise 0x0B 0x0D { val := s.crossed 0x0B 0x0D 0xFF }).cutoff .dormant
  else if s.safe && !s.anyFeed then (s.raise 0x0B 0x0D { val := s.crossed 0x0B 0x0D 0xFF }).powerLost
  else s

/-- A DORMANT or SHIP command (R42, R324). -/
def State.askPowerState (s : State) (ship : Bool) : Nat × State :=
  let ho := s.rd F.WELL_STAT_HO 0
  if s.power.st ≠ .hold then (errState, s)
  else if s.draining || s.power.afterCutoff.isSome || ho == 1 || ho == 2 || ho == 5 || s.well.leadPend then (errBusy, s)
  else (errOk, s.cutoff (if ship then .ship else .dormant))

-- Valve and pack

/-- VALVE_FAULT (R314): while the valve is closed. It clears at chip reset only. -/
def valveFault (s : State) : State :=
  if s.flag F.WELL_STAT_VALVE 0 && !s.flag F.WELL_STAT_VALVE_FAULT 0 then
    (s.wr F.WELL_STAT_VALVE_FAULT 0 1).raise 0x0B 0x0A { val := s.crossed 0x0B 0x0A 0xFF }
  else s

/-- PACK_PRESENCE_CHANGE (R314, R325, R332, R341, R344, R347): a replaced pack clears CHG_FAULT; the removal of the pack that
carries the device takes all power (in DORMANT by `aonFollow`). A pack that is gone does not discharge (R343). -/
def packPresenceChange (present : Bool) (s : State) : State :=
  if present then
    if s.pack then s
    else
      let s := (s.wr F.WELL_STAT_NO_PACK 0 0).wr F.WELL_CSTAT_CHG_FAULT 0 0 |>.wr F.WELL_CSTAT_FLT_CAUSE 0 0
      ({ s with est := { s.est with resyncNext := true, last := none } }).wellSettle
  else if !s.pack then s
  else
    let s := (s.wr F.WELL_STAT_NO_PACK 0 1).raise 0x0B 0x0B { val := s.crossed 0x0B 0x0B 0xFF }
    let s := ((s.abandonDraw.closeWindow).wr F.EST_REMAIN_REMAIN 0 0xFFFF).wellSettle
    if s.power.st = .hold ∨ (s.safe = true ∧ s.anyFeed = false) then s.powerLost else s

/-- A persistent trip of the well's comparators (R316, R331). -/
def State.wellTrip (s : State) (ov : Bool) (val : Int) : State :=
  if ov then (s.chgFault 3).raise 0x0B 0x05 { val } else s.raise 0x0B 0x06 { val }

end Sys2Proof.Machine
end

