-- ==== Sys2Proof/Machine/Monitors.lean ====
section
/-! DEFINITION. The window monitors, the supply monitor and the trip comparators (R251 to R274). -/

namespace Sys2Proof.Machine

open Sys2Proof

-- Comparator outputs

/-- The WM_MSTAT bit of a comparator, and its index (R251). -/
def cmpFld : MonCmp → Fld
  | .rstLo => F.WM_MSTAT_BELOW_RST | .warnLo => F.WM_MSTAT_BELOW_WARN
  | .warnHi => F.WM_MSTAT_ABOVE_WARN | .rstHi => F.WM_MSTAT_ABOVE_RST
def cmpIdx : MonCmp → Nat
  | .rstLo => 0 | .warnLo => 1 | .warnHi => 2 | .rstHi => 3

/-- The comparator is enabled (R260, R262). -/
def State.cmpOn (s : State) (m : Nat) (k : MonCmp) : Bool :=
  (levelUv (fun f i => s.cf f i) (0, 0) m (cmpIdx k)).isSome

/-- Set bit `i` of a mask field to a value. -/
def State.maskBit (s : State) (f : Fld) (i : Nat) (b : Bool) : State :=
  s.wr f 0 (if b then setBit (s.rd f 0) i else clrBit (s.rd f 0) i)

/-- Show OUT_WIN and OUT_RST of a monitor, and for EXT0 the supply's bits (R260, R276). -/
def State.monShow (s : State) (m : Nat) : State :=
  let s := s.maskBit F.WM_OUT_MASK m (s.flag F.WM_MSTAT_BELOW_WARN m || s.flag F.WM_MSTAT_ABOVE_WARN m)
  let s := s.maskBit F.WM_RST_OUT_MASK m (s.flag F.WM_MSTAT_BELOW_RST m || s.flag F.WM_MSTAT_ABOVE_RST m)
  if m = 24 then
    (s.wr F.SUP_STAT_BELOW_WARN 0 (s.rd F.WM_MSTAT_BELOW_WARN 24)).wr F.SUP_STAT_BELOW_RST 0 (s.rd F.WM_MSTAT_BELOW_RST 24)
  else s

/-- The supply is back above WARN_LO plus hysteresis: its request is released (R263). -/
def State.supplyBack (s : State) : State :=
  ({ s with wmon := { s.wmon with supRst := false } } : State).pfw F.PFW_STAT_SUPPLY false

/-- The step states in which a rail's reset excursion is an event, low and high (R258). -/
def qualState (lo : Bool) (st : Nat) : Bool := st == 3 || (!lo && (st == 2 || st == 7 || st == 8 || st == 9))

/-- A comparator's output goes out (R258, R262): warning and reset excursions as they are raised. -/
def State.monOut (s : State) (m : Nat) (k : MonCmp) (mv : Int) : State :=
  let win := s.flag F.WM_MSTAT_BELOW_WARN m || s.flag F.WM_MSTAT_ABOVE_WARN m
  let rst := s.flag F.WM_MSTAT_BELOW_RST m || s.flag F.WM_MSTAT_ABOVE_RST m
  let isRst := k == .rstLo || k == .rstHi
  let s := ((s.wr (cmpFld k) m 1).monShow m)
  let s := if isRst then s else s.wr F.WM_MSTAT_PG m 0
  let warn (s : State) (e : Nat) : State :=
    let s := s.bump F.WM_MSTAT_WARN_EXC m
    s.raise 0x09 e { unit := m, val := mv, cnt := s.rd F.WM_MSTAT_WARN_EXC m }
  let reset (s : State) (e : Nat) : State :=
    let s := s.bump F.WM_MSTAT_RST_EXC m
    s.raise 0x09 e { unit := m, val := mv, cnt := s.rd F.WM_MSTAT_RST_EXC m }
  if m < 24 then
    if isRst then (if qualState (k == .rstLo) (s.stepOf m) then reset s 0x08 else s)
    else if !win && s.stepOf m == 3 then warn s 0x07 else s
  else if m = 24 then s
  else if isRst then (if rst then s else reset s 0x05)
  else if win then s else warn s 0x09

/-- An excursion beyond a reset level has lasted tFLT_QUAL (R235, R258). In DRAIN_WAIT, DRAINING and DISCHARGING one above RST_HI is a
failure during the drain, with cause 0x07 (R238). -/
def State.monQual (s : State) (m : Nat) (k : MonCmp) (mv : Int) : State :=
  let lo := k == .rstLo
  if m < 24 ∧ (k = .rstLo ∨ k = .rstHi) ∧ s.flag (cmpFld k) m = true ∧ qualState lo (s.stepOf m) = true then
    if s.stepOf m = 7 then s.drainFail m 0x07 mv else s.railFault m (if lo then 0x06 else 0x07) mv
  else s

-- The supply

/-- The supply's events are raised only in RUN with a feed valid (R263). -/
def State.supplyOn (s : State) : Bool := s.power.st == .run && !s.flag F.PE_STAT_NO_FEED 0

/-- A comparator acts: enabled (R262), its output not held after a level change (R271), its monitor not idle (R251). -/
def State.cmpActs (s : State) (m : Nat) (k : MonCmp) : Bool :=
  s.cmpOn m k && !s.flag F.WM_MSTAT_BLANK m && !(decide (m < 24) && s.follower m)

/-- The supply falls below WARN_LO (R263): what is shown and reported, without the request. -/
def State.supplyFalls (s : State) (mv : Int) : State :=
  let s := ({ s with wmon := { s.wmon with supRst := false } } : State).wr F.WM_MSTAT_BELOW_WARN 24 1 |>.monShow 24
  if s.supplyOn then
    let s := s.bump F.WM_MSTAT_WARN_EXC 24
    s.raise 0x09 0x01 { unit := 24, val := mv, cnt := s.rd F.WM_MSTAT_WARN_EXC 24 }
  else s

/-- A supply warning's request of PFW_N (R263). -/
def State.supplyAsks (s : State) : State := if s.supplyOn then s.pfw F.PFW_STAT_SUPPLY true else s

/-- A supply warning (R263). -/
def State.supplyWarned (s : State) (mv : Int) : State := if s.cmpActs 24 .warnLo then (s.supplyFalls mv).supplyAsks else s

/-- A supply dip (R263): counted; the dip with which its source becomes severe starts a pre-emptive hand-over. -/
def State.supplyDipped (s : State) (mv : Int) : State :=
  if !s.cmpActs 24 .warnLo then s
  else
    let asked := s.flag F.PFW_STAT_SUPPLY 0
    let clean := !s.wmon.supRst
    let s := (s.wr F.WM_MSTAT_BELOW_WARN 24 0).monShow 24 |>.supplyBack
    if asked && clean && s.supplyOn then
      let s := s.bump F.SUP_STAT_DIPS 0
      let k := srcKey 0x09 0x06
      let was := (s.faults.srcs.at k).severe
      let s := s.raise 0x09 0x06 { unit := 24, val := mv, cnt := s.rd F.SUP_STAT_DIPS 0 }
      if (s.faults.srcs.at k).severe && !was then s.preempt else s
    else s

/-- A supply loss (R263). -/
def State.supplyLost (s : State) (mv : Int) : State :=
  if !s.cmpActs 24 .rstLo then s
  else
    let s := ({ s with wmon := { s.wmon with supRst := true } } : State).wr F.WM_MSTAT_BELOW_RST 24 1 |>.monShow 24
    if s.supplyOn then
      let s := (s.bump F.SUP_STAT_LOSSES 0).bump F.WM_MSTAT_RST_EXC 24
      s.raise 0x09 0x02 { unit := 24, val := mv, cnt := s.rd F.SUP_STAT_LOSSES 0 }
    else s

-- Crossings

/-- The output of a rail is back below its warning level: the sink after an over-voltage ends, and the loop regulates again (R180, R212). -/
def State.sinkEnds (s : State) (m : Nat) (k : MonCmp) : State :=
  if m < 24 ∧ k = .warnHi ∧ (s.stages.at m).ovSink = true then s.setSt m (fun x => { x with ovSink := false }) else s

/-- A crossing takes effect (R258, R262): while a comparator does not act nothing changes. The lower comparators of EXT0 are those of
the supply (R263). -/
def State.monCross (s : State) (m : Nat) (k : MonCmp) (e : MonEdge) (mv : Int) : State :=
  let outside := s.flag (cmpFld k) m
  if !s.cmpActs m k then s
  else match e with
    | .out =>
      if outside then s
      else if m = 24 ∧ k = .warnLo then s.supplyWarned mv
      else if m = 24 ∧ k = .rstLo then s.supplyLost mv
      else s.monOut m k mv
    | .back =>
      let s := s.sinkEnds m k
      if !outside then s.monShow m
      else if m = 24 ∧ k = .warnLo then s.supplyDipped mv
      else (s.wr (cmpFld k) m 0).monShow m
    | .qualified => s.monQual m k mv

/-- A perturbation delays a monitor's outputs (R260, R302). -/
def State.monDelayed (s : State) (m : Nat) : Bool := s.pert.kindEnd.at 4 != 0 && bitOf (s.rd F.PT_WM_MASK_MASK 0) m

/-- A crossing of a monitor that a perturbation delays waits for its time (R302; the delay in whole µs rounded up, DESIGN CHOICE, log 37). -/
def State.crossLate (s : State) (m : Nat) (k : MonCmp) (e : MonEdge) (mv : Int) : State :=
  if !s.cmpActs m k then s
  else
    let x : LateCross := ⟨s.now + ceilDiv (s.rd F.PT_WM_DLY_DELAY 0) 100, m, k, e, mv⟩
    { s with wmon := { s.wmon with late := s.wmon.late ++ [x] } }

/-- MONITOR_CROSSING: the outputs change at once, or after the delay of PT_WM_DLY for every consumer, their status bits among them (R302;
DEDUCED, log 37). -/
def monitorCrossing (m : Nat) (k : MonCmp) (e : MonEdge) (mv : Int) (s : State) : State :=
  if s.monDelayed m && e != .qualified then s.crossLate m k e mv else s.monCross m k e mv

/-- SUPPLY_WARNING, SUPPLY_DIP, SUPPLY_LOSS: crossings of EXT0 (R263), which a perturbation delays as any other of its signals (R260,
R302). -/
def supplyWarning (mv : Int) (s : State) : State :=
  if s.monDelayed 24 then s.crossLate 24 .warnLo .out mv else s.supplyWarned mv
def supplyDip (mv : Int) (s : State) : State :=
  if s.monDelayed 24 then s.crossLate 24 .warnLo .back mv else s.supplyDipped mv
def supplyLoss (mv : Int) (s : State) : State :=
  if s.monDelayed 24 then s.crossLate 24 .rstLo .out mv else s.supplyLost mv

/-- The delayed crossings that are due by `t` take effect. -/
def State.lateCrossings (s : State) (t : Nat) : State :=
  let l := s.wmon.late.filter (fun x => decide (x.due ≤ t))
  if l.isEmpty then s
  else
    let s : State := { s with wmon := { s.wmon with late := s.wmon.late.filter (fun x => decide (t < x.due)) } }
    l.foldl (fun s x => s.monCross x.mon x.cmp x.edge x.mv) s

/-- The lower comparators of EXT0 both act at one instant: the events in ascending code, the request of PFW_N last (R263, R286). -/
def State.supplyBoth (s : State) (warn rst : Bool) (mv : Int) : State :=
  let falls := warn && !s.flag F.WM_MSTAT_BELOW_WARN 24 && s.cmpActs 24 .warnLo
  let s := if falls then s.supplyFalls mv else if warn then s else s.monCross 24 .warnLo .back mv
  let s := s.monCross 24 .rstLo (if rst then .out else .back) mv
  if falls then s.supplyAsks else s

/-- DAC_BLANK_END (R271): after tDAC_SET the outputs follow the new level; an excursion begins or ends, in ascending event code (R286):
warnings first for a rail, resets first for EXT1 to EXT7. -/
def dacBlankEnd (m : Nat) (b : MonBits) (mv : Int) (s : State) : State :=
  if !s.flag F.WM_MSTAT_BLANK m then s
  else
    let s := s.wr F.WM_MSTAT_BLANK m 0
    let one (s : State) (k : MonCmp) (out : Bool) : State := monitorCrossing m k (if out then .out else .back) mv s
    let warn (s : State) : State := one (one s .warnLo b.warnLo) .warnHi b.warnHi
    let rst (s : State) : State := one (one s .rstLo b.rstLo) .rstHi b.rstHi
    let t := if m < 24 then rst (warn s)
      else if m = 24 ∧ s.monDelayed 24 = false then one (one (s.supplyBoth b.warnLo b.rstLo mv) .warnHi b.warnHi) .rstHi b.rstHi
      else warn (rst s)
    t.monShow m

/-- A swap has disabled comparators: they no longer hold an excursion (R260, R262), and without WARN_LO of EXT0 the supply makes no
request (DEDUCED, log 17). -/
def State.cmpApply (s : State) : State :=
  (List.range 8).foldl (fun s i =>
    let m := 24 + i
    let off := [MonCmp.rstLo, .warnLo, .warnHi, .rstHi].filter (fun k => !s.cmpOn m k && s.flag (cmpFld k) m)
    if off.isEmpty then s
    else
      let s := (off.foldl (fun s k => s.wr (cmpFld k) m 0) s).monShow m
      if i = 0 ∧ off.contains .warnLo = true then s.supplyBack else s) s

-- Trips

/-- The comparator whose set-up a trip comparator uses: of a follower its leader's (R267). -/
def State.tripLead (s : State) (t : Nat) : Nat :=
  match tripRail t with
  | some r => if t < 24 ∧ s.paired (r - 1) = true ∧ r % 2 = 0 then t - 1 else t
  | none => t

/-- The shunt through which a trip comparator senses (R222, R266); 0 for one that senses through none. -/
def State.tripShunt (s : State) (t : Nat) : Nat :=
  if 24 ≤ t ∧ t < 30 then s.cf F.HDR_BOARD_SHUNT 0
  else if t = 30 ∨ t = 31 then s.cf F.X_BOARD_SHUNT (t - 30)
  else if t = 34 then s.cf F.WELL_BOARD_ISHUNT 0 else 0

/-- What sets the DAC code of a trip comparator: its threshold, its resolution and its shunt (R253, R266). -/
def State.tripCode (s : State) (t : Nat) : Nat × Nat × Nat :=
  (s.cf F.TC_CFG_THRESH (s.tripLead t), s.cf F.TC_CFG_RES (s.tripLead t), s.tripShunt t)

/-- tDAC_SET at a resolution, in whole µs rounded up (R275). -/
def dacSetUs (res : Nat) : Nat := match res with | 0 | 1 | 2 => 1 | 3 => 2 | 4 => 3 | 5 => 5 | _ => 8

/-- A trip comparator's output is held after a level change (R271). -/
def State.tripBlank (s : State) (t : Nat) : Bool := decide (s.now < s.wmon.tcBlank.at t)

/-- The trip comparators whose codes a swap has moved are held for tDAC_SET (R271). -/
def State.tripApply (s0 s : State) : State :=
  (List.range 36).foldl (fun s t =>
    if s.tripCode t = s0.tripCode t then s
    else { s with wmon := { s.wmon with tcBlank := s.wmon.tcBlank.put t (s.now + dacSetUs (s.tripCode t).2.1) } }) s

/-- The over-voltage kinds (R266). -/
def tripOv (t : Nat) : Bool := (decide (12 ≤ t) && decide (t < 24)) || t == 32 || t == 33 || t == 35

/-- A trip is heard (R252, R267, R271): its stage switches, no flush masks it, its output is not held. In HICCUP_WAIT an over-current is
still counted (R268; DEDUCED against R252, log 17), and in a takeover any trip (R273). -/
def State.tripHeard (s : State) (t : Nat) : Bool :=
  !s.tripBlank t && (s.tripArmed t || (match tripRail t with
    | some r =>
      let l := s.leadRail r
      s.stg l == 8 || (s.stg l == 4 && l != 0 && !tripOv t)
    | none => s.rd F.WELL_STAT_CONV 0 == 3))

/-- TRIP (R267, R268): counted; a run of TRIP_RUN trips reports to the stage as its own over-current or over-voltage, except
that an over-current in SOFT_START, DRAINING or HICCUP_WAIT is counted and nothing more, and so is any trip during a takeover (R273). -/
def trip (t : Nat) (persistent : Bool) (val : Int) (s : State) : State :=
  if !s.tripHeard t then s
  else
    let s := s.bump F.TC_STAT_TRIPS t
    let s := if t < 32 then s.maskBit F.TC_TRIPPED0_MASK t true else s.maskBit F.TC_TRIPPED1_MASK (t - 32) true
    let ov := tripOv t
    let d : EvData := { unit := t, val, cnt := s.rd F.TC_STAT_TRIPS t }
    if !persistent then s
    else match tripRail t with
      | none => if s.rd F.WELL_STAT_CONV 0 = 3 then s else (s.raise 0x0A 0x02 d).wellTrip ov val
      | some r =>
        let r := s.leadRail r
        let st := s.stg r
        if st = 8 ∨ (ov = false ∧ (st = 1 ∨ st = 4 ∨ st = 5)) then s
        else
          let s := s.raise 0x0A 0x02 d
          if ov then outputOverVoltage r val s else s.stageOverCurrent r false

-- DAC audit and readback

/-- The DAC_FAIL field of a DAC: the monitor's mask bit, or the trip comparator's flag (R251, R269). -/
def State.dacMark (s : State) (d : Nat) (bad : Bool) : State :=
  if d < 128 then
    let m := d / 4
    let old := s.rd F.WM_MSTAT_DAC_FAIL m
    s.wr F.WM_MSTAT_DAC_FAIL m (if bad then setBit old (d % 4) else clrBit old (d % 4))
  else s.wr F.TC_STAT_DAC_FAIL (d - 128) (b2n bad)

/-- A DAC is blanked (R271). -/
def State.dacBlank (s : State) (d : Nat) : Bool :=
  if d < 128 then s.flag F.WM_MSTAT_BLANK (d / 4) else s.tripBlank (d - 128)

/-- DACs before `d` that the present pass has passed over without a reading, where each of them was blanked, now or when the audit came by
(R269); none where the audit has not come to `d` yet. -/
def State.auditSkips (s : State) (d : Nat) : Option (List Nat) :=
  let left := (List.range d).filter (fun j => !bitOf s.wmon.auditSeen j)
  if left.all (fun j => bitOf s.wmon.auditSkip j || s.dacBlank j) then some left else none

/-- The audit reads DAC `d` now (R269): in index order, once a pass, none that is blanked; a DAC whose first reading differed comes again
at once. -/
def State.audits (s : State) (d : Nat) : Bool :=
  s.con F.WM_GCFG_AUDIT_EN 0 && decide (d < 164) && !s.dacBlank d && !bitOf s.wmon.auditSeen d && (s.auditSkips d).isSome
    && (s.wmon.retest == 0 || s.wmon.retest == d + 1 || s.dacBlank (s.wmon.retest - 1))

/-- The audit has read DAC `d`; with the last DAC of all a full pass ends (R269). -/
def State.auditDone (s : State) (d : Nat) : State :=
  let seen := setBit s.wmon.auditSeen d
  if seen = 2 ^ 164 - 1 then
    ({ s with wmon := { s.wmon with retest := 0, auditSeen := 0, auditSkip := 0 } } : State).wr F.WM_AUDIT_PASSES 0
      (s.rd F.WM_AUDIT_PASSES 0 + 1)
  else
    let skip := ((s.auditSkips d).getD []).foldl setBit s.wmon.auditSkip
    { s with wmon := { s.wmon with retest := 0, auditSeen := seen, auditSkip := skip } }

/-- DAC_AUDIT_READING (R269): the reading's distance from its ideal value in 12-bit steps. A first reading outside AUDIT_TOL
is measured again at once; a second marks the DAC failed; a passing one clears its mark. -/
def dacAuditReading (d off : Nat) (s : State) : State :=
  if !s.audits d then s
  else
    let bad := decide (s.cf F.WM_GCFG_AUDIT_TOL 0 < off)
    let second := s.wmon.retest = d + 1
    if bad ∧ ¬ second then { s with wmon := { s.wmon with retest := d + 1 } }
    else
      let s := s.dacMark d bad
      let s := if bad then
          let s := (s.bump F.WM_AUDIT_FAILS 0).wr F.WM_AUDIT_LAST_FAIL 0 d
          let cnt := s.rd F.WM_AUDIT_FAILS 0
          if d < 128 then s.raise 0x09 0x04 { unit := d / 4, cnt } else s.raise 0x0A 0x01 { unit := d - 128, cnt }
        else s
      s.auditDone d

/-- WM_RB_CTL.GO (R270). -/
def State.askReadback (s : State) (d : Nat) : Nat × State :=
  if 164 ≤ d then (errRange, s)
  else if s.wmon.readback ≠ 0 then (errBusy, s)
  else (errOk, ({ s with wmon := { s.wmon with readback := d + 1 } } : State).wr F.WM_RB_DATA_VALID 0 0)

/-- DAC_READBACK_DONE (R270): the DAC's output at the comparator input in 0.1 mV. -/
def dacReadbackDone (v : Nat) (s : State) : State :=
  if s.wmon.readback = 0 then s
  else (({ s with wmon := { s.wmon with readback := 0 } } : State).wr F.WM_RB_DATA_VALUE 0 v).wr F.WM_RB_DATA_VALID 0 1

end Sys2Proof.Machine
end

