-- ==== Sys2Proof/Machine/Meas.lean ====
section
/-! DEFINITION. The measurement converters (R409 to R427): the placement of the streams, the conversions, the filter and the
post-averager, the sample blocks, the open-wire checks, the bursts. -/

namespace Sys2Proof.Machine

open Sys2Proof

/-- The marker of a missing sample (R409). -/
def marker : Nat := 0xFFFF

/-- The DATA island and the control plane are powered (R424). -/
def State.dataOn (s : State) : Bool := !s.power.off && bitOf (s.rd F.UNIT_STAT_ISLAND_OK 0) 7

/-- A channel that no stream may name: the readback tap or a reserved one (R409). -/
def badChannel (ch : Nat) : Bool := decide (0x21 ≤ ch) && decide (ch < 0x28)

/-- MS_CFG.TRIG of a stream: 0 OFF, 1 CONT, 2 PIN, 3 STEP (R412). -/
def State.trig (s : State) (i : Nat) : Nat := s.cf F.MS_CFG_TRIG i

/-- A stream. -/
def State.strm (s : State) (i : Nat) : Stream := s.meas.streams.at i

/-- Change a stream. -/
def State.setStrm (s : State) (i : Nat) (f : Stream → Stream) : State :=
  { s with meas := { s.meas with streams := s.meas.streams.put i (f (s.strm i)) } }

/-- Slots of a frame that a stream owns: 2 to the SLOTS_LOG2, none while OFF (R411, R412). -/
def streamSize (rd : Fld → Nat → Nat) (i : Nat) : Nat :=
  if rd F.MS_CFG_TRIG i = 0 then 0 else 2 ^ rd F.MS_CFG_SLOTS_LOG2 i

/-- The stream belongs to a pair (R421). -/
def pairStream (rd : Fld → Nat → Nat) (i : Nat) : Bool :=
  rd F.MEAS_BLK_PAIR 0 == 1 && i % 4 == rd F.MEAS_BLK_SRC 0

/-- The streams of a converter in the order in which they are placed (R411). -/
def placeOrder (rd : Fld → Nat → Nat) (mc : Nat) : List Nat :=
  let all := (List.range 4).map (mc * 4 + ·)
  let rest := all.filter (fun i => !pairStream rd i)
  all.filter (pairStream rd) ++ [16, 8, 4, 2, 1].flatMap (fun z => rest.filter (fun i => streamSize rd i == z))

/-- The slots of a frame that a stream of size `z` owns from position `p`. -/
def slotsFrom (z p : Nat) : List Nat := (List.range z).map (fun j => p + j * (16 / z))

/-- Place streams one after another at the lowest free position (R411): the owner of each slot. -/
def placeAll (rd : Fld → Nat → Nat) : List Nat → List (Nat × Nat) → List (Nat × Nat)
  | [], acc => acc
  | i :: is, acc =>
    let z := streamSize rd i
    let free (p : Nat) : Bool := (slotsFrom z p).all (fun x => !(acc.any (fun c => c.1 == x)))
    match if z = 0 then none else (List.range (16 / z)).find? free with
    | some p => placeAll rd is (acc ++ (slotsFrom z p).map (fun x => (x, i)))
    | none => placeAll rd is acc

/-- The owner of each slot of a converter's frame (R411). -/
def State.owners (s : State) (mc : Nat) : List (Nat × Nat) := placeAll s.cf (placeOrder s.cf mc) []

/-- A stream uses its slots in this frame (R411). -/
def State.usesFrame (s : State) (i frame : Nat) : Bool := frame % (s.cf F.MS_CFG_FRAME_DIV i + 1) == 0

/-- The stream that owns a slot in its frame (R411). -/
def State.ownerOf (s : State) (mc slot : Nat) : Option Nat :=
  match (s.owners mc).find? (fun c => c.1 == slot % 16) with
  | some c => if s.usesFrame c.2 (slot / 16) then some c.2 else none
  | none => none

/-- A converter has a free slot in a frame (R411). -/
def State.freeSlot (s : State) (mc frame : Nat) : Bool :=
  (List.range 16).any (fun x => s.ownerOf mc (frame * 16 + x) == none)

/-- A stream converts: CONT, or within a run. -/
def State.converting (s : State) (i : Nat) : Bool := s.dataOn && (s.trig i == 1 || (s.strm i).run)

/-- MS_STAT.STATE (R412, R414); OFF while the DATA island is unpowered. -/
def State.streamState (s : State) (i : Nat) : Nat :=
  if !s.dataOn || s.trig i == 0 then 0
  else if !s.converting i then 1
  else if s.cf F.MS_FILT_N i != 0 && !(s.strm i).settled then 3 else 2

/-- The streams of the block source (R419, R421). -/
def blkStreams (rd : Fld → Nat → Nat) : List Nat :=
  if rd F.MEAS_BLK_EN 0 = 0 then []
  else if rd F.MEAS_BLK_PAIR 0 = 1 then [rd F.MEAS_BLK_SRC 0 % 4, rd F.MEAS_BLK_SRC 0 % 4 + 4] else [rd F.MEAS_BLK_SRC 0]

/-- Write what MEAS_STAT and MS_STAT show of the streams. -/
def State.measShow (s : State) : State :=
  let sum (mc : Nat) : Nat := (List.range 4).foldl (fun a j => a + streamSize s.cf (mc * 4 + j)) 0
  let s := (List.range 8).foldl (fun s i => s.wr F.MS_STAT_STATE i (s.streamState i)) s
  s.wr F.MEAS_STAT_FREE0 0 (16 - sum 0) |>.wr F.MEAS_STAT_FREE1 0 (16 - sum 1)
    |>.wr F.MEAS_STAT_BLK_ACTIVE 0 (b2n ((blkStreams s.cf).any (fun i => s.streamState i == 2)))

-- Sample blocks

/-- Form one sample-block record, stamped with output 0's stamp (R419). -/
def State.blkRec (s : State) (outs : List (Nat × Nat)) : State :=
  s.emitAt ((outs.map (·.1)).headD 0) 0x0F 0x02 (outs.flatMap (fun o => bytes 2 o.2))

/-- Fill a list of outputs with markers up to `n`. -/
def fillUp (n : Nat) (l : List (Nat × Nat)) : List (Nat × Nat) :=
  l ++ List.replicate (n - l.length) ((l.map (·.1)).headD 0, marker)

/-- Outputs of the two converters in turn (R421). -/
def interleave : List (Nat × Nat) → List (Nat × Nat) → List (Nat × Nat)
  | a :: as, b :: bs => a :: b :: interleave as bs
  | as, _ => as

/-- Four outputs of each stream of a pair in one record, those missing as markers (R419, R421). -/
def State.pairRec (s : State) (a b : List (Nat × Nat)) : State :=
  let t := ((a ++ b).map (·.1)).headD 0
  s.blkRec (interleave (if a.isEmpty then List.replicate 4 (t, marker) else fillUp 4 a)
    (if b.isEmpty then List.replicate 4 (t, marker) else fillUp 4 b))

/-- Form the block left incomplete, filled with markers (R419); of a pair, one record for each four outputs of the stream that has
run ahead. -/
def State.blkFlush (s : State) (pair : Bool) : State :=
  let a := s.meas.blk
  let b := s.meas.blk2
  let s := { s with meas := { s.meas with blk := [], blk2 := [] } }
  if a.isEmpty && b.isEmpty then s
  else if pair then
    (List.range ((max a.length b.length + 3) / 4)).foldl (fun s k => s.pairRec ((a.drop (4 * k)).take 4) ((b.drop (4 * k)).take 4)) s
  else s.blkRec (fillUp 8 a)

/-- An output of a block source stream enters the block in progress (R419, R421). -/
def State.blkPush (s : State) (i t v : Nat) : State :=
  match blkStreams s.cf with
  | [] => s
  | [_] =>
    let a := s.meas.blk ++ [(t, v)]
    if 8 ≤ a.length then ({ s with meas := { s.meas with blk := a.drop 8 } } : State).blkRec (a.take 8)
    else { s with meas := { s.meas with blk := a } }
  | _ =>
    let a := if i < 4 then s.meas.blk ++ [(t, v)] else s.meas.blk
    let b := if i < 4 then s.meas.blk2 else s.meas.blk2 ++ [(t, v)]
    if 4 ≤ a.length ∧ 4 ≤ b.length then
      ({ s with meas := { s.meas with blk := a.drop 4, blk2 := b.drop 4 } } : State).blkRec (interleave (a.take 4) (b.take 4))
    else { s with meas := { s.meas with blk := a, blk2 := b } }

-- Streams

/-- A run ends (R419). -/
def State.endRun (s : State) (i : Nat) : State :=
  let others := (blkStreams s.cf).any (fun j => j != i && (s.strm j).run)
  let s := s.setStrm i (fun _ => {})
  if (blkStreams s.cf).contains i && !others then s.blkFlush (s.cf F.MEAS_BLK_PAIR 0 == 1) else s

/-- A stream has formed an output (R412, R415). -/
def State.output (s : State) (i t v : Nat) : State :=
  let s := s.wr F.MS_RES_VALUE i v |>.wr F.MS_RES_COUNT i (s.rd F.MS_RES_COUNT i + 1)
  let s := if (blkStreams s.cf).contains i then s.blkPush i t v else s
  if (s.strm i).run then
    if (s.strm i).left ≤ 1 then (s.endRun i).measShow else s.setStrm i (fun x => { x with left := x.left - 1 })
  else s

/-- The post-averager takes one output of the decimator, or a marker (R415). -/
def State.average (s : State) (i t v : Nat) : State :=
  let a := s.cf F.MS_FILT_AVG i
  if a = 0 then s.output i t v
  else if v = marker then s
  else
    let x := s.strm i
    let sum := x.sum + v
    let t0 := if x.cnt = 0 then t else x.stamp
    if x.cnt + 1 = a + 1 then
      let sh := s.cf F.MS_FILT_SHIFT i
      (s.setStrm i (fun x => { x with sum := 0, cnt := 0 })).output i t0 (min 0xFFFE ((sum + 2 ^ sh / 2) / 2 ^ sh))
    else s.setStrm i (fun x => { x with sum, cnt := x.cnt + 1, stamp := t0 })

/-- A stream takes one sample whose conversion started at the stroke time `t`, or a marker for a missing one: RAW passes it on with
that stamp, SINC gathers it into the window of the present stroke (R413 to R415). -/
def State.sample (s : State) (i t v : Nat) : State :=
  if s.cf F.MS_FILT_N i = 0 then s.average i t v
  else if (s.strm i).whole = false then s
  else s.setStrm i (fun x => { x with wins := match x.wins with | [] => [[v]] | w :: ws => (v :: w) :: ws })

/-- A stream's sample is displaced (R413). -/
def State.displace (t : Nat) (s : State) (i : Nat) : State := (s.bump F.MS_STAT_DISPLACED i).sample i t marker

/-- A run's conversion falls into a slot: its first takes the next slot, later ones follow at the stream's spacing
(R412). -/
def State.runDue (s : State) (i slot : Nat) : Bool :=
  (s.strm i).run && match (s.strm i).first with
    | none => true
    | some p => (slot - p) % (16 / 2 ^ s.cf F.MS_CFG_SLOTS_LOG2 i) == 0 && s.usesFrame i ((slot - p) / 16)

/-- The place of a service in their order of priority (R416). -/
def serviceRank : Service → Nat
  | .readback => 0 | .audit _ => 1 | .openWire _ => 2 | .crossCheck => 3

/-- A service may take a slot of a converter (R416): the audit keeps to its own converter, MC0 for even DAC indices, while that one has
a free slot in the frame. -/
def State.serviceFits (s : State) (mc frame : Nat) : Service → Bool
  | .audit d => d.val % 2 == mc || !s.freeSlot (d.val % 2) frame
  | _ => true

/-- The service that converts next in a slot of a converter, of those that ask (R416). -/
def State.nextService (s : State) (mc frame : Nat) (asks : List Service) : Option Service :=
  let l := asks.filter (s.serviceFits mc frame)
  (List.range 4).findSome? (fun k => l.find? (fun x => serviceRank x == k))

/-- ADC_CONVERSION_DONE: converter `mc` has converted in a slot. `ow`: a check current flows on the input; `asks`: the services that
wait for a slot (R413, R416). A service takes a slot that is free; where neither converter has one, it borrows a slot of a CONT
stream. -/
def adcConversionDone (mc : Nat) (at_ : ConvSlot) (code : Nat) (ow : Bool) (asks : List Service) (s : State) : State :=
  if !s.dataOn then s
  else
    let slot := at_.slot
    let t := s.tb.now - at_.ago.val
    let runs := ((List.range 4).map (mc * 4 + ·)).filter (fun i => s.runDue i slot)
    let s := runs.foldl (fun s i => s.setStrm i (fun x => { x with first := some (x.first.getD slot) })) s
    let own := match s.ownerOf mc slot with | some i => if s.trig i = 1 then [i] else [] | none => []
    let svc := s.nextService mc (slot / 16) asks
    let gap : Bool := s.meas.lent.at mc == 0 || decide (s.meas.lent.at mc + 32 ≤ slot + 1)
    let lend := svc.isSome && runs.isEmpty && !own.isEmpty && gap && !s.freeSlot 0 (slot / 16) && !s.freeSlot 1 (slot / 16)
    let s := if lend then
        ({ s with meas := { s.meas with lent := s.meas.lent.put mc (slot + 1) } } : State).bump F.MEAS_EVT_BORROWED 0
      else s
    let s := if runs.isEmpty && (lend || s.ownerOf mc slot == none) then { s with out := { s.out with served := svc } } else s
    match (if lend then [] else runs ++ own) with
    | [] => own.foldl (State.displace t) s
    | i :: rest => rest.foldl (State.displace t) (s.sample i t (if ow then marker else min code 0xFFFE))

/-- A stream starts: its filter and averager are empty, its outputs counted from 0 (R414). -/
def State.startStream (s : State) (i : Nat) : State := (s.setStrm i (fun _ => {})).wr F.MS_RES_COUNT i 0

/-- A PIN or STEP run starts (R412, R422). -/
def State.startRun (s : State) (i blocks : Nat) (ch : Option Nat) : State :=
  (s.startStream i).setStrm i (fun x => { x with run := true, left := blocks * 8, ch })

/-- A PIN stream at an ADC_TRIG edge (R412, R413). -/
def State.pinEdge (s : State) (i : Nat) : State :=
  if s.trig i ≠ 2 then s
  else if (s.strm i).run then 
    let s := s.bump F.MS_STAT_TRIG_MISSED i
    s.raise 0x0F 0x03 { unit := i, cnt := s.rd F.MS_STAT_TRIG_MISSED i }
  else s.startRun i (s.cf F.MS_CFG_BLOCKS i) none

/-- ADC_TRIG_EDGE: a pulse of at least tTRIG_PW (R412, R413). -/
def adcTrigEdge (rising : Bool) (s : State) : State :=
  if !s.dataOn || (rising == s.con F.MEAS_GCFG_TRIG_EDGE 0) then s
  else ((List.range 8).foldl State.pinEdge s).measShow

/-- An ADC_BURST step (R422). -/
def State.askBurst (s : State) (mc ch blocks : Nat) : Nat × State :=
  match (blkStreams s.cf).find? (fun i => i / 4 == mc) with
  | none => (errState, s)
  | some i =>
    if s.trig i ≠ 3 then (errState, s)
    else if (s.strm i).run then (errBusy, s)
    else if badChannel ch ∨ blocks = 0 then (errRange, s)
    else if !s.dataOn then (errOk, s)
    else (errOk, ((blkStreams s.cf).foldl (fun s j => s.startRun j blocks (if j = i then some ch else none)) s).measShow)

/-- The mean of the values present, where there are any. -/
def meanOf (l : List (Option Nat)) : Option Nat :=
  let v := l.filterMap id
  if v.isEmpty then none else some (v.foldl (· + ·) 0 / v.length)

/-- One stage of the decimator over two strokes, `a` before `b` (R414): at each place of `b`, the mean over the window of one stroke
that ends there, of what fell into it. -/
def sincStage (a b : List (Option Nat)) : List (Option Nat) :=
  (List.range b.length).map (fun j => meanOf (a.drop ((j + 1) * a.length / b.length) ++ b.take (j + 1)))

/-- The strokes after `n` stages, oldest first. -/
def sincStages : Nat → List (List (Option Nat)) → List (List (Option Nat))
  | 0, l => l
  | n + 1, l => sincStages n (List.zipWith sincStage l l.tail)

/-- A sinc^N decimator's output over the samples of N strokes, newest first, in units of 1/65536 LSB: N stages, each a mean over one
stroke, scaled by the samples present (R414). -/
def sincExact (n : Nat) (l : List (List Nat)) : Option Nat :=
  let strokes := (l.take n).reverse.map (fun w => w.reverse.map (fun v => if v = marker then none else some (v * 65536)))
  (sincStages (n - 1) strokes).head?.bind meanOf

/-- The output of a sinc^N decimator: its value to within 1 LSB, the last digit free; free where no sample is present (R414; log 40). -/
def sincValue (n : Nat) (l : List (List Nat)) : Nat :=
  match sincExact n l with
  | some q =>
    let v := (q + 32768) / 65536
    min 0xFFFE (max (v - 1) (min (v + 1) (Config.sinc n l)))
  | none => min 0xFFFE (Config.sinc n l)

/-- A SINC stream at a stroke boundary: the partial stroke is discarded, and after N whole strokes each boundary forms one
output (R414). -/
def State.sincBoundary (s : State) (i : Nat) : State :=
  let n := s.cf F.MS_FILT_N i
  if n = 0 ∨ s.converting i = false then s
  else
    let x := s.strm i
    if !x.whole then s.setStrm i (fun x => { x with whole := true, wins := [[]] })
    else if x.wins.length < n then s.setStrm i (fun x => { x with wins := [] :: x.wins })
    else
      let v := sincValue n (x.wins.take n)
      (s.setStrm i (fun x => { x with settled := true, wins := [] :: x.wins.take (n - 1) })).average i s.tb.now v

/-- The streams at a stroke boundary. -/
def State.measBoundary (s : State) : State := ((List.range 8).foldl State.sincBoundary s).measShow

/-- SINC streams restart their settling after a count or angle step (R414, R424). -/
def State.measResettle (s : State) : State :=
  ((List.range 8).foldl (fun s i => if s.cf F.MS_FILT_N i = 0 then s
    else s.setStrm i (fun x => { x with whole := false, settled := false, wins := [] })) s).measShow

/-- A stream's own set-up differs between two banks. -/
def streamChanged (old new : Fld → Nat → Nat) (i : Nat) : Bool :=
  [F.MS_CFG_TRIG, F.MS_CFG_CH, F.MS_CFG_SLOTS_LOG2, F.MS_CFG_FRAME_DIV, F.MS_CFG_BLOCKS, F.MS_FILT_N, F.MS_FILT_AVG,
    F.MS_FILT_SHIFT].any (fun f => old f i != new f i)

/-- A swap has put `s` in the place of `s0`: streams whose set-up, or the block source, has changed restart, and the
incomplete block is formed (R424). -/
def State.measApply (s0 s : State) : State :=
  let was := blkStreams s0.cf
  let src := was != blkStreams s.cf
  let hit (i : Nat) : Bool := streamChanged s0.cf s.cf i || (src && (was.contains i || (blkStreams s.cf).contains i))
  let s := if was.any hit then s.blkFlush (was.length == 2) else s
  ((List.range 8).foldl (fun s i => if hit i then s.startStream i else s) s).measShow

/-- The DATA island is lost: every run ends and the incomplete block is formed at once (R419, R424). -/
def State.measLost (s : State) : State :=
  let s := s.blkFlush ((blkStreams s.cf).length == 2)
  (List.range 8).foldl (fun s i => s.setStrm i (fun _ => {})) s

/-- The streams start afresh: the DATA island has returned, or a chip reset has loaded the banks (R424). -/
def State.measStart (s : State) : State := ((List.range 8).foldl State.startStream s).measShow

-- Services

/-- A mode of an AIN: bits [2n+1:2n] of MEAS_OW (R418). -/
def State.owMode (s : State) (n : Nat) : Nat := bitsOf (s.cf F.MEAS_OW_MODE 0) (2 * n + 1) (2 * n)

/-- OPEN_WIRE_CHECK: the two readings of AIN `n` as conversion codes. The check waits for the end of a run that uses the
AIN (R418, R424). -/
def openWireCheck (n up dn : Nat) (s : State) : State :=
  let busy := (List.range 8).any (fun i => (s.strm i).run && (s.strm i).ch.getD (s.cf F.MS_CFG_CH i) == n)
  if !s.dataOn || s.owMode n != 3 || busy then s
  else
    let opn := decide (s.cf F.MEAS_GCFG_OW_THR 0 * 1000000 < (up - dn) * 3125)
    let m := s.rd F.MEAS_STAT_OPEN 0
    let val : Int := (((up : Int) - dn) * 3125).tdiv 100000
    if opn == bitOf m n then s
    else if opn then
      let s := (s.wr F.MEAS_STAT_OPEN 0 (setBit m n)).bump F.MEAS_EVT_OPEN_EVENTS 0
      s.raise 0x0F 0x01 { unit := n, val, cnt := s.rd F.MEAS_EVT_OPEN_EVENTS 0 }
    else (s.wr F.MEAS_STAT_OPEN 0 (clrBit m n)).raise 0x0F 0x02 { unit := n, val }

/-- The converter cross-check (R417): the difference MC1 − MC0 on the median reference and, where that is over the limit,
the one of the repeated conversions. -/
def State.crossCheck (s : State) (d1 d2 : Int) : State :=
  let apart (d : Int) : Bool := decide (32 < d.natAbs)
  let d := if apart d1 then d2 else d1
  let s := s.wr F.MEAS_XCHK_DIFF 0 (s16 d)
  if apart d1 && apart d2 then
    let s := s.bump F.MEAS_EVT_XCHK_FAIL 0
    s.raise 0x0F 0x04 { cnt := s.rd F.MEAS_EVT_XCHK_FAIL 0 }
  else s

/-- The cross-check of an audit pass, made while AUDIT_EN = 1 (R417). -/
def State.passCheck (s : State) (x : Option (Int × Int)) : State :=
  match x with
  | some d => if s.con F.WM_GCFG_AUDIT_EN 0 && s.dataOn then s.crossCheck d.1 d.2 else s
  | none => s

end Sys2Proof.Machine
end

