-- ==== Sys2Proof/Machine/Timers.lean ====
section
/-! DEFINITION. The eight timers (R463 to R470). -/

namespace Sys2Proof.Machine

open Sys2Proof

/-- The codes that GATE_SEL and CAP_SEL may name (R464). -/
def signalCode (c : Nat) : Bool :=
  decide (c ≤ 0x42) || (decide (0x48 ≤ c) && decide (c ≤ 0x51)) || (decide (0x58 ≤ c) && decide (c ≤ 0x5F))

/-- A timer's active TOP and CMP (R465). -/
def State.topOf (s : State) (t : Nat) : Nat := 0xFFFFFFFF - s.timers.top.at t
def State.cmpOf (s : State) (t : Nat) : Nat := 0xFFFFFFFF - s.timers.cmp.at t

/-- A timer's count. -/
def State.cnt (s : State) (t : Nat) : Nat := s.rd F.TM_CNT_VALUE t

/-- OUT_WIN or OUT_RST of a monitor (R260): its bit of WM_OUT or WM_RST_OUT; disabled comparators contribute 0. -/
def State.monSignal (s : State) (f : Fld) (m : Nat) (a b : MonCmp) : Bool :=
  (s.cmpOn m a || s.cmpOn m b) && bitOf (s.rd f 0) m

/-- The level of a signal (R260, R464). -/
def State.signal (s : State) (c : Nat) : Bool :=
  if c < 0x20 then s.monSignal F.WM_OUT_MASK c .warnLo .warnHi
  else if c < 0x40 then s.monSignal F.WM_RST_OUT_MASK (c - 0x20) .rstLo .rstHi
  else if c = 0x40 then s.flag F.PFW_STAT_ASSERTED 0
  else if c = 0x41 then s.faultStands
  else if c = 0x42 then s.safe
  else if c < 0x50 then bitOf s.sched.sig (c - 0x48)
  else if c = 0x50 then s.timers.adcTrig
  else if c = 0x51 then s.timers.ppsIn
  else decide (s.cmpOf (c - 0x58) ≤ s.cnt (c - 0x58))

/-- TM_STAT.GATE: the present level of the gate signal. -/
def State.gate (s : State) (t : Nat) : Bool := s.signal (s.cf F.TM_CFG_GATE_SEL t)

/-- A timer runs. -/
def State.tmRuns (s : State) (t : Nat) : Bool := bitOf (s.rd F.TM_RUN_RUN 0) t

/-- A timer counts the ticks of its clock: it runs, and its gate is active (R465). -/
def State.tmCounts (s : State) (t : Nat) : Bool :=
  s.tmRuns t && (s.cf F.TM_CFG_CLK t == 5 || !s.con F.TM_CFG_GATE_EN t || s.gate t == s.con F.TM_CFG_GATE_LVL t)

/-- Copy a timer's preloads into its active values (R465). -/
def State.tmLoad (s : State) (t : Nat) : State :=
  { s with timers := { s.timers with
      top := s.timers.top.put t (0xFFFFFFFF - s.rd F.TM_TOP_VALUE t)
      cmp := s.timers.cmp.put t (0xFFFFFFFF - s.rd F.TM_CMP_VALUE t) } }

/-- The count has become equal to the active CMP (R465). -/
def State.tmMatch (s : State) (t : Nat) : State :=
  let s := s.wr F.TM_STAT_CMP t 1
  if s.con F.TM_CFG_CMP_EVT t then s.raise 0x12 0x01 { unit := t } else s

/-- Move a timer's count on without a wrap; a compare value that lies on the way matches. -/
def State.tmMove (s : State) (t c : Nat) : State :=
  let old := s.cnt t
  let s := s.wr F.TM_CNT_VALUE t c
  if old < s.cmpOf t ∧ s.cmpOf t ≤ c ∧ s.cmpOf t ≤ s.topOf t then s.tmMatch t else s

/-- The tick at the active TOP (R465, R470): the count becomes 0, or a one-shot timer stops with the count at TOP. The
compare is judged before the preloads are copied. -/
def State.tmWrap (s : State) (t : Nat) : State :=
  let s := s.wr F.TM_STAT_WRAP t 1
  if s.con F.TM_CFG_ONESHOT t then s.wr F.TM_RUN_RUN 0 (clrBit (s.rd F.TM_RUN_RUN 0) t)
  else
    let s := s.wr F.TM_CNT_VALUE t 0
    (if s.cmpOf t = 0 then s.tmMatch t else s).tmLoad t

/-- The count is set to 0 (R465, R466): an active CMP of 0 matches where the count becomes equal to it. -/
def State.tmClear (s : State) (t : Nat) : State :=
  if s.cnt t = 0 then s
  else
    let s := s.wr F.TM_CNT_VALUE t 0
    if s.cmpOf t = 0 then s.tmMatch t else s

/-- `n` ticks that a timer counts, as at most `fuel` wraps with the counts between them, until a one-shot timer stops. A count above TOP
runs on through 2^32 (R465). -/
def State.tmAdvance (t : Nat) : Nat → Nat → State → State
  | 0, _, s => s
  | fuel + 1, n, s =>
    if n = 0 ∨ s.tmRuns t = false then s
    else
      let c := s.cnt t
      let top := s.topOf t
      if top < c then
        let k := 0x100000000 - c
        if n < k then s.wr F.TM_CNT_VALUE t (c + n)
        else State.tmAdvance t fuel (n - k) (s.tmClear t)
      else if n ≤ top - c then s.tmMove t (c + n)
      else State.tmAdvance t fuel (n - (top - c) - 1) ((s.tmMove t top).tmWrap t)

/-- Ticks until a timer's compare output may change: to its active CMP, or to its wrap (R464, R465). -/
def State.tmNext (s : State) (t : Nat) : Nat :=
  let c := s.cnt t
  let wrap := if c ≤ s.topOf t then s.topOf t - c + 1 else 0x100000000 - c % 0x100000000
  if c < s.cmpOf t then min (s.cmpOf t - c) wrap else wrap

/-- `n` ticks of the clock `clk`, in runs within which no timer's compare output changes: a timer may gate another (R464). -/
def State.tmTicks (clk : Nat) : Nat → Nat → State → State
  | 0, _, s => s
  | fuel + 1, n, s =>
    let l := (List.range 8).filter (fun t => s.cf F.TM_CFG_CLK t == clk && s.tmCounts t)
    let k := l.foldl (fun k t => min k (s.tmNext t)) n
    if n = 0 ∨ l = [] then s
    else State.tmTicks clk fuel (n - k) (l.foldl (fun s t => State.tmAdvance t (k + 1) k s) s)

/-- `n` ticks of the clock `clk` have passed: every timer on it counts (R463). -/
def State.clockTicks (s : State) (clk n : Nat) : State := if s.power.off then s else State.tmTicks clk n n s

/-- Timers of a mask start together, and copy their preloads; a running one is left alone (R465, R466). -/
def State.tmStart (s : State) (m : Nat) : State :=
  (List.range 8).foldl (fun s t => if bitOf m t && !s.tmRuns t then
      (s.tmLoad t).wr F.TM_RUN_RUN 0 (setBit (s.rd F.TM_RUN_RUN 0) t)
    else s) s

/-- Timers of a mask stop together (R466). -/
def State.tmStop (s : State) (m : Nat) : State :=
  (List.range 8).foldl (fun s t => if bitOf m t then s.wr F.TM_RUN_RUN 0 (clrBit (s.rd F.TM_RUN_RUN 0) t) else s) s

/-- TM_GCTL (R466): a timer named in both masks is refused with RANGE. -/
def State.askTmGctl (s : State) (start stop : Nat) : Nat × State :=
  if mAnd start stop ≠ 0 then (errRange, s) else (errOk, (s.tmStart start).tmStop stop)

/-- TM_CTL (R466, R474). -/
def State.askTmCtl (s : State) (t : Nat) (clr load : Bool) : Nat × State :=
  if clr && load then (errRange, s)
  else if load then (if s.tmRuns t then (errState, s) else (errOk, s.tmLoad t))
  else if clr then (errOk, s.tmClear t)
  else (errOk, s)

/-- TIMER_WRAP: the clock has run to the tick at the active TOP (R465). -/
def timerWrap (t : Nat) (s : State) : State :=
  if s.tmCounts t = false then s
  else if s.cnt t ≤ s.topOf t then (s.tmMove t (s.topOf t)).tmWrap t
  else (s.tmClear t).tmMove t (s.topOf t) |>.tmWrap t

/-- TIMER_COMPARE: the clock has run to the active CMP (R465). A CMP above TOP never matches. -/
def timerCompare (t : Nat) (s : State) : State :=
  if s.tmCounts t && decide (s.cnt t < s.cmpOf t) && decide (s.cmpOf t ≤ s.topOf t) then s.tmMove t (s.cmpOf t) else s

/-- TIMER_CAPTURE: an edge that CAP_EDGE selects (R467). -/
def timerCapture (t : Nat) (s : State) : State :=
  if s.cf F.TM_CFG_CAP_EDGE t = 0 then s
  else
    let c := s.cnt t
    let missed := s.flag F.TM_STAT_CAP t
    let s := s.wr F.TM_CAPT_VALUE t c
    let s := if s.rd F.TM_MAX_VALUE t < c then s.wr F.TM_MAX_VALUE t c else s
    let s := (s.bump F.TM_STAT_CAPS t).wr F.TM_STAT_CAP t 1
    if missed then (s.wr F.TM_STAT_OVR t 1).raise 0x12 0x02 { unit := t } else s

/-- TIMER_GATE_ACTIVE: the gate signal has changed, to high (`rising`) or low. It becomes active at GATE_LVL and clears the
count with CLR_GATE; with CLK 0b101 a rising edge is the event counted (R463, R465). -/
def timerGateActive (t : Nat) (rising : Bool) (s : State) : State :=
  let s := if s.cf F.TM_CFG_CLK t == 5 && rising then State.tmAdvance t 2 1 s else s
  if s.con F.TM_CFG_CLR_GATE t && rising == s.con F.TM_CFG_GATE_LVL t then s.tmClear t else s

/-- A chip reset clears what the timers hold beside their fields (R470). -/
def State.tmReset (s : State) : State := { s with timers := { s.timers with top := {}, cmp := {} } }

end Sys2Proof.Machine
end

