-- ==== Sys2Proof/Machine/Copies.lean ====
section
/-! DEFINITION. Status-change copies (R61): after a command, every status register that a command has changed is compared
with what it was, and each change gives one record of type 0x06: a register whose state machine goes through several states within
one command gives a copy for each of them (log 4). -/

namespace Sys2Proof.Machine

/-- What a status-change copy gives as its cause (R61). -/
inductive CopyCause where
  | hardware | pcieRead | twoWireRead | commit
deriving DecidableEq, Repr

/-- Byte 14 of a status-change copy (R61). -/
def CopyCause.code : CopyCause → Nat
  | .hardware => 1 | .pcieRead => 2 | .twoWireRead => 3 | .commit => 4

/-- The cause of a clear by a master's read. -/
def CopyCause.ofMaster : Master → CopyCause
  | .pcie => .pcieRead | .twoWire => .twoWireRead

/-- The fault block of a register address (R278); the identity block and the fault windows are CORE's. -/
def blockOf (addr : Nat) : Nat :=
  match addr / 0x200 with
  | 0x01 => 0x01 | 0x02 => 0x02 | 0x03 => 0x03 | 0x04 => 0x04 | 0x05 => 0x05
  | 0x06 => 0x06 | 0x07 => 0x06 | 0x08 => 0x06 | 0x09 => 0x07 | 0x0A => 0x08 | 0x0B => 0x08
  | 0x0C => 0x09 | 0x0D => 0x0A | 0x0E => 0x0B | 0x0F => 0x0C | 0x10 => 0x0D | 0x11 => 0x0E
  | 0x12 => 0x0F | 0x13 => 0x10 | 0x14 => 0x11 | 0x15 => 0x12 | 0x16 => 0x13 | 0x17 => 0x14
  | 0x18 => 0x15 | 0x1F => 0x16 | _ => 0x00

/-- The keys at which two tables of fields differ. -/
def changedKeys (a b : Tab Nat) : List Nat :=
  ((b.cells.filter (fun c => cellsGet? a.cells c.1 ≠ some c.2)).map (·.1))
  ++ ((a.cells.filter (fun c => cellsGet? b.cells c.1 = none)).map (·.1))

/-- A register and its instance, from the key of one of its fields. -/
def regOfKey (k : Nat) : Nat × Nat := (k / 0x100000, k % 0x100000 / 32)

/-- The registers whose value follows from others (Flags.lean). -/
def derivedRegs : List (Nat × Nat) :=
  [(0, 0x10), (0, 0x18), (0, 0x300C), (0, 0x3204), (0, 0x3208)]
  ++ (List.range 23).map (fun b => (b, 0x3300)) ++ (List.range 23).map (fun b => (b, 0x3228))
  ++ (List.range 12).map (fun c => (c, 0xC40)) ++ (List.range 36).map (fun t => (t, 0x1A40)) ++ (List.range 4).map (fun m => (m, 0x680))

/-- The keys at which two tables of any kind differ. -/
def tabDiff {α : Type} [DecidableEq α] [Inhabited α] (a b : Tab α) : List Nat :=
  ((a.cells ++ b.cells).map (·.1)).filter (fun k => a.at k ≠ b.at k)

/-- The segments and banks whose registers may have changed (R165). -/
def segRegs (s t : State) : List (Nat × Nat) :=
  if s.cist.segs = t.cist.segs ∧ s.cist.active = t.cist.active then []
  else
    let segs := tabDiff s.cist.segs t.cist.segs
    let banks := (tabDiff s.cist.active t.cist.active).flatMap (fun k =>
      ((List.range 16).filter (fun b => bitOf (s.cist.active.at k) b != bitOf (t.cist.active.at k) b)).map (k * 16 + ·))
    let inBanks := banks.flatMap (fun k =>
      let a := arrOf (k % 32 / 16)
      (List.range (bankSize a)).map (fun i => segKey (k / 32) a (k % 16 * bankSize a + i)))
    let own := segs.map (fun k => bankKey (k / 4096) (arrOf (k % 4096 / 2048)) (bankOf (arrOf (k % 4096 / 2048)) (k % 2048)))
    (segs ++ inBanks).map (fun k => (k, 0x1238)) ++ (banks ++ own).map (fun k => (k, 0x1230))

/-- The registers that may have changed from `s` to `t`, each once. -/
def changedRegs (s t : State) : List (Nat × Nat) :=
  (((changedKeys s.sts t.sts ++ changedKeys s.ring.sts t.ring.sts).map regOfKey) ++ derivedRegs ++ t.mids.map (·.1)
    ++ segRegs s t).eraseDups

/-- The address that a copy names for an instance of a register (R61): a register reached through a window has one
address for all its instances. -/
def RegSpec.addrOf (r : RegSpec) (i : Nat) : Nat :=
  match r.win with | .arr stride _ => r.base + i * stride | _ => r.base

/-- The registers that change at a commit or in a power-state transition alone (R61): PSTATE, COMMIT_SEQ, ACTIVE_CRC, SCH_ERR,
WM_ERR, HR_RATE and HR_ERR; COMMIT_STAT where its STATE changes. -/
def atCommit (s t : State) (reg : Nat) : Bool :=
  [0x10, 0x210, 0x214, 0x694, 0x1828, 0x2224, 0x2228].contains reg
    || (reg == 0x20C && s.rd F.COMMIT_STAT_STATE 0 != t.rd F.COMMIT_STAT_STATE 0)

/-- A command has changed the power state or swapped the banks: all that it changes is changed by that (R61). -/
def inTransition (s t : State) : Bool :=
  s.power.st != t.power.st || s.rd F.COMMIT_SEQ_COUNT 0 != t.rd F.COMMIT_SEQ_COUNT 0

/-- The cause of one register's copy within a command of cause `c` (R61; DEDUCED, log 4). -/
def CopyCause.forReg (c : CopyCause) (s t : State) (reg : Nat) : CopyCause :=
  if inTransition s t || atCommit s t reg then .commit else c

/-- The cause of one change within a command of cause `c`: a read only clears, so bits that it finds set by the hardware (a count of
repairs, the end of a read-ahead) carry the hardware's cause (R61; DEDUCED, log 4). `w`: the copied bits before and after. -/
def CopyCause.forStep (c : CopyCause) (w : Nat × Nat) : CopyCause :=
  match c with
  | .pcieRead | .twoWireRead => if mDiff w.2 w.1 = 0 then c else .hardware
  | c => c

/-- The bits of a register whose changes are copied: no running value, no command bit, no banked field (R61). -/
def RegSpec.copiedMask (r : RegSpec) : Nat :=
  r.flds.foldl (fun a f => if f.run || f.typ == .wo || f.banked then a else a + (2 ^ f.width - 1) * 2 ^ f.lo) 0

/-- Each change along the words that a register has held, as the word before and after it. -/
def wordSteps (mask : Nat) : List Nat → List (Nat × Nat)
  | a :: b :: ws => if mAnd mask a = mAnd mask b then wordSteps mask (b :: ws) else (a, b) :: wordSteps mask (b :: ws)
  | _ => []

/-- A status register's word with the levels that it shows: TM_STAT.GATE (R464), TC_STAT.OUT (R272). -/
def State.liveWord (s : State) (r : RegSpec) (i : Nat) : Nat :=
  s.word r i + match r.base with
    | 0x2A58 => b2n (s.gate i)
    | 0x1A40 => b2n (s.tripArmed i) * (Config.measured (F.TC_STAT_OUT.key i) s.now % 2) * 32
    | _ => 0

/-- The words that a register has held in a command that took `s` to `t`, first to last. -/
def wordsHeld (s t : State) (r : RegSpec) (x : Nat × Nat) : List Nat :=
  s.liveWord r x.1 :: ((t.mids.filter (fun m => m.1 == x)).map (·.2) ++ [t.liveWord r x.1])

/-- The copies of one register: none where it is a control register, the mailbox or LAST_ERR, or where nothing but running values
has changed (R61). -/
def copiesOf (cause : CopyCause) (s t : State) (x : Nat × Nat) : List (Nat × List Byte) :=
  match specAt x.2 with
  | none => []
  | some r =>
    if r.isControl || r.base = 0x224 || decide (0x3F00 ≤ r.base) then []
    else (wordSteps r.copiedMask (wordsHeld s t r x)).map (fun w =>
      (blockOf r.base, bytes 2 (r.addrOf x.1)
        ++ bytes 1 ((cause.forReg s t r.base).forStep (mAnd r.copiedMask w.1, mAnd r.copiedMask w.2)).code ++ bytes 1 0
        ++ bytes 4 w.1 ++ bytes 4 w.2 ++ bytes 4 0))

/-- The status-change copies that `t` owes against `s`. -/
def copiesOwed (cause : CopyCause) (s t : State) : List (Nat × List Byte) :=
  (changedRegs s t).flatMap (copiesOf cause s t)

/-- Form the status-change copies of a command that took `s` to `t`. What forming them changes (a drop count) gives no
further copy in the same command (DESIGN CHOICE, log 4). -/
def copies (cause : CopyCause) (s t : State) : State :=
  (copiesOwed cause s t).foldl (fun u c => u.emit c.1 0x06 c.2) t

end Sys2Proof.Machine
end

