-- ==== Sys2Proof/Machine/Clock.lean ====
section
/-! DEFINITION. The real-time clock (R454 to R462). -/

namespace Sys2Proof.Machine

open Sys2Proof

/-- Days of a month of a year 2000 + y (R455). -/
def monthDays (y m : Nat) : Nat :=
  match m with
  | 2 => if y % 4 = 0 then 29 else 28
  | 4 | 6 | 9 | 11 => 30
  | _ => 31

/-- Days from 2000-01-01 to a date. -/
def dayNumber (y m d : Nat) : Nat :=
  365 * y + (y + 3) / 4 + ((List.range (m - 1)).foldl (fun a k => a + monthDays y (k + 1)) 0) + (d - 1)

/-- The weekday of a date, Monday 0; 2000-01-01 is a Saturday (R455). -/
def weekday (y m d : Nat) : Nat := (5 + dayNumber y m d) % 7

/-- The calendar is halted. -/
def State.halted (s : State) : Bool := s.flag F.RTC_STAT_HALTED 0

/-- The calendar as ticks from 2000-01-01. -/
def State.rtcTicks (s : State) : Nat :=
  (((dayNumber (s.rd F.RTC_DATE_YEAR 0) (s.rd F.RTC_DATE_MONTH 0) (s.rd F.RTC_DATE_DAY 0) * 24 + s.rd F.RTC_TIME_HOUR 0) * 60
    + s.rd F.RTC_TIME_MIN 0) * 60 + s.rd F.RTC_TIME_SEC 0) * 32768 + s.rd F.RTC_SUBSEC_SUBSEC 0

/-- Compute WDAY from the date (R455). -/
def State.setWday (s : State) : State :=
  s.wr F.RTC_TIME_WDAY 0 (weekday (s.rd F.RTC_DATE_YEAR 0) (s.rd F.RTC_DATE_MONTH 0) (s.rd F.RTC_DATE_DAY 0))

/-- The date moves on by a day; a YEAR that wraps clears TIME_VALID (R455). -/
def State.nextDay (s : State) : State :=
  let y := s.rd F.RTC_DATE_YEAR 0
  let m := s.rd F.RTC_DATE_MONTH 0
  let d := s.rd F.RTC_DATE_DAY 0
  (if d < monthDays y m then s.wr F.RTC_DATE_DAY 0 (d + 1)
   else
     let s := s.wr F.RTC_DATE_DAY 0 1
     if m < 12 then s.wr F.RTC_DATE_MONTH 0 (m + 1)
     else
       let s := s.wr F.RTC_DATE_MONTH 0 1
       if y < 99 then s.wr F.RTC_DATE_YEAR 0 (y + 1) else (s.wr F.RTC_DATE_YEAR 0 0).wr F.RTC_STAT_TIME_VALID 0 0).setWday

/-- `n` units more in SUBSEC; those past 32,767 wait for the carry into SEC (R455). -/
def State.subsecAdd (s : State) (n : Nat) : State :=
  let v := s.rd F.RTC_SUBSEC_SUBSEC 0 + n
  (s.setRtc (fun x => { x with past := x.past + (v - 32767) })).wr F.RTC_SUBSEC_SUBSEC 0 (min 32767 v)

/-- SEC carries (R455). -/
def State.nextSecond (s : State) : State :=
  let v := s.rtc.past - 1
  let s := (s.setRtc (fun x => { x with past := v - 32767 })).wr F.RTC_SUBSEC_SUBSEC 0 (min 32767 v)
  let sec := s.rd F.RTC_TIME_SEC 0
  let min := s.rd F.RTC_TIME_MIN 0
  let hour := s.rd F.RTC_TIME_HOUR 0
  if sec < 59 then s.wr F.RTC_TIME_SEC 0 (sec + 1)
  else
    let s := s.wr F.RTC_TIME_SEC 0 0
    if min < 59 then s.wr F.RTC_TIME_MIN 0 (min + 1)
    else
      let s := s.wr F.RTC_TIME_MIN 0 0
      if hour < 23 then s.wr F.RTC_TIME_HOUR 0 (hour + 1) else (s.wr F.RTC_TIME_HOUR 0 0).nextDay

/-- Alarm `n` matches the calendar: a field whose MASK bit is 1 always matches (R461). -/
def State.alarmMatch (s : State) (n : Nat) : Bool :=
  let m := s.rd F.ALM_CFG_MASK n
  s.flag F.ALM_CFG_EN n && [(0, F.ALM_TIME_SEC, F.RTC_TIME_SEC), (1, F.ALM_TIME_MIN, F.RTC_TIME_MIN),
    (2, F.ALM_TIME_HOUR, F.RTC_TIME_HOUR), (3, F.ALM_CFG_DAY, F.RTC_DATE_DAY), (4, F.ALM_CFG_MONTH, F.RTC_DATE_MONTH),
    (5, F.ALM_CFG_WDAY, F.RTC_TIME_WDAY)].all (fun x => bitOf m x.1 || s.rd x.2.1 n == s.rd x.2.2 0)

/-- Judge an alarm at a second boundary (R461). -/
def State.judgeAlarm (s : State) (n : Nat) : State :=
  if s.alarmMatch n then (s.wr (if n = 0 then F.RTC_STAT_ALM0 else F.RTC_STAT_ALM1) 0 1).raise 0x11 (0x02 + n) { unit := n } else s

/-- RTC_SECOND: a second boundary of the running calendar (R461). -/
def rtcSecond (s : State) : State := if s.halted then s else (s.nextSecond.judgeAlarm 0).judgeAlarm 1

/-- XTAL_FAIL (R454, R459). -/
def xtalFail (s : State) : State :=
  if s.flag F.RTC_STAT_XTAL_FAIL 0 then s
  else ((s.wr F.RTC_STAT_XTAL_FAIL 0 1).wr F.RTC_STAT_DISCONT 0 1).raise 0x11 0x01

/-- XTAL_QUALIFIED (R454): the first qualification after AON power-up raises no event. -/
def xtalQualified (s : State) : State :=
  if s.flag F.RTC_STAT_XTAL_FAIL 0 then
    let first := !s.rtc.everXtal
    let s := ({ s with rtc := { s.rtc with everXtal := true } } : State).wr F.RTC_STAT_XTAL_FAIL 0 0
    if first then s else s.raise 0x11 0x07
  else s

/-- HALT_SET (R456, R459): a shift in progress is abandoned. -/
def State.haltSet (s : State) : State :=
  let s := ({ s with rtc := { s.rtc with written := false } } : State).wr F.RTC_STAT_SHIFT_LEFT 0 0
  ((s.wr F.RTC_STAT_HALTED 0 1).wr F.RTC_STAT_DISCONT 0 1).raise 0x11 0x04

/-- HALT_CLR (R456). -/
def State.haltClr (s : State) : State :=
  let s := (s.wr F.RTC_STAT_HALTED 0 0).setWday
  if s.rtc.written then (s.wr F.RTC_STAT_TIME_VALID 0 1).raise 0x11 0x05 else s

/-- RTC_CTL (R456). -/
def State.askRtcCtl (s : State) (key : Nat) (set clr : Bool) : Nat × State :=
  if key ≠ 0xA7 ∨ (set = true ∧ clr = true) then (errRange, s)
  else if set then (if s.halted then (errState, s) else (errOk, s.haltSet))
  else if clr then
    if !s.halted then (errState, s)
    else if monthDays (s.rd F.RTC_DATE_YEAR 0) (s.rd F.RTC_DATE_MONTH 0) < s.rd F.RTC_DATE_DAY 0 then (errRange, s)
    else (errOk, s.haltClr)
  else (errOk, s)

/-- An accepted write of RTC_TIME or RTC_DATE (R456, R459). -/
def State.calendarWritten (s : State) : State :=
  (({ s with rtc := { s.rtc with written := true, rest := 0, past := 0, withheld := 0 } } : State).wr F.RTC_SUBSEC_SUBSEC 0 0).wr F.RTC_STAT_DISCONT 0 1

/-- RTC_SHIFT (R458). -/
def State.askRtcShift (s : State) (amount : Nat) : Nat × State :=
  if amount = 0 ∨ amount = 0x8000 then (errRange, s)
  else if s.rd F.RTC_STAT_SHIFT_LEFT 0 ≠ 0 then (errBusy, s)
  else if s.halted then (errState, s)
  else (errOk, ({ s with rtc := { s.rtc with shiftAt := 0 } } : State).wr F.RTC_STAT_SHIFT_LEFT 0 amount)

/-- SHIFT_COMPLETE: the last unit of a shift is applied (R458); of a negative one, the next tick leaves SUBSEC unchanged. -/
def shiftComplete (s : State) : State :=
  let left := ofField 16 (s.rd F.RTC_STAT_SHIFT_LEFT 0)
  if left = 0 then s
  else
    let s := if 0 < left then s.subsecAdd left.toNat else s.setRtc (fun x => { x with withheld := x.withheld + left.natAbs })
    (s.wr F.RTC_STAT_SHIFT_LEFT 0 0).raise 0x11 0x06

/-- One tick of the clock within the present second (R457, R458): the trim adds or withholds one count on T of every
1,048,576 ticks, spread evenly, and a shift adds or withholds one on every 32nd. A tick cannot withhold more than its own count: a unit
of the shift that would waits for the next tick (DEDUCED from 'both applied', R470; log 35). The last unit of a shift is left to
SHIFT_COMPLETE and the carry into SEC to RTC_SECOND. -/
def State.rtcTick (s : State) : State :=
  if s.halted then s
  else
    let k := s.rtc.trimAt
    let t := ofField 8 (s.rd F.RTC_TRIM_TRIM 0)
    let trim := (t * (k + 1)) / 0x100000 - (t * k) / 0x100000
    let left := ofField 16 (s.rd F.RTC_STAT_SHIFT_LEFT 0)
    let wait := decide (trim < 0 ∧ left < 0) && s.rtc.shiftAt == 31
    let due := decide (1 < left.natAbs) && s.rtc.shiftAt == 31 && !wait
    let unit : Int := if due then (if 0 < left then 1 else -1) else 0
    let full := (1 + trim + unit).toNat
    let step := full - s.rtc.withheld
    let s := { s with rtc := { s.rtc with withheld := s.rtc.withheld - full, trimAt := (k + 1) % 0x100000, shiftAt := if wait then 31 else (s.rtc.shiftAt + 1) % 32 } }
    let s := if due then s.wr F.RTC_STAT_SHIFT_LEFT 0 (toField 16 (left - unit)) else s
    s.subsecAdd step

/-- One microsecond of the clock: 32,768 ticks make a second. Timers on CLK 0b010 count the ticks (R463). -/
def State.rtcMicro (s : State) : State :=
  let r := s.rtc.rest + 32768
  if r < 1000000 then s.setRtc (fun x => { x with rest := r })
  else ((s.setRtc (fun x => { x with rest := r - 1000000 })).rtcTick).clockTicks 2 1

-- Shadows

/-- The words of the calendar's registers, STALE aside. -/
def State.calendar (s : State) : Shadow :=
  { sub := s.rd F.RTC_SUBSEC_SUBSEC 0
    time := s.rd F.RTC_TIME_WDAY 0 * 2 ^ 24 + s.rd F.RTC_TIME_HOUR 0 * 2 ^ 16 + s.rd F.RTC_TIME_MIN 0 * 2 ^ 8
      + s.rd F.RTC_TIME_SEC 0
    date := s.rd F.RTC_DATE_YEAR 0 * 2 ^ 16 + s.rd F.RTC_DATE_MONTH 0 * 2 ^ 8 + s.rd F.RTC_DATE_DAY 0 }

/-- Set or release a master's shadow. -/
def State.setShadow (s : State) (m : Nat) (x : Option Shadow) : State :=
  { s with rtc := { s.rtc with shadows := s.rtc.shadows.put m x } }

/-- A read of RTC_SUBSEC (R460). -/
def State.readSubsec (s : State) (m : Nat) : Nat × State := (s.calendar.sub, s.setShadow m (some s.calendar))

/-- A read of RTC_TIME: STALE = 1 where the master holds no shadow (R460). -/
def State.readTime (s : State) (m : Nat) : Nat × State :=
  match s.rtc.shadows.at m with
  | some x => (x.time, s)
  | none => (s.calendar.time + 2 ^ 31, s.setShadow m (some s.calendar))

/-- A read of RTC_DATE releases the shadow (R460). -/
def State.readDate (s : State) (m : Nat) : Nat × State :=
  match s.rtc.shadows.at m with
  | some x => (x.date, s.setShadow m none)
  | none => (s.calendar.date + 2 ^ 31, s)

/-- SHADOW_EXPIRY (R460). -/
def shadowExpiry (m : Master) (s : State) : State := s.setShadow m.idx none

/-- The SQW output (R462): none while it is high-impedance. -/
def State.sqw (s : State) : Option Bool :=
  let f := s.rd F.RTC_SQW_FREQ 0
  if f = 0 ∨ s.power.st = .ship then none
  else if s.rd F.RTC_SQW_MODE 0 = 1 then
    some (!((s.flag F.RTC_STAT_ALM0 0 && s.flag F.ALM_CFG_EN 0) || (s.flag F.RTC_STAT_ALM1 0 && s.flag F.ALM_CFG_EN 1)))
  else
    let p := 2 ^ (16 - f)
    some (decide (2 * (s.rd F.RTC_SUBSEC_SUBSEC 0 % p * 1000000 + s.rtc.rest) < p * 1000000))

end Sys2Proof.Machine
end

