-- ==== Sys2Proof/Machine/Wdt.lean ====
section
/-! DEFINITION. The watchdog (R475 to R487). -/

namespace Sys2Proof.Machine

open Sys2Proof

/-- Start the reset drain of a host chip reset or a watchdog step 2 (R242); a watchdog's replaces a host's. -/
def State.resetDrain (s : State) (k : ResetKind) : State :=
  let s := { s with power := { s.power with resetAfterDrain := some k } }
  s.drain 0x0B s.nonStandpipes 0

/-- The watchdog runs. -/
def State.wdtRuns (s : State) : Bool := s.flag F.WDT_STAT_RUNNING 0

/-- The slot is enabled (R475). -/
def State.slotOn (s : State) (i : Nat) : Bool := s.con F.SLOT_CFG_EN i

/-- The enabled slots. -/
def State.slotsOn (s : State) : List Nat := (List.range 16).filter s.slotOn

/-- A slot's count in µs (R476). -/
def State.slotCount (s : State) (i : Nat) : Nat :=
  if s.wdtRuns && s.slotOn i then s.now - (s.wdt.slots.at i).at_ else 0

/-- Write WDT_STAT.GRACE. -/
def State.wdtShow (s : State) : State :=
  s.wr F.WDT_STAT_GRACE 0 (b2n (s.slotsOn.any (fun i => s.flag F.SLOT_STAT_FIRST i)))

/-- Form a watchdog record; `slot` 0xFF for none (R486). -/
def State.wdtRec (s : State) (slot ev c : Nat) : State :=
  let x := if slot < 16 then s.wdt.slots.at slot else {}
  s.emit 0x13 0x08 (bytes 1 slot ++ bytes 1 ev ++ bytes 1 (s.rd F.WDT_STAT_STEP 0) ++ bytes 1 (s.rd F.WDT_STAT_ATTEMPTS 0)
    ++ bytes 4 c ++ bytes 4 x.opn ++ bytes 4 x.close)

/-- Restart a slot's count, into its grace window or its own (R476, R479, R483). -/
def State.slotRestart (s : State) (grace : Bool) (i : Nat) : State :=
  let x : Slot := { at_ := s.now, opn := s.cf F.SLOT_CFG_OPEN i, close := s.cf F.SLOT_CLOSE_CLOSE i,
                    grace := s.cf F.WDT_CFG_GRACE 0 * 100000, expiredAt := (s.wdt.slots.at i).expiredAt }
  ({ s with wdt := { s.wdt with slots := s.wdt.slots.put i x } } : State).wr F.SLOT_STAT_FIRST i (b2n grace)

/-- Every enabled slot makes a grace restart (R479). -/
def State.graceAll (s : State) : State := (s.slotsOn.foldl (State.slotRestart · true) s).wdtShow

/-- The ladder advances to a step (R480, R481): event, record, count. -/
def State.ladderStep (s : State) (n : Nat) : State :=
  let p := s.rd F.WDT_LADDER_PERIOD 0
  let s := { s with wdt := { s.wdt with served := 0, advanced := s.now, period := p } }
  let s := (s.bump F.WDT_EVT_STEPS 0).wr F.WDT_STAT_STEP 0 n
  (s.raise 0x13 (0x03 + n) { cnt := s.rd F.WDT_EVT_STEPS 0 }).wdtRec 0xFF (0x03 + n) 0

/-- The action of step 1 (R481). -/
def State.hostReset (s : State) : State := ({ s with wdt := { s.wdt with hostRst := true } } : State).graceAll

/-- Step 2, or step 3 where no attempt is left (R481). -/
def State.stepTwo (s : State) : State :=
  if s.rd F.WDT_STAT_ATTEMPTS 0 < s.cf F.WDT_CFG_N_ATT 0 then
    ((s.bump F.WDT_STAT_ATTEMPTS 0).ladderStep 2).graceAll.resetDrain .watchdog
  else s.ladderStep 3

/-- Offer a fault to the ladder (R480, R481). In SAFE no step but step 1 is taken; at another step its action is repeated
and the step kept (DEDUCED, log 33). -/
def State.offer (s : State) : State :=
  let n := s.rd F.WDT_STAT_STEP 0
  if s.power.resetAfterDrain = some .watchdog then s
  else if n ≠ 0 ∧ s.now < s.wdt.advanced + s.wdt.period then s
  else if n = 0 then (s.ladderStep 1).hostReset
  else if s.safe then (({ s with wdt := { s.wdt with served := 0, advanced := s.now, period := s.rd F.WDT_LADDER_PERIOD 0 } } : State).raise
      0x13 0x04 { cnt := s.rd F.WDT_EVT_STEPS 0 }).wdtRec 0xFF 0x04 0 |>.hostReset
  else if n = 1 then s.stepTwo else s.ladderStep 3

/-- The counter of a fault, 1 EXPIRED, 2 EARLY, 3 KEY. -/
def wdtCounter (k : Nat) : Fld :=
  if k = 1 then F.WDT_EVT_EXPIRED else if k = 2 then F.WDT_EVT_EARLY else F.WDT_EVT_KEY

/-- A slot fault (R478): bit, event and record; the ladder is offered it afterwards. `i` 0xFF for none. -/
def State.slotFault (s : State) (i k c : Nat) : State :=
  let s := s.bump (wdtCounter k) 0
  let s := if i < 16 then
      (s.wr F.WDT_STAT_FAULTED 0 (setBit (s.rd F.WDT_STAT_FAULTED 0) i)).wr F.SLOT_STAT_LAST i k
    else s
  (s.raise 0x13 k { unit := i, cnt := s.rd (wdtCounter k) 0 }).wdtRec i k c

/-- The end of a slot's present window (R476, R479). -/
def State.slotEnd (s : State) (i : Nat) : Nat :=
  if s.flag F.SLOT_STAT_FIRST i then (s.wdt.slots.at i).grace else (s.wdt.slots.at i).close

/-- A slot expires (R478): it faults and restarts. -/
def State.slotExpire (s : State) (i : Nat) : State :=
  let s := (s.slotFault i 1 (s.slotEnd i)).slotRestart false i
  ({ s with wdt := { s.wdt with slots := s.wdt.slots.put i { s.wdt.slots.at i with expiredAt := some s.now } } } : State).wdtShow

/-- The slots whose counts have reached the end of their windows (R478). -/
def State.slotsDue (s : State) : List Nat := s.slotsOn.filter (fun i => decide (s.slotEnd i ≤ s.slotCount i))

/-- The faults of one tick, in ascending slot order, and their one offer to the ladder (R480, R485): the slots `l` expire, and slot
`i` has the fault `k` of a serve at its count `c`; `i` 0xFF for none. -/
def State.tickFaults (s : State) (l : List Nat) (i k c : Nat) : State :=
  let one (s : State) (j : Nat) : State :=
    let s := if j = i then s.slotFault i k c else s
    if l.contains j then s.slotExpire j else s
  let s := (List.range 16).foldl one s
  (if i < 16 then s else s.slotFault i k c).offer

/-- WDT_SLOT_EXPIRED: the slots whose counts reach the end of their windows in one tick fault in ascending order, and the
ladder is offered them together (R480, R485). -/
def wdtSlotExpired (m : Nat) (s : State) : State :=
  let l := s.slotsDue.filter (fun i => bitOf m i)
  if !s.wdtRuns || l.isEmpty then s else (l.foldl State.slotExpire s).offer

/-- A serve of an enabled slot with the right key, judged against the window; in the tick of an expiry it is absorbed (R476). -/
def State.judgeServe (s : State) (i : Nat) : State :=
  let c := s.slotCount i
  let first := s.flag F.SLOT_STAT_FIRST i
  if (s.wdt.slots.at i).expiredAt = some s.now then s.wr F.SLOT_STAT_LATE i 1
  else if s.slotEnd i ≤ c then ((s.slotsDue.foldl State.slotExpire s).offer).wr F.SLOT_STAT_LATE i 1
  else if !first && decide (c < (s.wdt.slots.at i).opn) then s.tickFaults s.slotsDue i 2 c
  else
    let s := s.bump F.SLOT_STAT_SERVES i
    let s := if first then s else { s with wdt := { s.wdt with served := mOr s.wdt.served (2 ^ i) } }
    (s.slotRestart false i).wdtShow

/-- A write of WDT_SERVE, judged in the order of R477. Serves during a step-2 reset drain are ignored (R481), whatever the word's other
bits: R11 and R477 do not say whether reserved bits are still reported then (DESIGN CHOICE, log 33). -/
def State.askServe (s : State) (val : Nat) : Nat × State :=
  let i := bitsOf val 20 16
  if !s.wdtRuns then (errState, s)
  else if s.power.resetAfterDrain = some .watchdog then (errOk, s)
  else if bitsOf val 31 21 ≠ 0 then
    (errReserved, if i < 16 ∧ s.slotOn i = true then s.tickFaults s.slotsDue i 3 (s.slotCount i) else s)
  else if 16 ≤ i then (errRange, s.tickFaults s.slotsDue 0xFF 3 0)
  else if !s.slotOn i then (errState, s)
  else if bitsOf val 15 0 ≠ 0xA5C3 then (errRange, s.tickFaults s.slotsDue i 3 (s.slotCount i))
  else (errOk, s.judgeServe i)

/-- The largest CLOSE among the enabled slots (R480). -/
def State.ladderPeriod (s : State) : Nat := s.slotsOn.foldl (fun a i => max a (s.cf F.SLOT_CLOSE_CLOSE i)) 0

/-- The watchdog starts: every enabled slot in its grace window (R475, R479). -/
def State.wdtBegin (s : State) : State :=
  ((s.wr F.WDT_STAT_RUNNING 0 1).graceAll).wdtRec 0xFF 0x07 0

/-- The watchdog stops. -/
def State.wdtEnd (s : State) : State :=
  ((List.range 16).foldl (fun s i => s.wr F.SLOT_STAT_FIRST i 0) ((s.wr F.WDT_STAT_RUNNING 0 0).wr F.WDT_STAT_GRACE 0 0)).wdtRec
    0xFF 0x08 0

/-- WDT_CTL (R475). -/
def State.askWdtCtl (s : State) (key : Nat) (start stop : Bool) : Nat × State :=
  if key ≠ 0x6E ∨ (start = true ∧ stop = true) then (errRange, s)
  else if start then (if s.wdtRuns || s.slotsOn.isEmpty then (errState, s) else (errOk, s.wdtBegin))
  else if stop then
    if s.flag F.WDT_STAT_HWSTART 0 then (errLocked, s)
    else if s.wdtRuns then (errOk, s.wdtEnd) else (errState, s)
  else (errOk, s)

/-- HOST_RST_N is low: driven by step 1, and in every chip reset or while the control plane is unpowered (R481, R522). -/
def State.hostRstNLow (s : State) : Bool := s.wdt.hostRst || !s.on

/-- HOST_RESET_PULSE_END: tHRST is over (R481). -/
def hostResetPulseEnd (s : State) : State := { s with wdt := { s.wdt with hostRst := false } }

/-- LADDER_RETURN: a full tLADDER has passed without a fault since every enabled slot had served in its own window
(R480). -/
def ladderReturn (s : State) : State :=
  if s.rd F.WDT_STAT_STEP 0 ≠ 0 ∧ s.wdtRuns = true ∧ s.slotsOn.all (bitOf s.wdt.served) = true then
    (s.wr F.WDT_STAT_STEP 0 0).wdtRec 0xFF 0x09 0
  else s

/-- ATTEMPTS_CLEAR: tWDT_CLEAN has passed without a fault (R482). -/
def attemptsClear (s : State) : State :=
  if s.power.off || s.rd F.WDT_STAT_ATTEMPTS 0 == 0 then s else (s.wr F.WDT_STAT_ATTEMPTS 0 0).wdtRec 0xFF 0x0A 0

/-- The window of the active bank comes into force in a slot that expired in the tick of the swap (R485). -/
def State.slotRenew (s : State) (i : Nat) : State :=
  { s with wdt := { s.wdt with slots := s.wdt.slots.put i { s.wdt.slots.at i with
      opn := s.cf F.SLOT_CFG_OPEN i, close := s.cf F.SLOT_CLOSE_CLOSE i, grace := s.cf F.WDT_CFG_GRACE 0 * 100000 } } }

/-- A swap has put `s` in the place of `s0` (R483, R485). -/
def State.wdtApply (s0 s : State) : State :=
  let s := s.wr F.WDT_LADDER_PERIOD 0 s.ladderPeriod
  let one (s : State) (i : Nat) : State :=
    if s.slotOn i && !s0.slotOn i then s.slotRestart true i
    else if !s.slotOn i && s0.slotOn i then s.wr F.SLOT_STAT_FIRST i 0
    else if s.slotOn i && (s.wdt.slots.at i).expiredAt == some s.now then s.slotRenew i else s
  if s.wdtRuns then ((List.range 16).foldl one s).wdtShow else s

end Sys2Proof.Machine
end

