-- ==== Sys2Proof/Machine/Sched.lean ====
section
/-! DEFINITION. The action scheduler (R102 to R111): launches, steps, deadlines, arming, and what a swap and SAFE do to the
contexts. -/

namespace Sys2Proof.Machine

open Sys2Proof

/-- The step words of a context (R114). -/
def stepFld (n : Nat) : Fld := { F.CTX_STEP0_STEP with reg := 0x630 + 4 * n }

/-- Kind of a step word (R103). -/
def stepKind (w : Nat) : Nat := bitsOf w 31 28

/-- A step's latency in 0.1 µs, the WAIT argument aside (R103). -/
def stepLatency (k : Nat) : Nat :=
  match k with
  | 1 => 25 | 2 => 20 | 3 => 35 | 4 => 15 | 5 => 8 | 6 => 8 | 7 => 60 | 8 => 250 | 9 => 8 | _ => 0

/-- The required time of a list of steps in angle units (R107): T counts from tJIT = 2.0 µs, a unit lasts 0.23474 µs. -/
def requiredTime (l : List Nat) : Nat :=
  let w := l.foldl (fun a x => if stepKind x = 9 then a + bitsOf x 19 0 else a) 0
  let t := l.foldl (fun a x => a + stepLatency (stepKind x)) 20
  w + ceilDiv (t * 10000) 23474

/-- The steps that a context's bank holds within NSTEPS. -/
def progOf (rd : Fld → Nat → Nat) (c : Nat) : List Nat :=
  (List.range (rd F.CTX_CFG_NSTEPS c)).map (fun n => rd (stepFld n) c)

/-- A context's mode: 0 DISABLED, 1 ABSOLUTE, 2 PERIODIC, 3 COMMAND (R102). -/
def State.mode (s : State) (c : Nat) : Nat := s.cf F.CTX_CFG_MODE c

/-- CTX_STAT.STATE (R110). -/
def State.ctxSt (s : State) (c : Nat) : Nat := s.rd F.CTX_STAT_STATE c

/-- What a context holds beyond its registers. -/
def State.ctx (s : State) (c : Nat) : Ctx := s.sched.ctxs.at c

/-- Change what a context holds. -/
def State.setCtx (s : State) (c : Nat) (f : Ctx → Ctx) : State :=
  { s with sched := { s.sched with ctxs := s.sched.ctxs.put c (f (s.ctx c)) } }

/-- Move a context to a state. -/
def State.setCtxSt (s : State) (c v : Nat) : State := (s.note F.CTX_STAT_STATE c).wr F.CTX_STAT_STATE c v

/-- A stroke time rounded up to the next angle slot (R102). -/
def slotUp (t : Nat) : Nat := ceilDiv t 256 * 256

/-- Contexts launch: SCH_CTL.EN = 1, outside SAFE (R110). -/
def State.schOn (s : State) : Bool := s.on && s.con F.SCH_CTL_EN 0 && !s.safe

/-- The lock state is LOCKED. -/
def State.locked (s : State) : Bool := s.rd F.TB_STAT_LOCK 0 == 2

/-- The scheduled launch of an ARMED ABSOLUTE or COMMAND context; none for a COMMAND arming at the next slot with room. -/
def State.schedOf (s : State) (c : Nat) : Option Nat :=
  if s.mode c = 1 then some (slotUp (s.cf F.CTX_LAUNCH_TIME c))
  else match (s.ctx c).armAt with
    | some 0 => none
    | some t => some (slotUp t)
    | none => none

/-- The initial state of a context under the active set-up (R109, R110). -/
def State.ctxInit (s : State) (c : Nat) : Nat := if s.mode c = 1 ∨ s.mode c = 2 then 1 else 0

/-- Form an action completion record (R111). -/
def State.ctxRec (s : State) (c st err launch units : Nat) : State :=
  let x := s.ctx c
  s.emit 0x03 0x05 (bytes 1 c ++ bytes 1 st ++ bytes 1 err
    ++ bytes 1 (min 15 x.took * 16 + s.rd F.CTX_STAT_LAST_STEP c) ++ bytes 8 launch ++ bytes 4 (min 0xFFFFFFFF units))

/-- A context ends (R105, R110, R111): status, record and event; PERIODIC re-arms at once unless ONESHOT has reached
DONE. A context whose set-up a swap has changed while it ran takes its initial state at its end, so that a COMMAND context reads IDLE
at once and never DONE (DESIGN CHOICE, log 31). The record of a DONE run carries 0x00 whatever CTX_STAT.ERR shows. `ran`: a run was
launched. -/
def State.ctxEnd (s : State) (c st err : Nat) (ran : Bool) : State :=
  let x := s.ctx c
  let s := if ran then s else s.wr F.CTX_STAT_LAST_STEP c 0
  let s := ((s.setCtxSt c st).wr F.CTX_STAT_ERR c err).wr F.CTX_STAT_RUNS c (s.rd F.CTX_STAT_RUNS c + 1)
  let s := s.ctxRec c st (if st = 4 then errOk else err) (if ran then x.launch else x.sched) (if ran || st == 5 then s.tb.now - x.sched else 0)
  let d : EvData := { unit := c, cnt := s.rd F.CTX_STAT_RUNS c }
  let s := if st = 5 then s.raise 0x03 0x01 d else if st = 6 then s.raise 0x03 0x02 d else s
  let done := x.onceDone || (st == 4 && s.con F.CTX_CFG_ONESHOT c)
  let s := s.setCtx c (fun y => { prev := y.prev, prevSched := y.prevSched, onceDone := done && !y.renew })
  if st = 7 then s
  else if x.renew then s.setCtxSt c (s.ctxInit c)
  else if s.mode c = 2 ∧ ¬ (done = true ∧ s.con F.CTX_CFG_ONESHOT c = true) then s.setCtxSt c 1
  else s

/-- The launch skew while that perturbation is active, in angle units (R302). -/
def State.skew (s : State) : Int :=
  if s.pert.kindEnd.at 3 = 0 then 0 else ofField 16 (s.rd F.PT_SKEW_SKEW 0)

/-- The angle within a slot at which its launches start under the skew (R302, R106). -/
def State.skewRest (s : State) : Nat := (s.skew % 256).toNat

/-- The whole slots of the skew, in angle units. -/
def State.skewSlots (s : State) : Int := s.skew / 256 * 256

/-- The stroke time whose launches come in the present slot: with a skew the one that lies the whole slots of the skew back (R106,
R302). -/
def State.launchNow (s : State) : Int := (s.tb.now : Int) - s.skewSlots

/-- Launch a context in the present slot (R105, R106). -/
def State.launch (s : State) (c sched : Nat) : State :=
  let prog := progOf s.cf c
  let s := s.setCtx c (fun x => { x with
    prog, pos := 0, took := 0, sched, launch := s.tb.now + s.skewRest
    deadline := sched + s.cf F.CTX_CFG_DEADLINE c, required := requiredTime prog, prev := some s.tb.now, prevSched := some sched, armAt := none })
  let n := s.sched.inSlot + 1
  let s := { s with sched := { s.sched with inSlot := n } }
  let s := if s.rd F.SCH_STAT_PEAK 0 < n then s.wr F.SCH_STAT_PEAK 0 n else s
  (s.setCtxSt c 3).wr F.CTX_STAT_LAST_STEP c 0

/-- A context's launch is due: it launches, defers for want of lock, or ends DEADLINE where a forced launch no longer fits
(R104, R105). -/
def State.dueLaunch (s : State) (c sched : Nat) : State :=
  let need := requiredTime (progOf s.cf c)
  let s := s.setCtx c (fun x => { x with sched, deadline := sched + s.cf F.CTX_CFG_DEADLINE c, required := need, armAt := none })
  if s.con F.CTX_CFG_LOCK_REQ c && !s.locked then s.setCtxSt c 2
  else if (sched : Int) < s.launchNow ∧ sched + s.cf F.CTX_CFG_DEADLINE c < s.tb.now + need then s.ctxEnd c 5 errDeadline false
  else s.launch c sched

/-- No launch at or before the context's previous launch (R88), and none again that a change of the skew brings back. -/
def State.after (s : State) (c : Nat) : Bool :=
  (match (s.ctx c).prev with | some p => decide (p < s.tb.now) | none => true)
  && (match (s.ctx c).prevSched with | some p => s.skew == 0 || decide ((p : Int) < s.launchNow) | none => true)

/-- A PERIODIC context has an occurrence in a stroke (R102). -/
def State.periodicAt (s : State) (c n : Nat) : Bool :=
  s.mode c == 2 && n % s.cf F.CTX_PER_PERIOD c == s.cf F.CTX_PER_MODULO c
    && !(s.con F.CTX_CFG_ONESHOT c && (s.ctx c).onceDone)

/-- A PERIODIC context's occurrence falls on the present slot. -/
def State.occursNow (s : State) (c : Nat) : Bool :=
  let t := s.launchNow
  decide (0 ≤ t) && s.periodicAt c (t.toNat / 0x10000) && s.cf F.CTX_SLOT_SLOT c == t.toNat % 0x10000 / 256

/-- When the ABSOLUTE or COMMAND launch that is due at the present slot was scheduled; none where none is due. -/
def State.dueAt (s : State) (c : Nat) : Option Nat :=
  if s.ctxSt c ≠ 1 ∨ s.after c = false then none
  else if s.mode c = 1 ∨ (s.mode c = 3 ∧ (s.ctx c).armAt ≠ some 0) then
    match s.schedOf c with
    | some t => if (t : Int) ≤ s.launchNow then some t else none
    | none => none
  else if s.mode c = 3 ∧ ((s.ctx c).armedAt : Int) ≤ s.launchNow then some s.launchNow.toNat
  else none

/-- Let a context launch where its slot has room (R106). Deferred and forced launches that an earlier command has made in the slot keep
their places: a PERIODIC occurrence that then finds the slot full does not launch, without a record and without CTX_MISSED (DESIGN
CHOICE, log 31). -/
def State.tryLaunch (s : State) (c : Nat) : State :=
  match s.dueAt c with
  | some t => if s.sched.inSlot < 8 then s.dueLaunch c t else s
  | none =>
    if s.occursNow c && s.after c then
      if s.ctxSt c = 1 ∧ s.sched.inSlot < 8 then s.dueLaunch c s.launchNow.toNat
      else if s.ctxSt c = 2 ∨ s.ctxSt c = 3 then s.bump F.CTX_MISSED_COUNT c else s
    else s

/-- A context's launch in the present slot is scheduled for this very slot. -/
def State.exactNow (s : State) (c : Nat) : Bool :=
  match s.dueAt c with
  | some t => decide ((t : Int) = s.launchNow) && !(s.mode c == 3 && (s.ctx c).armAt == some 0)
  | none => s.occursNow c

/-- The contexts' launches of the present slot: those scheduled for it, then the forced ones while it has room; each part in
ascending index (R106). -/
def State.serveContexts (s : State) : State :=
  if !s.schOn then s
  else
    let l := List.range 128
    let exact := l.filter s.exactNow
    (l.filter (fun c => !exact.contains c)).foldl State.tryLaunch (exact.foldl State.tryLaunch s)

/-- The automatic rotations of the present slot (R144). -/
def State.serveRotations (s : State) : State :=
  (List.range 12).foldl (fun s c =>
    if s.con F.CA_ROT_ROT_AUTO c && s.cf F.CA_ROT_ROT_SLOT c == s.angle / 256
      && s.strokes % s.cf F.CA_ROT_ROT_PERIOD c == 0 then s.autoRotate c else s) s

/-- ANGLE_SLOT_START: the present slot's launches where they have not yet been made, else those of the next slot of the
stroke; after slot 255 the stroke boundary comes first (R106, R144). -/
def angleSlotStart (s : State) : State :=
  if s.power.off then s
  else
    let serve (s : State) : State :=
      (({ s with sched := { s.sched with served := true } } : State).serveContexts).serveRotations
    if !s.sched.served then serve s
    else if s.angle / 256 = 255 then s
    else
      let k := 256 - s.angle % 256
      let s := s.clockTicks 3 k
      serve { s with tb := { s.tb with now := s.tb.now + k }, sched := { s.sched with inSlot := 0 } }

/-- DEFERRED_CONTEXT_LAUNCH: the lock state is LOCKED again; the context launches where the slot has room and its required
time still fits, at a slot boundary (R104). -/
def deferredContextLaunch (c : Nat) (s : State) : State :=
  let x := s.ctx c
  if s.angle % 256 = 0 ∧ s.ctxSt c = 2 ∧ s.schOn = true ∧ s.locked = true ∧ s.after c = true ∧ s.sched.inSlot < 8 ∧ s.tb.now + x.required ≤ x.deadline then
    s.launch c x.sched
  else s

/-- CONTEXT_DEADLINE_PASSED: scheduled launch plus DEADLINE has passed for a deferred context (R104). -/
def contextDeadlinePassed (c : Nat) (s : State) : State :=
  if s.ctxSt c = 2 ∧ (s.ctx c).deadline ≤ s.tb.now then s.ctxEnd c 5 errDeadline false else s

-- Steps

/-- A step's action at its target and the target's answer; a WAIT has none (R103). -/
def State.stepAct (s : State) (w : Nat) : Nat × State :=
  match stepKind w with
  | 1 => s.askRail (bitsOf w 27 23) (bitOf w 22)
  | 2 => s.askRailSet (bitsOf w 27 23) (bitsOf w 15 0)
  | 3 => s.askGroup (bitsOf w 27 25) (bitOf w 24)
  | 4 => s.askBurst (bitsOf w 27 27) (bitsOf w 26 21) (bitsOf w 7 0)
  | 5 => (errOk, if bitOf w 24 then s.tmStart (2 ^ bitsOf w 27 25) else s.tmStop (2 ^ bitsOf w 27 25))
  | 6 =>
    let m := bitsOf w 15 8
    (errOk, { s with sched := { s.sched with sig := mOr (mDiff s.sched.sig m) (mAnd (bitsOf w 7 0) m) } })
  | 7 => if bitOf w 24 then s.askLearnStart else s.askLearnStop
  | 8 => s.askRotate (bitsOf w 27 24)
  | _ => (errOk, s)

/-- The next step of a RUNNING context, where it is of the kind `k` (R105, R106): it takes effect and the run goes on or is
DONE, or its target refuses it and the run has FAILED. A run that ends past its deadline reports DEADLINE. -/
def State.ctxStep (s : State) (c k : Nat) : State :=
  let x := s.ctx c
  match x.prog[x.pos]? with
  | none => s
  | some w =>
    if s.ctxSt c ≠ 3 ∨ stepKind w ≠ k then s
    else
      let s := s.wr F.CTX_STAT_LAST_STEP c x.pos
      let (e, s) := s.stepAct w
      if e ≠ errOk then s.ctxEnd c 6 e true
      else
        let s := s.setCtx c (fun y => { y with pos := y.pos + 1, took := y.took + 1 })
        if x.pos + 1 < x.prog.length then s
        else s.ctxEnd c 4 (if x.deadline < s.tb.now then errDeadline else errOk) true

-- Arming

/-- How many launches are due at a slot, with those already made in it where it is the present one (R106). -/
def State.slotLoad (s : State) (t : Nat) : Nat :=
  let present := decide ((t : Int) = s.launchNow / 256 * 256)
  (if present then s.sched.inSlot else 0) + ((List.range 128).filter (fun c =>
    (s.ctxSt c == 1 && s.mode c != 2 && s.schedOf c == some t)
    || (!(present && s.sched.served) && s.periodicAt c (t / 0x10000) && s.cf F.CTX_SLOT_SLOT c == t % 0x10000 / 256
      && s.ctxSt c != 7))).length

/-- A COMMAND arming; launch time 0 takes the next slot with room (R106, R110). -/
def State.askArm (s : State) (c t : Nat) : Nat × State :=
  let st := s.ctxSt c
  if st = 1 ∨ st = 2 ∨ st = 3 then (errBusy, s)
  else if s.mode c ≠ 3 ∨ s.con F.SCH_CTL_EN 0 = false then (errState, s)
  else if t ≠ 0 ∧ (match (s.ctx c).prev with | some p => decide (slotUp t ≤ p) | none => false) = true then (errDeadline, s)
  else if t ≠ 0 ∧ 8 ≤ s.slotLoad (slotUp t) then
    let s := s.bump F.SCH_STAT_CMD_SLOT_FULL 0
    (errSlotFull, s.raise 0x03 0x03 { unit := c, cnt := s.rd F.SCH_STAT_CMD_SLOT_FULL 0 })
  else (errOk, (s.setCtx c (fun x => { x with armAt := some t, armedAt := s.tb.now })).setCtxSt c 1)

-- Swaps, SAFE, resets

/-- End a context's arming, deferral or run with ABORTED (R111): a record for each that was RUNNING or DEFERRED and for
each ABSOLUTE or COMMAND context that was ARMED. An arming at the next slot with room has no scheduled launch yet: its record gives the
present stroke time (DESIGN CHOICE, log 31). -/
def State.ctxAbort (s : State) (c : Nat) : State :=
  let st := s.ctxSt c
  if st = 3 then s.ctxEnd c 7 errState true
  else if st = 2 then s.ctxEnd c 7 errState false
  else if st = 1 then
    if s.mode c = 2 then s.setCtxSt c 7
    else (s.setCtx c (fun x => { x with took := 0, sched := (s.schedOf c).getD s.tb.now })).ctxEnd c 7 errState false
  else s

/-- Entry to SAFE, or SCH_CTL.EN = 0 taking effect at a swap (R110, R111). -/
def State.ctxAbortAll (s : State) : State := (List.range 128).foldl State.ctxAbort s

/-- A context whose set-up a swap has changed (R109). -/
def State.ctxChanged (s0 s : State) (c : Nat) : State :=
  let st := s.ctxSt c
  if st = 3 then s.setCtx c (fun x => { x with renew := true })
  else
    let armed := s0.mode c == 3 && (st == 1 || st == 2)
    let s := if armed then
        let x := s.ctx c
        ((s.wr F.CTX_STAT_ERR c errState).wr F.CTX_STAT_LAST_STEP c 0).wr F.CTX_STAT_RUNS c (s.rd F.CTX_STAT_RUNS c + 1)
          |>.ctxRec c 7 errState (if st = 2 then x.sched else (s0.schedOf c).getD s.tb.now) 0
      else s
    (s.setCtx c (fun x => { prev := x.prev, prevSched := x.prevSched })).setCtxSt c (s.ctxInit c)

/-- The contexts whose set-up differs between the active banks of two states. -/
def ctxDiff (s0 s : State) : List Nat :=
  (((changedKeys s0.act.c0 s.act.c0).map regOfKey).filter (fun r => decide (0x610 ≤ r.2) && decide (r.2 < 0x670))).map (·.1)
    |>.eraseDups

/-- A swap has put `s` in the place of `s0` (R109, R110). -/
def State.schApply (s0 s : State) : State :=
  let s := (ctxDiff s0 s).foldl (State.ctxChanged s0) s
  let was := s0.con F.SCH_CTL_EN 0
  let is := s.con F.SCH_CTL_EN 0
  if was && !is then s.ctxAbortAll
  else if !was && is && !s.safe then
    (List.range 128).foldl (fun s c => if s.ctxSt c = 7 then s.setCtxSt c (s.ctxInit c) else s) s
  else s

/-- The contexts take their initial states at a chip reset (R110); slot 0 of the seeded stroke is still to be served. -/
def State.schReset (s : State) : State :=
  (List.range 128).foldl (fun s c => if s.mode c = 1 ∨ s.mode c = 2 then s.setCtxSt c 1 else s)
    { s with sched := { served := s.sched.served } }

-- Forward steps

/-- How many strokes `n` with `lo ≤ n < hi` leave the remainder `m` modulo `p`. -/
def countMod (lo hi p m : Nat) : Nat :=
  let upTo (x : Nat) : Nat := (x + p - 1 - m) / p
  if p ≤ m then 0 else upTo hi - upTo lo

/-- Occurrences of a PERIODIC context from the stroke time `a` to before `b` (R100). -/
def State.skipped (s : State) (a b c : Nat) : Nat :=
  if s.mode c ≠ 2 ∨ (s.con F.CTX_CFG_ONESHOT c && (s.ctx c).onceDone) = true ∨ s.ctxSt c = 7 then 0
  else
    let x := s.cf F.CTX_SLOT_SLOT c * 256
    countMod ((a + 0xFFFF - x) / 0x10000) ((b + 0xFFFF - x) / 0x10000) (s.cf F.CTX_PER_PERIOD c) (s.cf F.CTX_PER_MODULO c)

/-- The stroke time has stepped from `a0` to the present time (R100): PERIODIC occurrences that a forward step skips are
missed; ABSOLUTE and armed COMMAND launches in the skipped times are made at once where the slot has room. A slot that began at
`a0` and whose launches are still to come is skipped with them. An angle step that stays in its slot leaves the slot's launches as
they are (R106). -/
def State.skipRules (s : State) (a0 : Nat) : State :=
  let b := s.tb.now
  let a := if s.sched.served then a0 + 1 else a0
  let s := if a0 / 256 = b / 256 then s else { s with sched := { s.sched with inSlot := 0, served := b % 256 ≠ 0 } }
  if b ≤ a ∨ s.schOn = false then s
  else
    let s := (List.range 128).foldl (fun s c =>
      s.wr F.CTX_MISSED_COUNT c (satAdd 0xFFFF (s.rd F.CTX_MISSED_COUNT c) (s.skipped (a - s.skewSlots).toNat (b - s.skewSlots).toNat c))) s
    (List.range 128).foldl (fun s c => match s.dueAt c with
      | some t => if (a : Int) ≤ t + s.skewSlots ∧ t + s.skewSlots < b ∧ s.sched.inSlot < 8 then s.dueLaunch c t else s
      | none => s) s

end Sys2Proof.Machine
end

