-- ==== Sys2Proof/Machine/TimeBase.lean ====
section
/-! DEFINITION. The stroke time base (R86 to R101). Mains phase and frequency are measured outside the model: the commands
carry what was measured. -/

namespace Sys2Proof.Machine

open Sys2Proof

/-- The lock code (R89): 0 FREE, 1 ACQUIRING, 2 LOCKED, 3 HOLDOVER, 4 HOLDOVER_SEC. -/
def State.lock (s : State) : Nat := s.rd F.TB_STAT_LOCK 0

/-- Change what the time base holds beyond its registers. -/
def State.setTb (s : State) (f : TimeBase → TimeBase) : State := { s with tb := f s.tb }

/-- Form a time-base lock change record (R101): the lock code and stroke time before the change, its cause. -/
def State.tbRec (s : State) (prev before cause : Nat) : State :=
  s.emit 0x02 0x0E (bytes 1 s.lock ++ bytes 1 prev ++ bytes 1 cause
    ++ bytes 1 (s.rd F.TB_STAT_COUNT_SUSPECT 0 + 2 * s.rd F.TB_STAT_ALIGNED 0) ++ bytes 8 before ++ bytes 4 (s.rd F.TB_FREQ_FREQ 0))

/-- Change the lock state, with its record (R92). -/
def State.lockGo (s : State) (code cause : Nat) : State :=
  let prev := s.lock
  ((s.note F.TB_STAT_LOCK 0).wr F.TB_STAT_LOCK 0 code).tbRec prev s.tb.now cause

/-- Set COUNT_SUSPECT; reported where it is newly set. -/
def State.suspectCount (s : State) : State :=
  if s.flag F.TB_STAT_COUNT_SUSPECT 0 then s else (s.wr F.TB_STAT_COUNT_SUSPECT 0 1).raise 0x02 0x02

/-- Step the stroke time by `d` units (R88, R100): the record gives the stroke time before it. `code` is the lock code after
the step. What falls in the times that it skips comes with `skipFollow`. -/
def State.timeStep (s : State) (d : Int) (code cause : Nat) : State :=
  let a := s.tb.now
  let prev := s.lock
  let s := s.setTb (fun t => { t with now := ((a : Int) + d).toNat })
  let s := ((s.wr F.TB_STAT_LOCK 0 code).tbRec prev a cause).measResettle
  { s with sched := { s.sched with skip := some (s.sched.skip.getD a) } }

/-- ALIGN_STAT.PENDING. -/
def State.alignShow (s : State) : State :=
  s.wr F.ALIGN_STAT_PENDING 0 (b2n (s.tb.alignArmed || s.tb.stepPend.isSome))

/-- The nominal frequency of TB_CFG.NOM_60 in mHz. -/
def State.nominal (s : State) : Nat := if s.con F.TB_CFG_NOM_60 0 then 60000 else 50000

/-- The FREE frequency that the active bank asks for (R91). -/
def State.freeWanted (s : State) : Nat :=
  if s.tb.seeded && s.con F.TB_CFG_MAINS_EN 0 then s.tb.seedMHz else s.nominal

/-- Enter ACQUIRING from FREE or holdover (R90, R101). -/
def State.acquire (s : State) : State :=
  if s.con F.TB_CFG_MAINS_EN 0 && s.tb.mains && (s.lock == 0 || s.lock == 3 || s.lock == 4) then s.lockGo 1 0x0A else s

/-- MAINS_VALID (R90). -/
def mainsValid (s : State) : State :=
  if s.on = false then s
  else ((s.setTb (fun t => { t with mains := true })).wr F.TB_STAT_AMPL_OK 0 1).acquire

/-- The angle is no longer measured (R87, R90): slews and a pending PHASE_OFS step end, since the next acquisition computes its
correction with the offset in force (DEDUCED, log 35). -/
def State.unmeasured (s : State) : State :=
  (s.setTb (fun t => { t with slew := 0, dev := 0, ofsStep := none })).wr F.TB_STAT_SLEWING 0 0

/-- Enter holdover by the reference in use; the stroke count of the holdover starts at 0 (R90, R93). -/
def State.holdover (s : State) (cause : Nat) : State :=
  let s := s.unmeasured
  (s.wr F.TB_HOLD_STROKES 0 0).lockGo (if s.power.onSecondary then 4 else 3) cause

/-- A loss of mains (R90, R92). -/
def State.loseMains (s : State) : State :=
  let l := s.lock
  if l = 2 then
    let s := s.bump F.TB_EVT_LOSS 0
    (s.holdover 0x02).raise 0x02 0x01 { cause := 0x02, cnt := s.rd F.TB_EVT_LOSS 0 }
  else if l = 1 then
    let s := s.bump F.TB_EVT_LOSS 0
    if s.tb.everLocked then s.holdover 0x02
    else s.unmeasured.lockGo 0 0x02
  else s

/-- MAINS_LOST: `ampl`: the amplitude is still at V_MAINS_OK (R90). -/
def mainsLost (ampl : Bool) (s : State) : State :=
  if s.on = false then s
  else ((s.setTb (fun t => { t with mains := false })).wr F.TB_STAT_AMPL_OK 0 (b2n ampl)).loseMains

/-- PHASE_JUMP (R90). -/
def phaseJump (s : State) : State :=
  if s.lock ≠ 2 then s
  else
    let s := s.bump F.TB_EVT_JUMP 0
    (s.holdover 0x03).raise 0x02 0x01 { cause := 0x03, cnt := s.rd F.TB_EVT_JUMP 0 }

/-- HOLDOVER_AMBIGUOUS (R93): the holdover has lasted longer than tHOLD_AMBIG, 12,500 strokes, as TB_HOLD counts them. -/
def holdoverAmbiguous (s : State) : State :=
  if (s.lock = 3 ∨ s.lock = 4) ∧ 12500 < s.rd F.TB_HOLD_STROKES 0 then s.suspectCount else s

/-- The smallest correction, −32,768 to +32,767 units, from the present angle to the one that a measured phase stands for:
(θ_meas + PHASE_OFS) mod 65,536 (R87, R94). -/
def State.correction (s : State) (theta : Nat) : Int :=
  ofField 16 ((theta + s.cf F.TB_CFG_PHASE_OFS 0 + 0x10000 - s.angle) % 0x10000)

/-- The time base locks: a new stay in LOCKED, whose first measured frequency is `mHz` (R90, R93). -/
def State.lockNow (s : State) (mHz : Nat) : State := s.setTb (fun t => { t with everLocked := true, freqs := [mHz] })

/-- LOCK_ACQUIRED: the frequency has settled and the phase is measured as `theta` units since its positive-going zero crossing. The
first lock steps the angle; a reacquisition steps the correction, whatever its size, or slews it and locks once what is left lies
within LOCK_TOL (R90, R94, R97). -/
def lockAcquired (mHz theta : Nat) (s : State) : State :=
  if s.lock ≠ 1 ∨ s.tb.slew ≠ 0 then s
  else
    let corr := s.correction theta
    -- the correction holds the offset in force, so a step that waits for its boundary is done with it (R87)
    let s := (s.setTb (fun t => { t with ofsStep := none })).wr F.TB_FREQ_FREQ 0 mHz
    if s.tb.everLocked = false then (s.lockNow mHz).timeStep corr 2 0x07
    else
      let s := if 16384 < corr.natAbs then s.suspectCount else s
      if s.con F.TB_CFG_REACQ_STEP 0 ∧ corr ≠ 0 then ((s.lockNow mHz).bump F.TB_EVT_REACQ 0).timeStep corr 2 0x09
      else if corr.natAbs ≤ 64 then ((s.lockNow mHz).bump F.TB_EVT_REACQ 0).lockGo 2 0x01
      else (s.setTb (fun t => { t with slew := corr })).wr F.TB_STAT_SLEWING 0 1

/-- Move `x` towards 0 by at most `n`. -/
def toward0 (x : Int) (n : Nat) : Int := if x.natAbs ≤ n then 0 else if 0 < x then x - n else x + n

/-- TB_STAT.SLEWING: a slew is outstanding, or a phase difference beyond LOCK_TOL is being taken out (R90, R94). -/
def State.slewShow (s : State) : State := s.wr F.TB_STAT_SLEWING 0 (b2n (s.tb.slew != 0 || decide (64 < s.tb.dev.natAbs)))

/-- The deviation of the measured phase from its prediction at a crossing while LOCKED: it is what is left to take out, nothing where
it lies within LOCK_TOL; one that counts toward a jump is not taken out (R90). -/
def State.seeDev (s : State) (dev : Int) : State :=
  if s.lock = 2 ∧ dev.natAbs ≤ s.cf F.TB_CFG_JUMP_MAX 0 * 512 then
    s.setTb (fun t => { t with dev := if 64 < dev.natAbs then dev else 0 })
  else s

/-- One stroke of slewing: at most N_SLEW = 256 units in all (R90, R94). -/
def State.slewStroke (s : State) : State :=
  let left := 256 - min 256 s.tb.slew.natAbs
  (s.setTb (fun t => { t with slew := toward0 t.slew 256, dev := toward0 t.dev left })).slewShow

/-- Apply a pending count step at a stroke boundary (R99, R100). -/
def State.countStep (s : State) : State :=
  match s.tb.stepPend with
  | none => s
  | some (k, by_) =>
    let s := (s.setTb (fun t => { t with stepPend := none })).bump F.TB_EVT_ALIGN 0
    let s := if by_ = 0 then s.wr F.TB_STAT_COUNT_SUSPECT 0 0 else s
    let s := (s.timeStep (k * 0x10000) s.lock (if by_ = 1 then 0x05 else 0x06)).alignShow
    if by_ = 2 then s.raise 0x0D 0x08 else s

/-- The stroke time moves to angle 0 of the next stroke; only the angle units and the boundary that pass are counted by the
timers (R463). -/
def State.toBoundary (s : State) : State :=
  let s := (s.clockTicks 3 (0x10000 - s.angle)).clockTicks 4 1
  let s := s.setTb (fun t => { t with now := (t.now / 0x10000 + 1) * 0x10000 })
  { s with sched := { s.sched with inSlot := 0, served := false } }

/-- The measured frequency and the length of a holdover at a stroke boundary (R93). -/
def State.boundaryFreq (s : State) (mHz : Nat) : State :=
  let l := s.lock
  if l = 2 then (s.setTb (fun t => { t with freqs := (mHz :: t.freqs).take 16 })).wr F.TB_FREQ_FREQ 0 mHz
  else if l = 3 ∨ l = 4 then s.bump F.TB_HOLD_STROKES 0 else s

/-- Apply a pending angle step of PHASE_OFS (R87). -/
def State.offsetStep (s : State) : State :=
  match s.tb.ofsStep with
  | some d => (s.setTb (fun t => { t with ofsStep := none })).timeStep d s.lock 0x0B
  | none => s

/-- The average of the last frequencies measured in LOCKED, in whole mHz (R93; its rounding DESIGN CHOICE, log 35). -/
def TimeBase.avgMHz (t : TimeBase) : Nat := t.freqs.foldl (· + ·) 0 / t.freqs.length

/-- The frequency at which the angle advances, which AON stores as well: the measured one while LOCKED, the average over the 16
strokes before the loss until the next lock, the FREE frequency before the first (R91, R93, R95). -/
def State.freqNow (s : State) : Nat :=
  if s.lock = 2 then s.rd F.TB_FREQ_FREQ 0 else if s.tb.freqs.isEmpty then s.tb.freeMHz else s.tb.avgMHz

/-- The AON island stores stroke time and RTC time (R95). -/
def State.aonStore (s : State) : State :=
  let a : AonTime := { count := s.strokes, rtc := s.rtcTicks, mHz := s.freqNow }
  s.setTb (fun t => { t with aon := some a })

/-- A change of the FREE frequency takes effect (R91). -/
def State.freeApply (s : State) : State :=
  let f := s.freeWanted
  s.setTb (fun t => { t with freeMHz := f })

/-- STROKE_BOUNDARY: the measured mains frequency and the measured phase less its prediction, both used while LOCKED
(R90, R93, R95, R99). -/
def strokeBoundary (m : StrokeMeas) (s : State) : State :=
  if s.on = false then s
  else
    ((((s.toBoundary.boundaryFreq m.mHz).freeApply.slewStroke.seeDev m.dev).slewShow.measBoundary).countStep).offsetStep.aonStore

/-- The result of an alignment (R99). -/
def State.alignResult (s : State) (e : Nat) : State :=
  let s := s.wr F.ALIGN_STAT_RESULT 0 e
  if e = errOk then s else s.raise 0x02 0x03

/-- Judge an alignment at its PPS edge (R99). -/
def State.judgeAlign (s : State) (capt : Nat) : State :=
  let s := s.setTb (fun t => { t with alignArmed := false })
  if s.lock ≠ 2 then s.alignResult errState
  else
    let d := ofField 64 ((s.rd F.ALIGN_TIME_TIME 0 + 2 ^ 64 - capt % 2 ^ 64) % 2 ^ 64)
    let k := (d + 0x8000) / 0x10000
    let resid := d - k * 0x10000
    let s := s.wr F.ALIGN_STAT_RESID 0 (s16 resid)
    if s.cf F.TB_CFG_RESID_LIM 0 * 256 < resid.natAbs ∨ 2 ^ 24 < k.natAbs ∨ (s.strokes : Int) + k < 0 then s.alignResult errRange
    else
      let s := (s.wr F.TB_STAT_COUNT_SUSPECT 0 0).wr F.TB_STAT_ALIGNED 0 1
      let s := if k = 0 then s else s.setTb (fun t => { t with stepPend := some (k, 1) })
      s.alignResult errOk

/-- PPS_EDGE: an edge of PPS_IN; one of the polarity of PPS_EDGE captures the stroke time (R98, R99). -/
def ppsEdge (rising : Bool) (s : State) : State :=
  let s := { s with timers := { s.timers with ppsIn := rising } }
  if s.on && s.con F.TB_CFG_PPS_EN 0 && rising != s.con F.TB_CFG_PPS_EDGE 0 then
    let s := (s.wr F.PPS_CAPT_TIME 0 s.tb.now).wr F.TB_STAT_PPS_SEEN 0 1
    if s.tb.alignArmed then (s.judgeAlign s.tb.now).alignShow else s
  else s

/-- PPS_SEEN_TIMEOUT: 1.5 s without a PPS edge (R113). -/
def ppsSeenTimeout (s : State) : State := s.wr F.TB_STAT_PPS_SEEN 0 0

/-- ALIGN_CTL (R99): ARM needs PPS_EN; a STEP that would bring the count below 0 is refused. ARM and STEP in one write are refused
with RANGE, and a refused write leaves ALIGN_STAT as it was (DESIGN CHOICE, log 35). -/
def State.alignCtlErr (s : State) (arm step : Bool) (strokes : Int) : Nat :=
  if arm && step then errRange
  else if arm && s.cf F.TB_CFG_PPS_EN 0 == 0 then errState
  else if step && decide ((s.strokes : Int) + strokes < 0) then errRange
  else errOk

/-- ALIGN_CTL.ARM: a new arming replaces a pending one (R99). -/
def State.alignArmNow (s : State) : State := (s.setTb (fun t => { t with alignArmed := true })).alignShow

/-- ALIGN_CTL.STEP (R99). -/
def State.alignStepNow (s : State) (strokes : Int) : State :=
  ((s.setTb (fun t => { t with stepPend := some (strokes, 0) })).wr F.ALIGN_STAT_RESULT 0 errOk).alignShow

/-- A swap has put `s` in the place of `s0` (R87, R90, R91). -/
def State.tbApply (s0 s : State) : State :=
  let d := ofField 16 (s.cf F.TB_CFG_PHASE_OFS 0 + 0x10000 - s0.cf F.TB_CFG_PHASE_OFS 0)
  let s := if d ≠ 0 ∧ (s.lock = 1 ∨ s.lock = 2) then
      (if s.con F.TB_CFG_REACQ_STEP 0 then s.setTb (fun t => { t with ofsStep := some (t.ofsStep.getD 0 + d) })
       else (s.setTb (fun t => { t with slew := t.slew + d })).slewShow)
    else s
  if s0.con F.TB_CFG_MAINS_EN 0 && !s.con F.TB_CFG_MAINS_EN 0 then s.loseMains
  else if !s0.con F.TB_CFG_MAINS_EN 0 && s.con F.TB_CFG_MAINS_EN 0 then s.acquire else s

/-- The seed of the stroke time from what AON stores, and whether the count is then suspect (R95). With DISCONT set the elapsed time
is unknown; the seed still adds the difference of the two RTC readings (DESIGN CHOICE, log 35). -/
def State.seed (s : State) : Nat × Bool :=
  match s.tb.aon with
  | none => (0, true)
  | some a =>
    let el := s.rtcTicks - a.rtc
    ((a.count + ceilDiv (el * a.mHz) (32768 * 1000) + 1) * 0x10000,
      decide (12500 * 32768 * 1000 < el * a.mHz) || s.flag F.RTC_STAT_DISCONT 0)

/-- The fields of TB_STAT. -/
def tbStatFlds : List Fld :=
  [F.TB_STAT_LOCK, F.TB_STAT_COUNT_SUSPECT, F.TB_STAT_ALIGNED, F.TB_STAT_SLEWING, F.TB_STAT_AMPL_OK, F.TB_STAT_PPS_SEEN,
   F.TB_STAT_REF_SEC]

/-- TB_STAT takes its Reset values (R113). -/
def State.tbClear (s : State) : State := tbStatFlds.foldl (fun s f => s.wr f 0 0) s

/-- The time base starts after a chip reset (R95, R97): count seeded, angle 0, FREE, a record with cause 0x08. `was` holds TB_STAT as
the reset found it: where that changes the lock state, TB_STAT is copied (R90, R92). -/
def State.tbStart (s was : State) : State :=
  let before := s.tb.now
  let (t, sus) := s.seed
  let s := s.setTb (fun x => { now := t, seeded := x.aon.isSome, seedMHz := (x.aon.map (·.mHz)).getD 0, aon := x.aon })
  let s := s.setTb (fun x => { x with freeMHz := s.freeWanted })
  let s := (s.wr F.TB_STAT_COUNT_SUSPECT 0 (b2n sus)).wr F.RTC_STAT_DISCONT 0 0
  let s := s.wr F.TB_STAT_REF_SEC 0 (b2n s.power.onSecondary)
  let s := { s with sched := { s.sched with served := false } }
  let s := s.tbRec was.lock before 0x08
  if was.lock = 0 then s else (copiesOf .commit was s (0, 0x404)).foldl (fun u c => u.emit c.1 0x06 c.2) s

end Sys2Proof.Machine
end

