-- ==== Sys2Proof/Machine/Rings.lean ====
section
/-! DEFINITION. The descriptor and record rings (R385 to R401): doorbells, ring states, descriptor fetch, record DMA and record
interrupts. Rings carry their HR_CTL code: 0 to 7 command rings, 8 to 23 record rings. -/

namespace Sys2Proof.Machine

open Sys2Proof

/-- RG_STAT.STATE (R388): 0 DISABLED, 1 ACTIVE, 2 HALTED. -/
def State.ringSt (s : State) (c : Nat) : Nat := s.rd F.RG_STAT_STATE c

/-- Entries of a ring (R385). -/
def State.depth (s : State) (c : Nat) : Nat := 2 ^ s.rd F.RG_CFG_DEPTH_LOG2 c

/-- Device and host position of a ring (R386). -/
def State.devPos (s : State) (c : Nat) : Nat := s.rd F.RG_STAT_DEV_POS c
def State.hostPos (s : State) (c : Nat) : Nat := s.rd F.RG_HOST_HOST_POS c

/-- Distance from position `a` on to position `b` (R386). -/
def State.posDiff (s : State) (c a b : Nat) : Nat := (b + 2 * s.depth c - a) % (2 * s.depth c)

/-- Address of the entry at a position (R385, R386). -/
def State.entryAddr (s : State) (c pos : Nat) : Nat :=
  s.rd F.RG_BASE_HI_BASE_HI c * 2 ^ 32 + s.rd F.RG_BASE_LO_BASE c * 64 + pos % s.depth c * 32

/-- The generation bit of a position's pass (R386). -/
def State.genOf (s : State) (c pos : Nat) : Bool := decide (pos < s.depth c)

/-- Change the queues of the host-link domain. -/
def State.setRing (s : State) (f : RingBlk → RingBlk) : State := { s with ring := f s.ring }

/-- The link carries requests of the device: up, out of D3hot, Bus Master Enable set (R388, R404). -/
def State.linkRuns (s : State) : Bool := s.rd F.HR_STAT_LINK 0 == 2 && !s.flag F.HR_STAT_D3HOT 0 && s.flag F.HR_STAT_BME 0

/-- Issue the next descriptor read of a command ring: up to 8 descriptors, within Max_Read_Request_Size, never across the
ring end (R392). -/
def State.fetch (s : State) (c : Nat) : State :=
  let dev := s.devPos c
  let n := min (min (s.posDiff c dev (s.hostPos c)) (s.depth c - dev % s.depth c)) (min 8 (2 ^ (2 + s.rd F.HR_STAT_MRRS 0)))
  if s.ringSt c ≠ 1 ∨ s.linkRuns = false ∨ n = 0 ∨ s.ring.reading.at c ≠ 0 ∨ bitOf s.pert.delayed c then s
  else
    let a := s.entryAddr c dev
    { s.setRing (fun r => { r with reading := r.reading.put c n }) with
      out := { s.out with fetch := s.out.fetch ++ [(c, a, n * 32)] } }

/-- Refuse a doorbell (R387). -/
def State.refuseDoorbell (s : State) (c : Nat) : State :=
  let s := s.bump F.HR_EVT_DB_REFUSED 0
  s.raise 0x0E 0x07 { unit := c, cnt := s.rd F.HR_EVT_DB_REFUSED 0 }

/-- A doorbell of any ring may be accepted, but for how far it goes (R387). -/
def State.doorbellOk (s : State) (c val be : Nat) : Bool :=
  decide (val < 0x2000) && be == 0xF && s.ringSt c == 1 && decide (val < 2 * s.depth c)

/-- The doorbell-delay perturbation applies to a command ring (R302). -/
def State.dbDelayed (s : State) (c : Nat) : Bool := s.pert.kindEnd.at 1 != 0 && bitOf (s.rd F.PT_DB_RING 0) c

/-- CMD_DOORBELL: a write of a command ring's doorbell with its byte enables (R387, R302). -/
def cmdDoorbell (c val be : Nat) (s : State) : State :=
  let dev := s.devPos c
  if s.doorbellOk c val be && decide (s.posDiff c dev (s.hostPos c) ≤ s.posDiff c dev val)
      && decide (s.posDiff c dev val ≤ s.depth c) then
    let s := s.wr F.RG_HOST_HOST_POS c val
    if s.dbDelayed c then { s with pert := { s.pert with delayed := setBit s.pert.delayed c } } else s.fetch c
  else s.refuseDoorbell c

/-- REC_DOORBELL: a write of record ring `r`'s doorbell (R387). -/
def recDoorbell (r val be : Nat) (s : State) : State :=
  let c := 8 + r
  let h := s.hostPos c
  if s.doorbellOk c val be && decide (s.posDiff c h val ≤ s.posDiff c h (s.devPos c)) then s.wr F.RG_HOST_HOST_POS c val
  else s.refuseDoorbell c

/-- What a read of a ring's doorbell returns (R387). -/
def State.doorbellWord (s : State) (c : Nat) : Nat := s.ringSt c * 2 ^ 28 + s.devPos c

/-- A word of an MSI-X table entry (R383): message address, upper address, data, and Vector Control with the mask bit. -/
def State.vecWord (s : State) (v k : Nat) : Nat :=
  if k = 3 then b2n (!bitOf s.ring.vecOpen v) else s.ring.vecTab.at (v * 4 + k)

/-- The double word that a read of BAR2 returns at a byte offset (R383, R387): the doorbells, the MSI-X table, the pending-bit
array; 0 elsewhere. -/
def State.bar2Word (s : State) (off : Nat) : Nat :=
  if off / 4 * 4 < 0x180 ∧ off / 4 % 4 = 0 then s.doorbellWord (off / 16)
  else if 0x800 ≤ off ∧ off < 0xA00 then s.vecWord (off / 16 - 128) (off / 4 % 4)
  else if off / 4 = 0x300 then s.ring.vecPend
  else 0

/-- DOORBELL_DELAY_END (R302). -/
def doorbellDelayEnd (c : Nat) (s : State) : State :=
  if bitOf s.pert.delayed c then ({ s with pert := { s.pert with delayed := clrBit s.pert.delayed c } } : State).fetch c else s

/-- Discard a record ring's queue, each record counted as dropped (R388, R404). -/
def State.dropQueue (s : State) (c : Nat) : State :=
  let n := (s.ring.queue.at c).length
  if n = 0 then s else s.setRing (fun r => ({ r with queue := r.queue.put c [] } : RingBlk).drop c n)

/-- Halt an ACTIVE ring (R388). Records queued on it are dropped. -/
def State.haltRing (s : State) (c cause : Nat) : State :=
  if s.ringSt c ≠ 1 then s
  else
    let s := ((s.wr F.RG_STAT_STATE c 2).wr F.RG_STAT_CAUSE c cause).dropQueue c
    (s.setRing (fun r => { r with reading := r.reading.put c 0 })).raise 0x0E 0x06 { unit := c, cause }

/-- Commands of a command ring that have been handed on and are not complete (R393). -/
def State.outstanding (s : State) (c : Nat) : Bool :=
  s.ring.dispatched.any (fun d => d.info.ring.val == c) || s.ring.timed.any (fun d => d.info.ring.val == c)

/-- Form a command completion record (R395), unless QUIET is set and the result is OK; a refusal counts in the ring's DROPS
(R408; DEDUCED, log 19: at fetch and at execution). -/
def State.complete (s : State) (d : Desc) (err status : Nat) : State :=
  let c := d.info.ring.val
  let s := if status = 2 ∨ status = 3 then s.bump F.RG_EVT_DROPS c else s
  if d.info.quiet && err == errOk then s
  else s.emit 0x0E 0x0C (bytes 1 c ++ bytes 1 d.op ++ bytes 1 err ++ bytes 1 status ++ bytes 2 d.info.seq
    ++ bytes 2 d.info.pos ++ bytes 8 s.tb.now)

/-- Put a command into the timed queue, in order of time and then arrival (R394). -/
def timedPut (d : Desc) : List Desc → List Desc
  | [] => [d]
  | x :: l => if slotUp x.launch ≤ slotUp d.launch then x :: timedPut d l else d :: x :: l

/-- Hand a command on: into the timed queue where it has a launch time and is no CTX_ARM, to its block otherwise (R393,
R394). A full queue refuses it (DEDUCED, log 19: at execution). -/
def State.handOn (s : State) (d : Desc) : State :=
  if d.launch ≠ 0 ∧ d.op ≠ 3 then
    if 32 ≤ s.ring.timed.length then s.complete d errBusy 3
    else
      let s := s.setRing (fun r => { r with timed := timedPut d r.timed })
      let n := s.ring.timed.length
      (if s.rd F.TQ_STAT_PEAK 0 < n then s.wr F.TQ_STAT_PEAK 0 n else s).complete d errOk 4
  else s.setRing (fun r => { r with dispatched := r.dispatched ++ [d] })

/-- Let a ring become DISABLED (R388): positions and halt cause return to 0. A waiting FENCE lapses, and
the commands that it held back, already fetched, are handed on (DEDUCED from R388 and R405, log 32). -/
def State.disableRing (s : State) (c : Nat) : State :=
  let s := s.dropQueue c
  let s := s.wr F.RG_STAT_STATE c 0 |>.wr F.RG_STAT_CAUSE c 0 |>.wr F.RG_STAT_DEV_POS c 0 |>.wr F.RG_HOST_HOST_POS c 0
    |>.wr F.RG_HOST_EXPECT_SEQ c 0
  let held := s.ring.held.at c
  held.foldl State.handOn (s.setRing (fun r => { r with
    reading := r.reading.put c 0, seqSet := clrBit r.seqSet c, irqCount := r.irqCount.put c 0, irqAt := r.irqAt.put c 0
    held := r.held.put c [] }))

/-- A record ring holds less than its service interval at its declared rate (R402). -/
def tooShallow (depth rate svc : Nat) : Bool := rate != 0 && decide (depth * 100000 < svc * rate)

/-- HR_CTL (R388, R408). -/
def State.askRing (s : State) (action c : Nat) : Nat × State :=
  if action = 0 ∨ action = 3 ∨ 24 ≤ c then (errRange, s)
  else if action = 1 then
    if s.ringSt c ≠ 0 ∨ s.flag F.HR_STAT_BME 0 = false then (errState, s)
    else if s.rd F.RG_BASE_LO_BASE c = 0 ∧ s.rd F.RG_BASE_HI_BASE_HI c = 0 then (errRange, s)
    else if 8 ≤ c ∧ tooShallow (s.depth c) (s.cf F.RG_DECL_RATE c) (s.cf F.RG_SVC_SVC c) then (errBudget, s)
    else (errOk, s.wr F.RG_STAT_STATE c 1 |>.wr F.RG_STAT_DEV_POS c 0 |>.wr F.RG_HOST_HOST_POS c 0)
  else if s.ringSt c = 0 then (errState, s)
  else (errOk, s.disableRing c)

/-- DMA_READ_ERROR: a descriptor read ends in error (R388). -/
def dmaReadError (c : Nat) (s : State) : State := if s.ring.reading.at c = 0 then s else s.haltRing c 0x2

/-- A record ring's message (R400). -/
def State.ringMessage (s : State) (c : Nat) : State :=
  (s.setRing (fun r => { r with irqCount := r.irqCount.put c 0, irqAt := r.irqAt.put c 0 })).message (s.cf F.RG_IRQ_VEC c)

/-- Record back-pressure holds a record ring's DMA now (R302). -/
def State.heldBack (s : State) (r : Nat) : Bool :=
  s.pert.kindEnd.at 2 != 0 && s.ring.bpHold && bitOf (s.rd F.PT_BP_RING 0) r

/-- How many queued records of a ring go into the next memory write (R399). -/
def State.writeLen (s : State) (c : Nat) : Nat :=
  let dev := s.devPos c
  let free := s.depth c - s.posDiff c (s.hostPos c) dev
  min (min (s.ring.queue.at c).length free) (min (s.depth c - dev % s.depth c) (2 ^ (2 + min 1 (s.rd F.HR_STAT_MPS 0))))

/-- RECORD_DMA_WRITE: one memory write of record ring `r` (R399, R400). -/
def recordDmaWrite (r : Nat) (s : State) : State :=
  let c := 8 + r
  let n := s.writeLen c
  if s.ringSt c ≠ 1 ∨ s.linkRuns = false ∨ s.heldBack r = true ∨ n = 0 then s
  else
    let dev := s.devPos c
    let q := s.ring.queue.at c
    let block := (s.entryAddr c dev, (q.take n).flatMap (fun x => x.wire (s.genOf c dev)))
    let s : State := { s with out := { s.out with dma := s.out.dma ++ [block] } }
    let s := s.wr F.RG_STAT_DEV_POS c ((dev + n) % (2 * s.depth c))
    let k := s.ring.irqCount.at c + n
    let at_ := if s.ring.irqAt.at c = 0 then s.now + 1 else s.ring.irqAt.at c
    let s := s.setRing (fun x => { x with
      queue := x.queue.put c (q.drop n), irqCount := x.irqCount.put c k, irqAt := x.irqAt.put c at_ })
    if s.cf F.RG_IRQ_IRQ_CNT c ≠ 0 ∧ s.cf F.RG_IRQ_IRQ_CNT c ≤ k then s.ringMessage c else s

/-- RING_IRQ_TIMEOUT: IRQ_TIME has passed since the first record after the last message (R400). While the link carries no
requests the ring keeps what is due (R404). -/
def ringIrqTimeout (r : Nat) (s : State) : State :=
  let c := 8 + r
  if s.linkRuns = true ∧ s.cf F.RG_IRQ_IRQ_CNT c ≠ 0 ∧ s.cf F.RG_IRQ_IRQ_TIME c ≠ 0 ∧ s.ring.irqAt.at c ≠ 0 then s.ringMessage c else s

/-- RECORD_BACK_PRESSURE_END: the held share of the 1 ms period is over (R302). -/
def recordBackPressureEnd (s : State) : State := s.setRing (fun r => { r with bpHold := false })

/-- Raise HOST 0x03 for every ring whose first drop since the read of RG_EVT is still to be reported (R401). -/
def State.sayDrops (s : State) : State :=
  (List.range 24).foldl (fun s c =>
    if bitOf s.ring.dropDue c then
      (s.setRing (fun r => { r with dropDue := clrBit r.dropDue c, dropSaid := setBit r.dropSaid c })).raise 0x0E 0x03
        { unit := c, cnt := s.rd F.RG_EVT_DROPS c }
    else s) s

end Sys2Proof.Machine
end

