-- ==== Sys2Proof/Machine/Perturb.lean ====
section
/-! DEFINITION. The deliberate perturbation block (R302 to R306). -/

namespace Sys2Proof.Machine

open Sys2Proof

/-- A master's code in a perturbation log record (R306). -/
def masterCode : Master → Nat
  | .pcie => 1 | .twoWire => 2

/-- The registers of a kind 1 to 4: the word that sets it (R302, R310). -/
def kindFlds : Nat → List Fld
  | 1 => [F.PT_DB_RING, F.PT_DB_DELAY]
  | 2 => [F.PT_BP_RING, F.PT_BP_DUTY]
  | 3 => [F.PT_SKEW_SKEW]
  | 4 => [F.PT_WM_DLY_DELAY]
  | _ => []

/-- The register word of a kind. -/
def State.kindWord (s : State) (k : Nat) : Nat := (kindFlds k).foldl (fun a f => a + s.rd f 0 * 2 ^ f.lo) 0

/-- The present setting makes a kind active: a non-zero value, and for PT_DB and PT_WM_DLY a non-zero mask (R305). -/
def State.kindWanted (s : State) (k : Nat) : Bool :=
  match k with
  | 1 => s.rd F.PT_DB_DELAY 0 != 0 && s.rd F.PT_DB_RING 0 != 0
  | 2 => s.rd F.PT_BP_DUTY 0 != 0
  | 3 => s.rd F.PT_SKEW_SKEW 0 != 0
  | 4 => s.rd F.PT_WM_DLY_DELAY 0 != 0 && s.rd F.PT_WM_MASK_MASK 0 != 0
  | _ => false

/-- Form a perturbation log record (R306). -/
def State.pertRec (s : State) (action kind master cause word left : Nat) : State :=
  s.emit 0x16 0x0B (bytes 1 action ++ bytes 1 kind ++ bytes 1 master ++ bytes 1 cause ++ bytes 4 word
    ++ bytes 4 (if kind = 4 then s.rd F.PT_WM_MASK_MASK 0 else 0) ++ bytes 2 left ++ bytes 2 (s.rd F.PT_STAT_UNLOCKS 0))

/-- The session's master in records. -/
def State.pertMaster (s : State) : Nat := (s.pert.session.map masterCode).getD 0

/-- Mark a kind active until `t`, or not active. -/
def State.setKind (s : State) (k : Nat) (t : Option Nat) : State :=
  let m := s.rd F.PT_STAT_ACTIVE 0
  let s := { s with pert := { s.pert with kindEnd := s.pert.kindEnd.put k (match t with | some x => x + 1 | none => 0) } }
  let s := s.wr F.PT_STAT_ACTIVE 0 (if t.isSome then setBit m (k - 1) else clrBit m (k - 1))
  if k = 2 then s.setRing (fun r => { r with bpHold := t.isSome }) else s

/-- Doorbells that a perturbation has delayed are fetched at once (R307). -/
def State.releaseDoorbells (s : State) : State := (List.range 8).foldl (fun s c => doorbellDelayEnd c s) s

/-- What a kind held back goes on when it is over (R305, R307): delayed doorbells are fetched, delayed crossings take effect. -/
def State.releaseKind (s : State) (k : Nat) : State :=
  if k = 1 then s.releaseDoorbells
  else if k = 4 then s.lateCrossings (s.wmon.late.foldl (fun t x => max t x.due) 0)
  else s

/-- A kind is over: its register returns to 0 (R305). -/
def State.endKind (s : State) (k : Nat) : State :=
  ((kindFlds k).foldl (fun s f => s.wr f 0 0) (s.setKind k none)).releaseKind k

/-- The value of a kind, its mask aside, is zero. -/
def State.kindZero (s : State) (k : Nat) : Bool :=
  match k with
  | 1 => s.rd F.PT_DB_DELAY 0 == 0
  | 2 => s.rd F.PT_BP_DUTY 0 == 0
  | 3 => s.rd F.PT_SKEW_SKEW 0 == 0
  | _ => s.rd F.PT_WM_DLY_DELAY 0 == 0

/-- A zero write, or CLEAR_ALL, has cleared a kind (R306): its record, and the event of a setting (DEDUCED, log 37: R279 has no code of
its own for it). -/
def State.kindCleared (s : State) (k word : Nat) : State :=
  (s.raise 0x16 0x03).pertRec 0x05 k s.pertMaster 0 word 0

/-- A setting register of kind `k` has been written (R305, R306): the kind is set, or ended by a value or a mask of zero. A
non-zero value without a mask that ends nothing leaves no record. -/
def State.kindWritten (s : State) (k : Nat) : State :=
  if s.kindWanted k then
    let s := s.setKind k (some (min (s.now + s.rd F.PT_TTL_TTL 0 * 1000000) s.pert.sessionEnd))
    (s.raise 0x16 0x03).pertRec 0x03 k s.pertMaster 0 (s.kindWord k) (s.kindLeft k)
  else
    let word := s.kindWord k
    let active := s.pert.kindEnd.at k ≠ 0
    let s := if active then (s.setKind k none).releaseKind k else s
    if active ∨ s.kindZero k then s.kindCleared k word else s

/-- The code with which a write of a setting is refused (R304). -/
def State.pertGate (s : State) (m : Master) : Nat :=
  match s.pert.session with
  | none => errLocked
  | some o => if o = m then errOk else errPrivilege

/-- Refuse an unlock (R304, R306). -/
def State.refuseUnlock (s : State) (m : Master) (e : Nat) : Nat × State :=
  let s := s.bump F.PT_STAT_REFUSED 0
  (e, (s.raise 0x16 0x05 { cnt := s.rd F.PT_STAT_REFUSED 0 }).pertRec 0x06 0 (masterCode m) 0 0 0)

/-- Open a session for tPT_MAX (R304, R305). -/
def State.openSession (s : State) (m : Master) : State :=
  let s := (s.bump F.PT_STAT_UNLOCKS 0).wr F.PT_STAT_UNLOCKED 0 1
  let s := { s with pert := { s.pert with session := some m, sessionEnd := s.now + 600000000, key := none } }
  let s := s.owe ctrlChunk false
  (s.raise 0x16 0x01 { cnt := s.rd F.PT_STAT_UNLOCKS 0 }).pertRec 0x01 0 (masterCode m) 0 0 600

/-- PT_KEY (R304): the second key must follow the first from the same master within tKEY, 1 ms. -/
def State.askKey (s : State) (m : Master) (key : Nat) : Nat × State :=
  let setKey (s : State) (k : Option (Master × Nat)) : State := { s with pert := { s.pert with key := k } }
  if s.rd F.PT_STAT_ALLOWED 0 = 0 then s.refuseUnlock m errLocked
  else if s.safe ∨ s.pert.session.isSome then s.refuseUnlock m errState
  else match s.pert.key with
    | none => if key = 0x7E1A then (errOk, setKey s (some (m, s.now))) else s.refuseUnlock m errRange
    | some (o, t) =>
      if key = 0x91C5 ∧ o = m ∧ s.now ≤ t + 1000 then (errOk, s.openSession m)
      else (setKey s none).refuseUnlock m errRange

/-- End a session (R305, R306): every kind ends with it. -/
def State.endSession (s : State) (cause : Nat) : State :=
  match s.pert.session with
  | none => s
  | some m =>
    let left := s.secsLeft s.pert.sessionEnd
    let s := [1, 2, 3, 4].foldl State.endKind s
    let s := { s with pert := { s.pert with session := none, sessionEnd := 0 } }
    let s := (s.wr F.PT_STAT_UNLOCKED 0 0).wr F.PT_WM_MASK_MASK 0 0
    (s.raise 0x16 0x02 { cause }).pertRec 0x02 0 (masterCode m) cause 0 left

/-- PT_CTL (R305): LOCK ends the session, CLEAR_ALL ends every kind. -/
def State.askPtCtl (s : State) (m : Master) (clear lock : Bool) : Nat × State :=
  let g := s.pertGate m
  if g ≠ errOk then (g, s)
  else if clear && lock then (errRange, s)
  else if lock then (errOk, s.endSession 0x01)
  else if clear then
    (errOk, [1, 2, 3, 4].foldl (fun s k =>
      if s.pert.kindEnd.at k = 0 then s
      else
        let word := s.kindWord k
        (s.endKind k).kindCleared k word) s)
  else (errOk, s)

/-- PT_KIND_EXPIRY (R305, R306). -/
def ptKindExpiry (k : Nat) (s : State) : State :=
  if s.pert.kindEnd.at k = 0 then s
  else
    let word := s.kindWord k
    let s := s.endKind k
    (s.raise 0x16 0x04).pertRec 0x04 k s.pertMaster 0 word 0

/-- PT_SESSION_EXPIRY: tPT_MAX is over (R305). -/
def ptSessionExpiry (s : State) : State := s.endSession 0x02

end Sys2Proof.Machine
end

