-- ==== Sys2Proof/Machine/Link.lean ====
section
/-! DEFINITION. The PCI Express link and function (R382, R404), MSI-X (R289). -/

namespace Sys2Proof.Machine

open Sys2Proof

/-- Every ring becomes DISABLED, and queued records count as drops (R404). -/
def State.disableAll (s : State) : State :=
  (List.range 24).foldl (fun s c => if s.ringSt c = 0 then s else s.disableRing c) s

/-- A session opened over PCI Express ends (R305). -/
def State.endHostSession (s : State) : State := if s.pert.session = some .pcie then s.endSession 0x05 else s

/-- What a link-down does (R404). -/
def State.loseLink (s : State) : State :=
  let up := s.rd F.HR_STAT_LINK 0 == 2
  let s := s.disableAll
  let s := (s.wr F.HR_STAT_LINK 0 0).wr F.HR_STAT_SPEED 0 0
  let s := s.setRing (fun r => { r with rateSaid := false })
  let s := if up then s.bump F.HR_EVT_LINK_DOWN 0 else s
  let s := if up then s.raise 0x0E 0x01 { cnt := s.rd F.HR_EVT_LINK_DOWN 0 } else s
  s.endHostSession

/-- LINK_DOWN (R404). -/
def linkDown (s : State) : State := s.loseLink

/-- Configuration space and every Immediate field of the block return to their Reset values (R404, R408). -/
def State.hostFields (s : State) : State :=
  let one := [F.HR_STAT_BME, F.HR_STAT_MSIX_EN, F.HR_STAT_MSIX_FMASK, F.HR_STAT_D3HOT, F.HR_STAT_MPS, F.HR_STAT_MRRS]
  let s := one.foldl (fun s f => s.wr f 0 f.rst) s
  let s := (s.wr F.HR_SEL_RING 0 0).wr F.HR_SEL_RING 1 0
  let s := (List.range 24).foldl (fun s c =>
    [F.RG_BASE_LO_BASE, F.RG_BASE_HI_BASE_HI, F.RG_CFG_SEQ_CHK, F.RG_CFG_DEPTH_LOG2].foldl (fun s f => s.wr f c f.rst) s) s
  s.setRing (fun r => { r with vecOpen := 0, vecPend := 0, vecTab := {} })

/-- A Function Level Reset acts as a link-down, HOST event 0x01 with it, but the link itself stays up and no link-down is counted (R404;
DEDUCED, log 32). -/
def State.functionReset (s : State) : State :=
  let s := s.disableAll
  (if s.rd F.HR_STAT_LINK 0 = 2 then s.raise 0x0E 0x01 else s).endHostSession

/-- HOT_RESET: a hot reset, PCIE_PERST_N, or (`flr`) a Function Level Reset (R404). -/
def hotReset (flr : Bool) (s : State) : State :=
  let s := if flr then s.functionReset else s.loseLink
  (s.hostFields).bump F.HR_EVT_HOT_RESET 0

/-- HOST 0x09, once per link-up: the declared total exceeds what the link carries at 2.5 GT/s (R403). -/
def State.judgeRate (s : State) : State :=
  if s.rd F.HR_STAT_LINK 0 = 2 ∧ s.rd F.HR_STAT_SPEED 0 = 1 ∧ 1250000 < s.rd F.HR_RATE_TOTAL 0 ∧ s.ring.rateSaid = false then
    (s.setRing (fun r => { r with rateSaid := true })).raise 0x0E 0x09
  else s

/-- Send the message held pending for a vector, if it may go now (R289). -/
def State.sendPending (s : State) (v : Nat) : State :=
  if bitOf s.ring.vecPend v && bitOf s.ring.vecOpen v && !s.flag F.HR_STAT_MSIX_FMASK 0 && s.msixRuns then
    (s.setRing (fun r => { r with vecPend := clrBit r.vecPend v })).message v
  else s

/-- As `sendPending`, for every vector. -/
def State.sendAll (s : State) : State := (List.range 32).foldl State.sendPending s

/-- Halt the ACTIVE rings: Bus Master Enable is clear (R388, R404). -/
def State.haltAll (s : State) : State := (List.range 24).foldl (fun s c => s.haltRing c 0x3) s

/-- Both islands of the host link, DATA and LINK, are powered (R34). -/
def State.linkPowered (s : State) : Bool :=
  bitOf (s.rd F.UNIT_STAT_ISLAND_OK 0) 7 && bitOf (s.rd F.UNIT_STAT_ISLAND_OK 0) 8

/-- LINK_UP: the link has trained, and the host has set the function up (R404); with the link up already, only the function's
set-up changes, and ACTIVE rings halt where it clears Bus Master Enable. Rings stay DISABLED. -/
def linkUp (x : LinkCfg) (s : State) : State :=
  if s.on = false ∨ s.linkPowered = false then s
  else
    let was := s.rd F.HR_STAT_LINK 0 == 2
    let s := s.wr F.HR_STAT_BME 0 (b2n x.bme) |>.wr F.HR_STAT_MPS 0 x.mps |>.wr F.HR_STAT_MRRS 0 x.mrrs
    if was then (if x.bme then s.sendAll else s.haltAll)
    else
      let s := (s.wr F.HR_STAT_LINK 0 2).wr F.HR_STAT_SPEED 0 (if x.gen2 then 2 else 1)
      let s := s.raise 0x0E 0x02
      (if x.gen2 then s else s.raise 0x0E 0x08).judgeRate

/-- D3HOT_ENTRY: fetch, record writes and messages stop (R404). -/
def d3hotEntry (s : State) : State := if s.rd F.HR_STAT_LINK 0 = 2 then s.wr F.HR_STAT_D3HOT 0 1 else s

/-- Fetch goes on from every command ring with descriptors to come. -/
def State.fetchAll (s : State) : State := (List.range 8).foldl State.fetch s

/-- D0_ENTRY (R404). -/
def d0Entry (s : State) : State := if s.flag F.HR_STAT_D3HOT 0 then (s.wr F.HR_STAT_D3HOT 0 0).fetchAll.sendAll else s

/-- BUS_MASTER_CLEARED: the ACTIVE rings halt (R404). -/
def busMasterCleared (s : State) : State := (s.wr F.HR_STAT_BME 0 0).haltAll

/-- MSIX_ENABLED: the host writes the enable and function mask bits of Message Control (R289, R382). Where MSI-X becomes enabled,
one message goes for each vector that has a block with PEND = 1 and IRQ_EN = 1, and what the masks held pending with it. -/
def msixEnabled (enable fmask : Bool) (s : State) : State :=
  let was := s.flag F.HR_STAT_MSIX_EN 0
  let s := (s.wr F.HR_STAT_MSIX_EN 0 (b2n enable)).wr F.HR_STAT_MSIX_FMASK 0 (b2n fmask)
  let due (v : Nat) : Bool := (List.range 23).any (fun b => s.con F.FB_CFG_IRQ_EN b && s.pend b && s.cf F.FB_CFG_VEC b == v)
  if was || !s.msixRuns || s.cf F.FH_GCFG_IRQ_MODE 0 == 1 then s.sendAll
  else
    let l := (List.range 32).filter due
    (l.foldl (fun s v => (s.setRing (fun r => { r with vecPend := clrBit r.vecPend v })).message v) s).sendAll

/-- A write of a double word of BAR2 outside the doorbells (R383): an entry of the MSI-X table, bit 0 of whose Vector Control is its
mask; discarded elsewhere. -/
def State.bar2Write (s : State) (off w : Nat) : State :=
  let v := off / 16 - 128
  if off < 0x800 ∨ 0xA00 ≤ off then s
  else if off / 4 % 4 ≠ 3 then s.setRing (fun r => { r with vecTab := r.vecTab.put (v * 4 + off / 4 % 4) w })
  else if w % 2 = 1 then s.setRing (fun r => { r with vecOpen := clrBit r.vecOpen v })
  else (s.setRing (fun r => { r with vecOpen := setBit r.vecOpen v })).sendPending v

/-- MSIX_VECTOR_UNMASKED: the host writes the mask of a vector, or the function mask; a message held pending goes once neither
masks it (R289). -/
def msixVectorUnmasked (x : MsixWrite) (s : State) : State :=
  match x with
  | .functionMask on => (s.wr F.HR_STAT_MSIX_FMASK 0 (b2n on)).sendAll
  | .bar2 off w => s.bar2Write off.toNat w.toNat

end Sys2Proof.Machine
end

