-- ==== Sys2Proof/Machine/Twin.lean ====
section
/-! DEFINITION. Twin operation (R357 to R379): the twin states, agreement, joining, leaving, removal, and the lend requests of
the link. Frames and mirrors arrive whole as commands; what this device sends of itself is `mirrorBytes`. -/

namespace Sys2Proof.Machine

open Sys2Proof

-- Twin sets and the mirror

/-- One slot entry of a twin set (R366). -/
structure SlotEntry where
  rail : Nat
  share : Nat
  droop : Nat
  hold : Nat
  vset : Nat
  vmax : Nat
deriving DecidableEq, Repr

/-- The limit field VMAX of a rail that may be twinned. -/
def vmaxFld (r : Nat) : Fld × Nat :=
  if r ≤ 12 then (F.B_VLIM_VMAX, r - 1) else if r ≤ 14 then (F.X_VLIM_VMAX, r - 13) else (F.L_VLIM_VMAX, r - 15)

/-- The slot entry that a bank holds. -/
def entryOf (rd : Fld → Nat → Nat) (k : Nat) : SlotEntry :=
  if usedSlot rd k then
    let r := rd F.TW_SLOT_RAIL k
    ⟨r, rd F.TW_SLOT_SHARE k, rd F.TW_SLOT_DROOP k, rd F.SQ_CFG_HOLD r, rd (vsetFld r).1 (vsetFld r).2.1,
      rd (vmaxFld r).1 (vmaxFld r).2⟩
  else ⟨0xFF, 0, 0, 0, 0, 0⟩

/-- The eight bytes of a slot entry (R366). -/
def SlotEntry.bytes8 (e : SlotEntry) : List Byte :=
  bytes 1 e.rail ++ bytes 1 e.share ++ bytes 1 e.droop ++ bytes 1 e.hold ++ bytes 2 e.vset ++ bytes 2 e.vmax

/-- The number in bytes `i` to `i + n - 1` of a mirror. -/
def mirAt (m : List Byte) (i n : Nat) : Nat := ofLeBytes ((m.drop i).take n)

/-- A slot entry of the partner's mirror: its active set from byte 24, its staging set from byte 88 (R366). -/
def mirEntry (m : List Byte) (base k : Nat) : SlotEntry :=
  let i := base + 8 * k
  ⟨mirAt m i 1, mirAt m (i + 1) 1, mirAt m (i + 2) 1, mirAt m (i + 3) 1 % 2, mirAt m (i + 4) 2, mirAt m (i + 6) 2⟩

/-- A slot disagrees (R369): used on either device, and not equal but for SHARE values that sum to 100. -/
def slotDiffers (a b : SlotEntry) : Bool :=
  (a.rail != 0xFF || b.rail != 0xFF)
    && !(a.rail == b.rail && a.droop == b.droop && a.hold == b.hold && a.vset == b.vset && a.vmax == b.vmax
      && a.share + b.share == 100)

/-- Slots of a bank that disagree with one of the partner's sets. -/
def twinDiff (rd : Fld → Nat → Nat) (m : List Byte) (base : Nat) : List Nat :=
  (List.range 8).filter (fun k => slotDiffers (entryOf rd k) (mirEntry m base k))

/-- A used slot's rail is GOOD and its running limit is at least its declared load, both in mA (R366). -/
def State.carries (s : State) (k : Nat) : Bool :=
  let r := s.cf F.TW_SLOT_RAIL k
  let lim := if r ≤ 12 then
      (if s.paired (r - 1) then 2 * min (s.rd F.B_STAT_ILIM_RUN (r - 1)) (s.rd F.B_STAT_ILIM_RUN r) else s.rd F.B_STAT_ILIM_RUN (r - 1))
    else if r ≤ 14 then s.rd F.X_STAT_ILIM_RUN (r - 13) * 10 else s.cf F.L_ILIM_ILIM (r - 15)
  s.stepOf r == 3 && decide (declared s.cf r ≤ lim)

/-- Bytes 0 to 195 of this device's mirror (R366); ACTIVE_CRC, COMMIT_SEQ, a PENDING commit's swap time and the staging set
come from the commit engine. Bytes 8 to 15 are the stroke time at which a pass starts. -/
def State.mirrorBody (s : State) : List Byte :=
  let flags := b2n (s.flag F.EST_STAT_DRAW 0) + 2 * b2n s.well.lend + 4 * s.rd F.TB_STAT_COUNT_SUSPECT 0
    + 8 * s.rd F.TB_STAT_ALIGNED 0 + 16 * b2n s.safe + 32 * s.rd F.SEQ_STAT_LATCHED 0
    + 64 * b2n ((List.range 12).any (fun c => s.flag F.CA_STAT_WORN c)) + 128 * b2n s.degraded
  bytes 4 (s.rd F.ACTIVE_CRC_CRC 0) ++ bytes 2 (s.rd F.COMMIT_SEQ_COUNT 0) ++ bytes 1 (s.rd F.COMMIT_STAT_STATE 0)
    ++ bytes 1 s.power.st.code ++ bytes 8 s.tb.now
    ++ bytes 8 (if s.rd F.COMMIT_STAT_STATE 0 = 2 then s.commit.swapAt else 0)
    ++ (List.range 8).flatMap (fun k => (entryOf s.cf k).bytes8) ++ (List.range 8).flatMap (fun k => (entryOf s.sf k).bytes8)
    ++ bytes 3 s.goodMask ++ bytes 1 (s.rd F.EST_STAT_SOC 0) ++ bytes 1 flags ++ bytes 1 (s.rd F.TB_STAT_LOCK 0)
    ++ bytes 1 (maskOf 8 (fun k => usedSlot s.cf k && s.carries k)) ++ bytes 37 0

/-- The 200 bytes of this device's mirror (R366). -/
def State.mirrorBytes (s : State) : List Byte := s.mirrorBody ++ bytes 4 (crc32c s.mirrorBody)

/-- Symbols 1 to 35 of this device's frame, with its sequence, slot currents, message and a chunk of the mirror that its present pass
sends (R365, R366). -/
def State.frameBody (s : State) (seq msg arg chunk : Nat) : List Byte :=
  bytes 1 seq
    ++ bytes 1 (s.twSt * 16 + s.rd F.TW_STAT_ROLE 0 * 8 + s.rd F.TW_STAT_TIME_REF 0 * 4 + s.rd F.PE_STAT_MATE 0 * 2)
    ++ bytes 1 s.closed ++ (List.range 8).flatMap (fun k => bytes 2 (s.rd F.TW_I_OWN k)) ++ bytes 5 s.tb.now
    ++ bytes 1 msg ++ bytes 4 arg ++ bytes 1 chunk ++ (s.twin.pass.drop (5 * chunk)).take 5

/-- Symbols 1 to 39 of a frame: its content and the CRC-32C over it (R365). -/
def frameOf (body : List Byte) : List Byte := body ++ bytes 4 (crc32c body)

/-- A frame has carried the first message that repeats: after 16 frames it lapses, and a LEAVE_REQ that lapses is no longer asked
(R367). -/
def State.msgSent (s : State) : State :=
  match s.twin.msgs with
  | [] => s
  | (code, arg, n) :: rest =>
    if 1 < n then s.setTwin (fun t => { t with msgs := (code, arg, n - 1) :: rest })
    else s.setTwin (fun t => { t with msgs := rest, asked := t.asked && code != 1 })

/-- The frame of a microsecond goes out (R365 to R367), in OFF none (R359): a pass of the mirror starts with chunk 0; a LEAVE_REQ that has
been answered or given up no longer repeats. -/
def State.sendFrame (s : State) : State :=
  if s.twSt = 0 then s
  else
    let s := if s.twin.txChunk = 0 then s.setTwin (fun t => { t with pass := s.mirrorBytes }) else s
    let s := s.setTwin (fun t => { t with msgs := t.msgs.filter (fun x => x.1 != 1 || t.asked) })
    let (msg, arg) := match s.twin.msgs with | [] => (0, 0) | x :: _ => (x.1, x.2.1)
    let f := frameOf (s.frameBody s.twin.txSeq msg arg s.twin.txChunk)
    let s : State := { s with out := { s.out with frame := f } }
    (s.setTwin (fun t => { t with txSeq := (t.txSeq + 1) % 256, txChunk := (t.txChunk + 1) % 40 })).msgSent

/-- The partner's mirror, if one has come (R366). -/
def State.pMirror (s : State) : List Byte := s.twin.mirror.getD []

-- State changes

/-- Move to a twin state: record, counters and events (R368, R378, R379). -/
def State.twGo (s : State) (st cause : Nat) : State :=
  let prev := s.twSt
  if prev = st then s
  else
    let s := s.setTwin (fun t => { t with frozen := {} })
    let s := (((s.note F.TW_STAT_STATE 0).wr F.TW_STAT_STATE 0 st).twShow).twRec prev cause
    if st = 5 then (s.bump F.TW_EVT_JOINS 0) |> fun s => s.raise 0x0D 0x05 { cnt := s.rd F.TW_EVT_JOINS 0 }
    else if st = 8 then (s.bump F.TW_EVT_LEAVES 0) |> fun s => s.raise 0x0D 0x06 { cnt := s.rd F.TW_EVT_LEAVES 0 }
    else if st = 9 then s.raise 0x0D 0x03
    else s

/-- Every used slot of this device and of the partner is closed, and no share ramp is left: LIVE (R368, R372). -/
def State.judgeLive (s : State) : State :=
  let done := s.usedSlots.all (fun k => bitOf s.closed k && bitOf s.twin.pClosed k)
  if s.twSt = 4 ∧ done = true ∧ s.twin.ramp = 0 ∧ s.twin.closing = 0 then s.twGo 5 0x09 else s

/-- Decide TIME_REF in CHECK (R369); where the counts differ the other device steps its count. -/
def State.decideRef (s : State) : State :=
  let a := s.twin.based
  let b := s.twin.pBased
  let own := if a = b then !s.flag F.TW_STAT_ROLE 0 else a
  let s := s.wr F.TW_STAT_TIME_REF 0 (b2n own)
  if own ∨ s.twin.cntDiff = 0 then s else (s.setTb (fun t => { t with stepPend := some (s.twin.cntDiff, 2) })).alignShow

/-- Judge agreement in CHECK, once the partner's mirror has come (R368, R369). TIME_REF is decided in CHECK, whatever the outcome. -/
def State.judgeCheck (s : State) : State :=
  if s.twSt ≠ 3 ∨ s.twin.fresh = false then s
  else
    let bad := twinDiff s.cf s.pMirror 24
    let both := s.locked && mirAt s.pMirror 157 1 % 8 == 2
    let far := both && decide (s.cf F.TW_CFG_ANG_TOL 0 * 16 < (ofField 16 (s.rd F.TW_CHECK_ANG_DIFF 0)).natAbs)
    let s := (s.wr F.TW_CHECK_DISAGREE 0 (maskOf 8 bad.contains)).decideRef
    if !bad.isEmpty || far || s.twin.pRole == s.flag F.TW_STAT_ROLE 0 then
      let s := s.twGo 9 0x06
      if far then s.raise 0x0D 0x09 {} else s
    else if s.con F.TW_CFG_AUTO_JOIN 0 || s.twin.join then
      ((s.setTwin (fun t => { t with join := false, ramp := 0, closing := 0, apart := 0 })).twGo 4 0x05).judgeLive
    else s

/-- Enter CHECK (R368). -/
def State.toCheck (s : State) (cause : Nat) : State :=
  let st := s.twSt
  let based := if st = 2 ∨ st = 6 ∨ st = 8 then s.usedSlots.any (bitOf s.closed) else s.twin.based
  (((s.setTwin (fun t => { t with based, join := false, ramp := 0, closing := 0 })).twGo 3 cause)).judgeCheck

/-- SOLE with the partner present goes on to LINKING, and to CHECK where the link is up already (R368). -/
def State.toLinking (s : State) : State :=
  if s.twSt = 1 ∧ s.flag F.TW_STAT_PRESENT 0 = true then
    let s := s.twGo 2 0x01
    if s.flag F.TW_STAT_HB 0 then s.toCheck 0x03 else s
  else s

/-- EN = 1 takes effect (R368); trims frozen by a chip reset end (R377). -/
def State.twStart (s : State) (cause : Nat) : State :=
  let s := s.setTwin (fun t => { t with frozen := {} })
  if s.con F.TW_CFG_EN 0 && s.twSt == 0 then (s.twGo 1 cause).toLinking else s

/-- Open every gate (R359). -/
def State.openAll (s : State) : State :=
  (List.range 8).foldl (fun s k => s.setGate k false 0x0D) (s.setTwin (fun t => { t with closing := 0 }))

/-- Own MATE_N is broken with MATE_REQ = 1: every gate is held open (R359). -/
def State.gatesHeld (s : State) : Bool :=
  !s.con F.TW_CFG_EN 0 || (s.con F.PE_CFG_MATE_REQ 0 && !s.flag F.PE_STAT_MATE 0)

/-- Open what R359 holds open. -/
def State.mateGates (s : State) : State := if s.gatesHeld && s.closed != 0 then s.openAll else s

/-- PRESENT_DEBOUNCED (R368). -/
def presentDebounced (s : State) : State :=
  if s.on = false then s else (s.wr F.TW_STAT_PRESENT 0 1).toLinking

/-- A used slot's rail may close its gate: inside PRIMING and GOOD, and R359 does not hold the gate (R362). -/
def State.mayClose (s : State) (k : Nat) : Bool :=
  let st := s.stepOf (s.cf F.TW_SLOT_RAIL k)
  usedSlot s.cf k && !bitOf s.closed k && (st == 2 || st == 3) && !s.gatesHeld

/-- Joining ends without the partner: a slot whose match has held closes at once, without waiting for a boundary (R362, R377). -/
def State.closeReady (s : State) (m : Nat) : State :=
  (List.range 8).foldl (fun s k => if bitOf m k && s.mayClose k then s.setGate k true 0x0D else s) s

/-- Every closed slot takes the whole load: trim and droop end, its reference is at VSET at once (R374). -/
def State.carryAll (s : State) : State :=
  let rails := ((s.usedSlots.filter (bitOf s.closed)).map (fun k => s.cf F.TW_SLOT_RAIL k)).filter (fun r => s.stg r == 2)
  rails.foldl State.refAtSet (s.setTwin (fun t => { t with trim := {} }))

/-- PARTNER_REMOVAL: a PRESENT_N break held for tPRES_FILT (R374). The loss of the partner's heartbeats is an event of its own. -/
def partnerRemoval (s : State) : State :=
  if s.on = false then s
  else
    let st := s.twSt
    let ready := s.twin.closing
    let s := s.wr F.TW_STAT_PRESENT 0 0
    let s := s.setTwin (fun t => { t with
      asked := false, acked := false, boundary := none, ramp := 0, closing := 0, fresh := false })
    if st = 0 ∨ st = 1 then s
    else
      let s := (s.carryAll.wr F.TW_STAT_TIME_REF 0 1).bump F.TW_EVT_REMOVALS 0
      ((s.raise 0x0D 0x02 { cnt := s.rd F.TW_EVT_REMOVALS 0 }).twGo 1 0x02).closeReady ready

/-- TWIN_LINK_UP: 16 consecutive heartbeats (R365, R368). -/
def twinLinkUp (s : State) : State :=
  if s.on = false then s
  else
    let s := (s.wr F.TW_STAT_HB 0 1).setTwin (fun t => { t with fresh := false })
    if s.twSt = 2 ∨ s.twSt = 6 then s.toCheck 0x03 else s

/-- HEARTBEAT_LOSS (R365, R368). In LEAVING the leaver opens its gates and enters LEFT (R377). -/
def heartbeatLoss (s : State) : State :=
  if s.flag F.TW_STAT_HB 0 = false then s
  else
    let ready := s.twin.closing
    let s := (s.wr F.TW_STAT_HB 0 0).bump F.TW_LINK_LOSSES 0
    let s := s.setTwin (fun t => { t with asked := false, acked := false, boundary := none, ramp := 0, closing := 0 })
    let st := s.twSt
    if s.flag F.TW_STAT_PRESENT 0 = false then s
    else if st = 7 then s.openAll.twGo 8 0x04
    else if st = 3 ∨ st = 4 ∨ st = 5 ∨ st = 9 then
      ((s.raise 0x0D 0x01 { cnt := s.rd F.TW_LINK_LOSSES 0 }).twGo 6 0x04).closeReady ready
    else s

/-- LINK_WAIT_TIMEOUT (R368). -/
def linkWaitTimeout (s : State) : State :=
  if s.twSt = 2 ∧ s.flag F.TW_STAT_HB 0 = false then s.twGo 6 0x04 else s

/-- Put a message on the twin link, which repeats in 16 frames (R367); in OFF the link sends none (R359). One that repeats already starts
anew. -/
def State.twSend (s : State) (code arg : Nat) : State :=
  if s.twSt = 0 then s
  else
    let s := s.setTwin (fun t => { t with msgs := t.msgs.filter (fun x => x.1 != code) ++ [(code, arg, 16)] })
    { s with out := { s.out with twin := s.out.twin ++ [(code, arg)] } }

/-- A leave is refused on the requester (R373). -/
def State.leaveRefused (s : State) (reason : Nat) : State :=
  (s.setTwin (fun t => { t with asked := false })).raise 0x0D 0x04 { cause := reason }

/-- The reason for which a leave is refused from this device's view of its partner; 0 for none (R373). -/
def State.leaveReason (s : State) : Nat :=
  let m := s.pMirror
  if s.rd F.TW_PARTNER_STATE 0 ≠ 5 then 1
  else if bitOf (s.rd F.TW_PARTNER_FLAGS 0) 4 ∨ bitOf (s.rd F.TW_PARTNER_FLAGS 0) 5 ∨ s.rd F.TW_PARTNER_PSTATE 0 = 4 then 2
  else if s.usedSlots.all (fun k => bitOf (mirAt m 158 1) k) = false then 3
  else if s.twin.acked then 4 else 0

/-- Request a leave (R373). A device in SAFE is refused with STATE (R377). While LEAVE_REQ still repeats on the link (R367), a further
request adds nothing. -/
def State.askLeave (s : State) (eject : Bool) : Nat × State :=
  if s.twSt ≠ 5 ∨ s.safe = true then (errState, s.leaveRefused 0)
  else
    let why := s.leaveReason
    if why ≠ 0 then (errTwin, s.leaveRefused why)
    else if s.twin.asked then (errOk, s)
    else (errOk, (s.setTwin (fun t => { t with asked := true, byEject := eject })).twSend 0x01 0)

/-- TW_CTL (R368, R373, R381). -/
def State.askTwCtl (s : State) (rejoin join leave : Bool) : Nat × State :=
  if (rejoin && join) || (rejoin && leave) || (join && leave) then (errRange, s)
  else if leave then s.askLeave false
  else if join then
    if s.twSt = 3 then (errOk, (s.setTwin (fun t => { t with join := true })).judgeCheck) else (errState, s)
  else if rejoin then
    if (s.twSt = 8 ∨ s.twSt = 9) ∧ s.flag F.TW_STAT_HB 0 = true then (errOk, s.toCheck 0x07) else (errState, s)
  else (errOk, s)

/-- EJECT_N_LEVEL_CHANGE (R381). -/
def ejectNLevelChange (low : Bool) (s : State) : State := s.wr F.TW_STAT_EJECT 0 (b2n low)

/-- EJECT_DEBOUNCED: EJECT_N has been low for tEJECT_DEB (R373). -/
def ejectDebounced (s : State) : State := if s.flag F.TW_STAT_EJECT 0 then (s.askLeave true).2 else s

/-- LEAVE_REQ received (R373): refused from this device's own view, else accepted with a hand-over boundary. The boundary
lies at least one stroke ahead; by how much more, the spec leaves open. In OFF the link answers nothing (R359). -/
def leaveReq (s : State) : State :=
  if s.flag F.TW_STAT_HB 0 = false then s
  else
    let isA := !s.flag F.TW_STAT_ROLE 0
    let why := if s.twSt ≠ 5 then 1
      else if s.safe ∨ s.flag F.SEQ_STAT_LATCHED 0 then 2
      else if s.usedSlots.all s.carries = false then 3
      else if s.twin.asked && isA then 4 else 0
    if why ≠ 0 then s.twSend 0x03 why
    else
      let s := if s.twin.asked then s.leaveRefused 4 else s
      let b := (s.strokes + 1 + Config.handOverDelay s.free) % 2 ^ 32
      ((s.drawn).setTwin (fun t => { t with acked := true, boundary := some b })).twSend 0x02 b

/-- A leaving device with every used slot open has LEFT (R368). -/
def State.judgeLeft (s : State) : State :=
  if s.twSt = 7 ∧ s.usedSlots.all (fun j => !bitOf s.closed j) = true then s.twGo 8 (if s.twin.byEject then 0x08 else 0x07) else s

/-- LEAVE_ACK received (R373). -/
def leaveAck (count : Nat) (s : State) : State :=
  if s.twin.asked ∧ s.twSt = 5 then
    let cause := if s.twin.byEject then 0x08 else 0x07
    ((s.setTwin (fun t => { t with asked := false, boundary := some (count % 2 ^ 32) })).twGo 7 cause).judgeLeft
  else s

/-- LEAVE_NAK received (R373). -/
def leaveNak (reason : Nat) (s : State) : State := if s.twin.asked then s.leaveRefused reason else s

/-- The share ramps of the slots of a mask start (R372, R373). -/
def State.rampsStart (s : State) (m : Nat) : State :=
  s.setTwin (fun t => { t with ramp := mOr t.ramp m, rampAt := (railsOf m).foldl (fun l k => l.put k s.tb.now) t.rampAt })

/-- A command that opened gates of a leaving device, as a drain or a MATE_N break does, may have opened the last (R363, R368). -/
def leaveFollow (s0 s : State) : State := if s0.closed = s.closed then s else s.judgeLeft

/-- The stroke count has reached the boundary that LEAVE_ACK names by its bits [31:0] (R367, R373). -/
def State.atBoundary (s : State) : Bool :=
  match s.twin.boundary with
  | none => false
  | some b => decide ((s.strokes + 2 ^ 32 - b) % 2 ^ 32 < 2 ^ 31)

/-- LEAVE_BOUNDARY: the boundary named in LEAVE_ACK (R373). -/
def leaveBoundary (s : State) : State :=
  if !s.atBoundary then s
  else
    let s := s.setTwin (fun t => { t with boundary := none })
    if s.twSt = 7 then
      let m := maskOf 8 (fun k => usedSlot s.cf k && bitOf s.closed k)
      ((s.wr F.TW_STAT_TIME_REF 0 0).rampsStart m).judgeLeft
    else if s.twin.acked then s.wr F.TW_STAT_TIME_REF 0 1
    else s

/-- SHARE_RAMP_END: a joining slot's share has reached SHARE; or a leaving slot's ramp is over and its current has fallen
below I_TW_OPEN, so that its gate opens (R372, R373). -/
def shareRampEnd (k : Nat) (s : State) : State :=
  if bitOf s.twin.ramp k = false then s
  else
    let s := s.setTwin (fun t => { t with ramp := clrBit t.ramp k })
    if s.twSt = 7 then (s.setGate k false 0x0D).judgeLeft else s.judgeLive

/-- GATE_MATCH: the rail is GOOD behind its open gate and the match has held for tTW_MATCH (R362). -/
def gateMatch (k : Nat) (s : State) : State :=
  if s.mayClose k && s.stepOf (s.cf F.TW_SLOT_RAIL k) == 3 then
    let st := s.twSt
    if st = 4 then s.setTwin (fun t => { t with closing := setBit t.closing k })
    else if st = 1 ∨ st = 2 ∨ st = 6 then s.setGate k true 0x0D else s
  else s

/-- The gates that a match has readied close at a stroke boundary, and their share ramps start (R362, R372). -/
def State.twBoundary (s : State) : State :=
  let m := s.twin.closing
  if m = 0 then s
  else
    let s := s.setTwin (fun t => { t with closing := 0 })
    if s.twSt ≠ 4 then s
    else (List.range 8).foldl (fun s k =>
      if bitOf m k && s.mayClose k then (s.setGate k true 0x0D).rampsStart (2 ^ k) else s) s

/-- A rail's priming step starts on a dead bus (R362); in JOINING the share of its slot ramps from the close on (R372). -/
def State.deadBus (s : State) (r : Nat) (dead : Bool) : State :=
  match s.usedSlots.find? (fun k => s.cf F.TW_SLOT_RAIL k == r) with
  | some k =>
    let st := s.twSt
    if dead && s.mayClose k && s.stepOf r == 2 && st != 9 && st != 7 && st != 8 then
      (let s := s.setGate k true 0x0D
       if st = 4 then s.rampsStart (2 ^ k) else s)
    else s
  | none => s

/-- TWIN_GATE_REVERSE (R363). -/
def twinGateReverse (k : Nat) (ma : Int) (s : State) : State :=
  if usedSlot s.cf k && bitOf s.closed k then
    let s := (s.setGate k false 0x0C).bump F.TW_EVT_REV_OPEN 0
    let s := if s.twSt = 7 then s.judgeLeft else s
    s.raise 0x0D 0x07 { unit := k, val := ma, cnt := s.rd F.TW_EVT_REV_OPEN 0 }
  else s

-- Frames and mirrors

/-- The partner's stroke time less this device's at the last frame (R365, R366): its bits [39:0] come with the frame, those above from the
stroke time of its mirror, where one has come since the link came up, else they are taken as this device's. -/
def State.timeApart (s : State) : Int :=
  match s.twin.pTime with
  | none => 0
  | some (t40, own) =>
    let base := if s.twin.fresh then mirAt s.pMirror 8 8 else own
    base + ofField 40 ((t40 + 2 ^ 40 - base % 2 ^ 40) % 2 ^ 40) - own

/-- The stroke count difference and the angle difference to the partner (R369, R379, R381). -/
def State.apartShow (s : State) : State :=
  let d := s.timeApart
  let k := (d + 0x8000) / 0x10000
  (s.wr F.TW_CHECK_ANG_DIFF 0 (s16 (d - k * 0x10000))).setTwin (fun t => { t with cntDiff := k })

/-- What a frame's stroke time shows of the partner's (R365, R369). -/
def State.frameTime (s : State) (t40 : Nat) : State :=
  (s.setTwin (fun t => { t with pTime := some (t40, s.tb.now) })).apartShow

/-- A whole frame, symbols 1 to 35, takes effect (R365). -/
def State.takeFrame (s : State) (f : List Byte) : State :=
  let st := mirAt f 1 1 / 16
  let cl := mirAt f 2 1
  let ci := mirAt f 29 1
  let based := if st = 1 ∨ st = 2 ∨ st = 6 ∨ st = 8 then cl != 0 else s.twin.pBased
  let chunks := if ci < 40 then s.twin.chunks.put ci ((f.drop 30).take 5) else s.twin.chunks
  let s := s.setTwin (fun t => { t with pRole := bitOf (mirAt f 1 1) 3, pClosed := cl, pBased := based, chunks })
  let s := (s.wr F.TW_PARTNER_STATE 0 st).wr F.TW_STAT_PARTNER_LEFT 0 (b2n (st == 8))
  let s := (List.range 8).foldl (fun s k => s.wr F.TW_I_PARTNER k (mirAt f (3 + 2 * k) 2)) s
  let s := s.frameTime (mirAt f 19 5)
  if s.twSt = 5 ∧ st = 8 then
    ((s.wr F.TW_STAT_TIME_REF 0 1).setTwin (fun t => { t with acked := false })).twGo 1 0x09
  else s.judgeLive

/-- TWIN_FRAME: the 39 symbols after the comma of a received frame; `codeErr`: a code or disparity error (R365). -/
def twinFrame (f : List Byte) (codeErr : Bool) (s : State) : State :=
  if s.on = false then s
  else if codeErr then s.bump F.TW_LINK_CODE_ERR 0
  else if f.length ≠ 39 ∨ mirAt f 35 4 ≠ crc32c (f.take 35) then
    (s.bump F.TW_LINK_CRC_ERR 0).setTwin (fun t => { t with crcSince := t.crcSince + 1 })
  else s.takeFrame (f.take 35)

/-- The lend messages that a receiving device sends (R375): SOC counts 0.5 %, LEND_SOC counts 1 %. A SOC that is not known (0xFF, R356)
is neither below the level nor at it. -/
def State.askPartnerLend (s : State) : State :=
  let lends := bitOf (s.rd F.TW_PARTNER_FLAGS 0) 1
  let soc := s.rd F.EST_STAT_SOC 0
  let lvl := 2 * s.cf F.TW_CFG_LEND_SOC 0
  if soc = 0xFF then s
  else if s.power.st = .hold ∧ soc < lvl ∧ lends = false then s.twSend 0x04 0
  else if lends ∧ lvl ≤ soc then s.twSend 0x05 0 else s

/-- The slots that disagree with the partner's active set, as a mirror begun since this device's last swap shows it (R366, R377). -/
def State.judgeApart (s : State) : State :=
  if (s.twSt = 4 ∨ s.twSt = 5 ∨ s.twSt = 7) ∧ s.rd F.SWAP_TIME_TIME 0 ≤ mirAt s.pMirror 8 8 then
    (s.setTwin (fun t => { t with apart := maskOf 8 (twinDiff s.cf s.pMirror 24).contains })).twShow
  else s

/-- MIRROR_PASS: the chunks of a pass are complete; a pass whose CRC fails is discarded (R366). A new commit sequence of the
partner is a swap there, which brings CONFLICT and LEFT back to CHECK (R368). -/
def mirrorPass (s : State) : State :=
  let m := (List.range 40).flatMap (fun i => s.twin.chunks.at i)
  let s := s.setTwin (fun t => { t with chunks := {} })
  if s.on = false ∨ s.flag F.TW_STAT_HB 0 = false ∨ m.length ≠ 200 ∨ mirAt m 196 4 ≠ crc32c (m.take 196) then s
  else
    let swapped := s.twin.mirror.isSome && mirAt s.pMirror 4 2 != mirAt m 4 2
    let s := (s.setTwin (fun t => { t with mirror := some m, fresh := true, mirrorAt := s.now })).apartShow
    let s := s.wr F.TW_PARTNER_CRC_CRC 0 (mirAt m 0 4) |>.wr F.TW_PARTNER_PSTATE 0 (mirAt m 7 1)
      |>.wr F.TW_PARTNER_SOC 0 (mirAt m 155 1) |>.wr F.TW_PARTNER_FLAGS 0 (mirAt m 156 1)
    let s := s.askPartnerLend.judgeApart
    if swapped ∧ (s.twSt = 8 ∨ s.twSt = 9) then s.toCheck 0x0A else s.judgeCheck

/-- A coordinated commit has failed on this device (R376, R377). -/
def State.coordFailed (s : State) : State := s.raise 0x0D 0x0A

/-- The trims, in µV, of the twinned rails that stay on through a chip reset (R377). -/
def State.trimsKept (s : State) (up : List Nat) : Tab Int :=
  (s.usedSlots.filter (fun k => bitOf s.closed k && up.contains (s.cf F.TW_SLOT_RAIL k))).foldl
    (fun l k => l.put (s.cf F.TW_SLOT_RAIL k) ((s.twin.trim.at k).tdiv 100000)) {}

-- Lend

/-- LEND_REQ received (R375). -/
def lendReq (s : State) : State := if s.flag F.TW_STAT_HB 0 then (s.askLendStart).2 else s

/-- LEND_STOP received (R375). -/
def twinLendStop (s : State) : State := if s.flag F.TW_STAT_HB 0 then (s.askLendStop true).2 else s

/-- AUTO_LEND_WAIT_END: PRESENT_N low for tLEND_WAIT with no link up (R375). -/
def autoLendWaitEnd (s : State) : State :=
  if s.con F.TW_CFG_AUTO_LEND 0 && s.con F.TW_CFG_EN 0 && s.flag F.TW_STAT_PRESENT 0 && !s.flag F.TW_STAT_HB 0 then
    (s.askLendStart).2
  else s

/-- A swap has put `s` in the place of `s0` (R359, R368, R377). -/
def State.twApply (s0 s : State) : State :=
  if !s.con F.TW_CFG_EN 0 then
    if s.twSt = 0 then s
    else
      let s := s.openAll
      ((s.wr F.TW_STAT_TIME_REF 0 0).setTwin (fun t => { t with asked := false, acked := false, boundary := none, ramp := 0, msgs := [], txChunk := 0 })).twGo 0 0x0A
  else
    let st := s.twSt
    -- in JOINING closed slots stay closed (R377)
    let gone := (List.range 8).filter (fun k => st != 4 && bitOf s.closed k && (entryOf s0.cf k).rail != (entryOf s.cf k).rail)
    let s := gone.foldl (fun s k => s.setGate k false 0x0D) s
    let diff := (List.range 8).any (fun k => entryOf s0.cf k != entryOf s.cf k)
    if st = 0 then s.twStart 0x0A
    else if st = 4 ∧ diff = true then s.toCheck 0x0A
    else if (st = 8 ∨ st = 9) ∧ s.flag F.TW_STAT_HB 0 = true then s.toCheck 0x0A
    else s.mateGates

/-- A rail's telemetry current enters TW_I, in 10 mA, rounded toward zero (R365, R381; DESIGN CHOICE, log 34). A pair's is the sum
of both channels, as its rail reports it (R189). -/
def State.twCurrent (s : State) (r : Nat) (iAvg : Int) : State :=
  if s.follower r then s
  else match s.usedSlots.find? (fun k => s.cf F.TW_SLOT_RAIL k == r) with
    | none => s
    | some k => s.wr F.TW_I_OWN k (s16 (iAvg.tdiv 10))

end Sys2Proof.Machine
end

