-- ==== Sys2Proof/Machine/Regulate.lean ====
section
/-! DEFINITION. What the loops do in time (R168 to R178, R203 to R205, R210, R213, R215, R222, R370, R371): each microsecond the references
move, the twin trims integrate, and every period that starts computes its command and what its status shows. -/

namespace Sys2Proof.Machine

open Sys2Proof

-- The twin's share of a reference

/-- A slot regulates in droop (R371, R377). -/
def State.inDroop (s : State) (k : Nat) : Bool := bitOf (s.rd F.TW_STAT_DROOP 0) k

/-- The slot of a twinned rail whose gate is closed. -/
def State.closedSlot (s : State) (r : Nat) : Option Nat :=
  s.usedSlots.find? (fun k => s.cf F.TW_SLOT_RAIL k == r && bitOf s.closed k)

/-- A slot's share f in parts of `RAMP · 65,536 · 100` (R370, R372, R373): SHARE, scaled by the point of its ramp. -/
def State.shareNow (s : State) (k : Nat) : Nat × Nat :=
  let total := s.cf F.TW_CFG_RAMP 0 * 0x10000
  let gone := min total (s.tb.now - s.twin.rampAt.at k)
  let part := if !bitOf s.twin.ramp k then total else if s.twSt = 7 then total - gone else gone
  (s.cf F.TW_SLOT_SHARE k * part, total * 100)

/-- The trim of a slot may act: in JOINING, LIVE and LEAVING, on the device that is not TIME_REF, with the slot closed on both sides
(R370). -/
def State.trims (s : State) (k : Nat) : Bool :=
  (s.twSt == 4 || s.twSt == 5 || s.twSt == 7) && !s.flag F.TW_STAT_TIME_REF 0 && bitOf s.closed k && bitOf s.twin.pClosed k
    && !s.inDroop k

/-- tSHARE, the time constant of the share integrator, in µs (R380). -/
def tShareUs : Nat := 1000

/-- One microsecond of a slot's share integrator (R370): the trim moves with the difference between f × (own + partner current) and
the own current, within V_TRIM (1 % of VSET). Elsewhere there is none. -/
def State.trimSlot (s : State) (k : Nat) : State :=
  let new : Int :=
    if s.trims k then
      let own := ofField 16 (s.rd F.TW_I_OWN k)
      let (num, den) := s.shareNow k
      let err := ((own + ofField 16 (s.rd F.TW_I_PARTNER k)) * num).tdiv den - own
      let lim : Int := s.setUv (s.cf F.TW_SLOT_RAIL k) * 1000
      max (-lim) (min lim (s.twin.trim.at k + err * Config.shareGain k * 100000 / tShareUs))
    else 0
  s.setTwin (fun t => { t with trim := t.trim.put k new })

/-- What a closed slot adds to its rail's reference, in µV: its droop (R371) or its trim (R370); in a chip reset the trim that was frozen
(R377). -/
def State.twinOffset (s : State) (r : Nat) : Int :=
  if s.twSt = 0 then s.twin.frozen.at r
  else match s.closedSlot r with
    | none => 0
    | some k =>
      if s.inDroop k then -((s.cf F.TW_SLOT_DROOP k : Int) * ofField 16 (s.rd F.TW_I_OWN k)) else (s.twin.trim.at k).tdiv 100000

-- References

/-- Where a rail's reference goes: to 0 V in DRAINING, else to the setpoint with what a twin adds (R178, R181, R370). -/
def State.refGoal (s : State) (r : Nat) : Int := if s.stgThrough r = 5 then 0 else s.setUv r + s.twinOffset r

/-- The slew of a rail's reference in µV per µs (R176, R178, R181, R203, R213): of its priming step, its drain step, SR_DVS, SR_HDR. -/
def State.refRate (s : State) (r : Nat) : Nat :=
  if s.stgThrough r = 5 then s.cf F.SQ_DRAIN_SR_D r * 10
  else if s.stgThrough r = 1 then (s.stages.at r).stepSr * 10
  else if r = 0 then 1000
  else if r ≤ 12 then s.cf F.B_LOOP_DVS_SR (r - 1) * 100
  else Config.slewRate r

/-- `x` moved toward `goal` by at most `d`. -/
def toward (x goal : Int) (d : Nat) : Int := if x ≤ goal then min goal (x + d) else max goal (x - d)

/-- The point of a hand-back ramp, linear from where it started to its goal in tHB_RAMP (R322). -/
def State.handbackRef (s : State) (x : Loop) (goal : Int) : Int :=
  let total := s.cf F.WELL_HO_HB_RAMP 0 * 1000
  x.rampFrom + ((goal - x.rampFrom) * (min total (s.now - x.rampAt) : Nat)).tdiv total

/-- The reference of a rail a microsecond later (R176, R178, R181, R322). -/
def State.refNext (s : State) (r : Nat) (x : Loop) : Int :=
  if r = 0 ∧ s.rd F.WELL_STAT_HO 0 = 5 then s.handbackRef x (s.refGoal 0) else toward x.ref (s.refGoal r) (s.refRate r)

/-- One microsecond of a rail's reference. A pre-discharge ends below V_PB_ZERO; diode emulation ends once the reference exceeds the
output (R176, R204). -/
def State.refMicro (s : State) (r : Nat) : State :=
  if s.follower r || !s.regulating r then s
  else
    let x := (s.stages.at r).loop
    let ref := if x.pre then x.ref else s.refNext r x
    s.setSt r (fun y => { y with loop := { x with
      ref, pre := x.pre && decide (pbZero ≤ s.volts r)
      diode := x.diode && decide (ref ≤ (s.volts r * 1000 : Nat)) } })

-- Periods

/-- The pump is overloaded where its upper clamp acts (R205): the well converter discharges into VHDR, which lies below V_WELL_REG
(R315). -/
def State.wellCarries (s : State) : Bool := s.overloadable && decide (s.volts 0 < s.well.floorMv)

/-- The mode of a four-switch stage (R210), the reference in µV and the input in mV: BUCK at or below 0.80 of the input, BOOST at or above
1.20. -/
def legMode (ref : Int) (v : Nat) : Nat := if ref ≤ 800 * v then 0 else if 1200 * v ≤ ref then 2 else 1

/-- X_STAT.MODE (R210, R222), from VHDR. -/
def State.modeShow (s : State) (r : Nat) : State :=
  s.wr F.X_STAT_MODE (r - 13) (legMode (s.stages.at r).loop.ref (s.volts 0))

/-- What a period shows: whether its upper clamp acted, on each channel of a pair; the pump's overload; an X channel's mode (R169, R205,
R210). -/
def State.periodShow (s : State) (r : Nat) (want : Int) : State :=
  let s := s.wr (limitFld r).1 (limitFld r).2 (b2n (decide (s.cmdMax r < want) && (!isB r || s.conducts (r - 1))))
  if r = 0 then
    let clamped := decide (s.cmdMax 0 < want) && s.wellCarries
    let s := s.wr F.HDR_STAT_OVERLOAD 0 (b2n clamped)
    if clamped then s else { s with overload := 0 }
  else if 13 ≤ r then s.modeShow r
  else if s.paired (r - 1) then s.wr F.B_STAT_IN_LIMIT r (b2n (decide (s.cmdMax (r + 1) < want) && s.conducts r))
  else s

/-- A switching period that starts at `t` (R168, R169): the command of the error and of the history, clamped; the clamped value is
kept. The rail of a pair whose leader is LOST, or in a flush, is limited by its other channel (R155, R174). -/
def State.period (s : State) (r t : Nat) : State :=
  let x := (s.stages.at r).loop
  let e := s.loopError r t
  let want := toLsb (loopSum (s.coefs r) x e)
  let hi := s.cmdMax (if isB r && !s.conducts (r - 1) then r + 1 else r)
  let u := max (-(s.negLimit r : Int)) (min hi want)
  let s := s.setSt r (fun y => { y with loop := { x with u1 := u, u2 := x.u1, e1 := e, e2 := x.e1, next := s.periodAfter r t } })
  s.periodShow r want

/-- The periods of a rail that start by the end of the present microsecond, at most `n`. -/
def State.periods (r : Nat) : Nat → State → State
  | 0, s => s
  | n + 1, s =>
    let t := (s.stages.at r).loop.next
    if s.now * 6400 < t then s else State.periods r n (s.period r t)

/-- A rail with a loop of its own that switches: the pump, a B channel that is no follower, an X channel. -/
def State.looped (s : State) (r : Nat) : Bool := decide (r ≤ 14) && !s.follower r && s.regulating r

/-- One microsecond of a rail's loop: at 2.4 MHz at most three periods start in it. A frame that has not begun yet, begins (R171). -/
def State.loopMicro (s : State) (r : Nat) : State :=
  if !s.looped r then s
  else
    let late := decide ((s.stages.at r).loop.next ≤ (s.now - 1) * 6400)
    let s := if late then
        s.setSt r (fun x => { x with loop := { x.loop with next := s.periodAfter r ((s.now - 1) * 6400) } })
      else s
    State.periods r 4 s

/-- The current limit of an LDO or a switch acts (R213, R215): the current it senses stands at ILIM, in soft start at the priming
step's limit where that is lower. -/
def State.linearMicro (s : State) (r : Nat) : State :=
  if !switching (s.stg r) then s
  else
    let ilim := if r ≤ 20 then s.cf F.L_ILIM_ILIM (r - 15) else s.cf F.S_CFG_ILIM (r - 21)
    let lim := if s.stg r = 1 then min ilim ((s.stages.at r).stepLim * 10) else ilim
    s.wr (limitFld r).1 (limitFld r).2 (b2n (decide ((lim : Int) ≤ Config.railMilliAmps r s.now)))

/-- The header phases whose share has reached u / n_live (R208). -/
def State.joinsEnd (s : State) : State :=
  { s with phJoin := ⟨s.phJoin.cells.filter (fun c => decide (s.now < c.2 + 999))⟩ }

-- The well converter

/-- The limit of the charge current in mA: of the phase, scaled by the zone and by foldback (R325 to R327). -/
def State.chargeLimit (s : State) : Nat :=
  let base := if s.chg = 2 then s.cf F.WELL_CHG_I_I_PRE 0 * 10
    else if 3 ≤ s.chg ∧ s.chg ≤ 5 then s.cf F.WELL_CHG_I_I_CC 0 * 50 else 0
  let zoned := if s.rd F.WELL_CSTAT_ZONE 0 = 1 then base * s.cf F.WELL_ADJ_COOL_PCT 0 / 100 else base
  let above := s.well.dieTemp - s.cf F.WELL_ADJ_T_FOLD 0 * 8
  if above ≤ 0 then zoned else zoned * (160 - above.toNat) / 160

/-- The charger's command in mA (R315, R325): the current of PRECHARGE and CC; in CV and TOPOFF what holds the charge voltage; else 0. -/
def State.chargeCommand (s : State) : Nat :=
  if s.chg = 4 ∨ s.chg = 5 then min s.chargeLimit (Config.chargeNeed s.chargeMv s.now) else s.chargeLimit

/-- The floor command in mA (R315): none where it is unbounded above; linear in the band of V_FLOOR_BAND, 0.20 V; a discharge below the
floor. -/
def State.floorCommand (s : State) : Option Int :=
  let v := s.volts 0
  let f := s.well.floorMv
  if f + 200 ≤ v then none
  else if f ≤ v then some (Config.floorSlope * (v - f) : Nat)
  else some (-(min (s.cf F.WELL_CFG_I_DCHG 0 * 100) (Config.floorDraw s.now) : Nat))

/-- The pack floor in mV (R316). -/
def State.packFloorMv (s : State) : Nat :=
  (s.cf F.WELL_PACK_V_CUT 0 - (if s.power.st = .hold ∨ s.power.st = .safe then 150 else 0)) * s.cf F.WELL_PACK_CELLS 0

/-- The pack-side current that the armed converter asks for, before the pack floor (R315): the lower of the two commands. -/
def State.wellWant (s : State) : Int :=
  if !s.wellSources then 0
  else match s.floorCommand with
    | none => s.chargeCommand
    | some f => min s.chargeCommand f

/-- The pack floor limits the command (R316). -/
def State.atPackFloor (s : State) : Bool := decide (s.wellWant < -(Config.packAllows s.packFloorMv s.now : Int))

/-- The well converter's command in mA, pack side, positive when charging (R315, R316); at 0 it runs in burst mode. -/
def State.wellCommand (s : State) : Int := max s.wellWant (-(Config.packAllows s.packFloorMv s.now : Int))

/-- WELL_BAT in mV as the device measures it. -/
def State.packMv (s : State) : Nat := Config.measured (F.WELL_MEAS_V_PACK.key 0) s.now % 0x10000

/-- The well converter's mode (R210, R315): the pack leg is its input when it discharges toward the floor, and its output, at the voltage
that the charger holds, when it does not. -/
def State.wellMode (s : State) : Nat :=
  if s.wellCommand < 0 then legMode (s.well.floorMv * 1000 : Nat) s.packMv else legMode (s.packMv * 1000 : Nat) (s.volts 0)

/-- One microsecond of the converter: V_WELL_REG moves in HOLD (R332), the mode, DIR and FLOOR follow the command (R315, R316, R335; taken each
microsecond, DESIGN CHOICE, log 7). -/
def State.wellMicro (s : State) : State :=
  let goal := s.cf F.WELL_CFG_VREG 0 * 10
  let s := if s.power.st = .hold ∧ s.well.floorMv ≠ goal then
      s.setWell (fun w => { w with floorMv := if w.floorMv < goal then w.floorMv + 1 else w.floorMv - 1 })
    else s
  let u := s.wellCommand
  let s := s.setWell (fun w => { w with mode := s.wellMode })
  (s.wr F.WELL_STAT_DIR 0 (if 0 < u then 1 else if u < 0 then 2 else 0)).wr F.WELL_STAT_FLOOR 0 (b2n s.atPackFloor)

/-- One microsecond of every rail's regulation. -/
def State.regulate (s : State) : State :=
  let s := (List.range 8).foldl State.trimSlot s
  let s := (List.range 24).foldl State.refMicro s
  let s := (List.range 15).foldl State.loopMicro s
  ((List.range 9).foldl (fun s i => s.linearMicro (15 + i)) s).joinsEnd.wellMicro

end Sys2Proof.Machine
end

