-- ==== Sys2Proof/Machine/Safe.lean ====
section
/-! DEFINITION. The safe state (R292 to R296), the reactions of classes SHED and higher (R282, R283), and the events of the
redundant units: references, oscillators, the DATA and LINK islands (R34, R298, R299). -/

namespace Sys2Proof.Machine

open Sys2Proof

-- The commit engine's end

/-- The commit state (R83): 0 IDLE, 1 VALIDATING, 2 PENDING, 3 DONE, 4 FAILED, 5 ABORTED. -/
def State.commitSt (s : State) : Nat := s.rd F.COMMIT_STAT_STATE 0

/-- A commit ends in FAILED or ABORTED; the bank and its owner are kept, and the idle count starts anew (R69, R74). -/
def State.commitEnd (s : State) (st err check addr : Nat) : State :=
  let s := (s.note F.COMMIT_STAT_STATE 0).wr F.COMMIT_STAT_STATE 0 st |>.wr F.COMMIT_STAT_ERR 0 err |>.wr F.COMMIT_STAT_CHECK 0 check
    |>.wr F.COMMIT_STAT_ERR_ADDR 0 addr
  { s with commit := { s.commit with ownAt := s.now, heldBack := false } }

/-- A commit is under way: validating, pending, or swapped and not yet DONE (R70). -/
def State.committing (s : State) : Bool := s.commitSt == 1 || s.commitSt == 2

/-- The last failed commit failed in none of the blocks that keep an error register of their own (R114, R276, R408). -/
def State.noBlockFailed (s : State) : State := ((s.wr F.SCH_ERR_VALID 0 0).wr F.WM_ERR_VALID 0 0).wr F.HR_ERR_VALID 0 0

/-- A commit that has not swapped fails (R74). -/
def State.failCommit (s : State) (err check addr : Nat) : State :=
  if s.committing && !s.commit.copying then s.noBlockFailed.commitEnd 4 err check addr else s

-- Entry to SAFE

/-- The SIG outputs in SAFE (R293). -/
def State.safeSig (s : State) : State :=
  let h := s.cf F.SAFE_SIG_HOLD 0
  { s with sched := { s.sched with sig := mOr (mAnd s.sched.sig h) (mDiff (s.cf F.SAFE_SIG_LEVEL 0) h) } }

/-- The map's code 0b00 for a rail: off with active discharge (R293). -/
def State.safeDischarge (s : State) (r : Nat) : Bool :=
  (if r < 16 then bitsOf (s.cf F.SAFE_MAP0_MAP 0) (2 * r + 1) (2 * r)
    else bitsOf (s.cf F.SAFE_MAP1_MAP 0) (2 * (r - 16) + 1) (2 * (r - 16))) == 0

/-- A safe-state map that holds rail 0 off holds the well's floor command at 0 (R315). -/
def State.safeFloor (s : State) : State :=
  if s.heldOn 0 then s else s.setWell (fun w => { w with floorOff := true })

/-- One rail at the entry to SAFE (R244, R293, R295); a follower goes with its leader, OFF with it (R175). -/
def State.safeRail (s : State) (r : Nat) : State :=
  let st := s.stepOf r
  if st = 0xB then
    if s.heldOn (r - 1) then s
    else
      let s := s.stageOff r (s.safeDischarge (r - 1))
      if s.stgLost r then s else s.setStg r 0
  else if s.heldOn r then (if st = 1 ∨ st = 4 then s.setStep r 0 else s)
  else
    let s := s.stageOff r (s.safeDischarge r)
    let s := { s with seq := { s.seq with
      joinAfterRamp := clrBit s.seq.joinAfterRamp r, finishRamp := clrBit s.seq.finishRamp r } }
    if st = 5 ∨ st = 6 ∨ st = 0xA then s
    else s.setStep r (if drainingStep st && s.flag F.SQ_RSTAT_RUN_FAULT r then 0xA else 0)

/-- Every rail at the entry to SAFE: a priming operation stops, a drain goes on with the rails held on (R244). -/
def State.safeRails (s : State) : State :=
  let s := s.stopPriming 0
  let s := { s with seq := { s.seq with shedPend := false } }
  ((List.range 24).foldl State.safeRail s).settle

/-- What the first trigger leaves in SAFE_CAUSE and SAFE_TIME (R294, R309). -/
def State.safeCause (s : State) (b e : Nat) : State :=
  s.wr F.SAFE_CAUSE_VALID 0 1 |>.wr F.SAFE_CAUSE_BLOCK 0 b |>.wr F.SAFE_CAUSE_EVENT 0 e |>.wr F.SAFE_TIME_TIME 0 s.tb.now
    |>.wr F.PSTATE_PREV_STATE 0 s.power.st.code

/-- The power state becomes SAFE; what waited for the end of a drain no longer does. -/
def State.safeState (s : State) : State :=
  { s with power := { s.power with st := .safe, afterCutoff := none, resetAfterDrain := none } }

/-- The link may train once both its islands are powered (R382, R424). -/
def State.linkTrain (s : State) : State := if s.on && s.linkPowered then s.wr F.HR_STAT_LINK 0 1 else s

/-- The control plane is powered again without a chip reset, from DORMANT to SAFE (R41): the entry logic takes the active bank again
(R116, R118), streams start under R414 (R424), the link trains. -/
def State.planeUp (s : State) : State := ((s.setPower (fun p => { p with off := false })).entryApply).measStart.linkTrain

/-- The state becomes SAFE; from DORMANT the control plane is powered again (R41). -/
def State.intoSafe (s : State) (b e : Nat) : State :=
  let t := (s.safeCause b e).safeState
  if s.power.off then t.planeUp else t

/-- Entry to SAFE on an event of a block (R292 to R295), from RUN, HOLD or DORMANT (R41). -/
def State.enterSafe (s : State) (b e : Nat) : State :=
  if s.safe || (s.power.off && s.power.st != .dormant) then s
  else
    let s := s.intoSafe b e
    let s := s.safeSig.ctxAbortAll.safeRails
    let s := (s.failCommit errState 0 0).endSession 0x03
    let s := ((s.abandonDraw.pfw F.PFW_STAT_SUPPLY false).stopLend 5).safeFloor.wellSettle
    (s.raise 0x00 0x07).hoShow

-- Reactions

/-- The scope that the SHED and DRAIN reactions of one command ask for (R282, R283). -/
def State.dueScope (s : State) (l : List Reaction) : Nat :=
  l.foldl (fun m x =>
    if x.cls = 3 then mOr m s.nonStandpipes
    else if x.cls = 2 then mOr m (s.withDependants (s.groupMask x.group)) else m) 0

/-- Carry out the reactions asked for so far: SAFE before any drain (R43, R282). -/
def State.reactOnce (s : State) : State :=
  let l := s.due
  let s := { s with due := [] }
  match l.find? (fun x => decide (4 ≤ x.cls)) with
  | some x => s.enterSafe x.block x.event
  | none => if l.isEmpty then s else s.classDrain (s.dueScope l)

/-- Reactions may raise events that ask for further ones; `n` rounds of them. -/
def State.reactFor : Nat → State → State
  | 0, s => s
  | n + 1, s => if s.due.isEmpty then s else State.reactFor n s.reactOnce

/-- Carry out every reaction of a command. After SAFE nothing more follows, so eight rounds do. -/
def State.react (s : State) : State := s.reactFor 8

/-- A standing fault that has newly come up, or stands as the control plane comes up, sets its block's PEND by itself, with the interrupt
where PEND read 0 before (R288, R289; DEDUCED, log 18). So PEND is set while a fault stands, and the first read after it ends clears it. -/
def standUp (s0 s : State) : State :=
  (List.range 23).foldl (fun s b =>
    if s.standing b && !(s0.on && s0.standing b) && !s.flag F.FB_STAT_PEND b then
      (if s0.on && s0.pend b then s.wr F.FB_STAT_PEND b 1 else (s.wr F.FB_STAT_PEND b 1).interrupt b)
    else s) s

-- Severity and history

/-- FH_CTL.SEV_CLR for a block (R285). -/
def State.clearSevere (s : State) (b : Nat) : State :=
  { s with faults := { s.faults with srcs := s.faults.srcs.keep (fun k => decide (k / 256 ≠ b)) } }

/-- FH_CTL.HIST_CLR for a block (R287). -/
def State.clearHistory (s : State) (b : Nat) : State :=
  ({ s with faults := { s.faults with hist := s.faults.hist.put b [] } } : State).wr F.FH_INFO_ENTRIES b 0

/-- FH_CTL, written by master `m` (R309): both bits may be set. -/
def State.askHistory (s : State) (m : Nat) (sev hist : Bool) : Nat × State :=
  let b := s.rd F.FH_SEL_BLOCK m
  let s := if sev then s.clearSevere b else s
  (errOk, if hist then s.clearHistory b else s)

-- References, oscillators, islands

/-- REFERENCE_DEVIATION (R298): a reference is excluded; with two left a disagreement is the loss of REF, and the answer says
that a brown-out reset follows. -/
def State.refLost (s : State) (i : Nat) : Bool × State :=
  let ok := s.rd F.UNIT_STAT_REF_OK 0
  if !bitOf ok i then (false, s)
  else if ok ≠ 7 then (true, s)
  else (false, s.losing (fun s => (s.wr F.UNIT_STAT_REF_OK 0 (clrBit ok i)).raise 0x00 0x01 { unit := i, val := s.crossed 0x00 0x01 i }))

/-- OSCILLATOR_LOSS (R91, R299): the answer says that no oscillator is left. -/
def State.oscLost (s : State) (primary : Bool) : Bool × State :=
  let f := if primary then F.UNIT_STAT_OSC_PRI_OK else F.UNIT_STAT_OSC_SEC_OK
  let other := if primary then F.UNIT_STAT_OSC_SEC_OK else F.UNIT_STAT_OSC_PRI_OK
  if !s.flag f 0 then (false, s)
  else if !s.flag other 0 then (true, s)
  else
    let s := s.losing (fun s => (s.wr f 0 0).raise 0x00 (if primary then 0x02 else 0x03))
    if primary then
      let s := ({ s with power := { s.power with onSecondary := true } }).wr F.TB_STAT_REF_SEC 0 1
      (false, if s.lock = 3 then s.lockGo 4 0x04 else s)
    else (false, s)

/-- The UNIT_STAT.ISLAND_OK bit of an island. -/
def islandBit : Island → Nat
  | .data => 7 | .link => 8 | .drv => 6 | .mgmt => 5 | .wake => 0

/-- What stops with an island (R34, R135): records and the host link with DATA, which holds the DMA engine, the host link with
LINK, the gates with DRV. CORE 0x04 reports DATA and LINK (R279); its record is formed while the DATA island still answers. The
others take their bit alone (DEDUCED, log 25). -/
def State.islandStop (s : State) (i : Island) : State :=
  match i with
  | .data => s.measLost.loseLink.raise 0x00 0x04 { unit := islandBit i }
  | .link => s.loseLink.raise 0x00 0x04 { unit := islandBit i }
  | _ => s

/-- ISLAND_POWER_LOSS (R34): an island's power-good detector finds it without power; the control plane goes on. -/
def islandPowerLoss (i : Island) (s : State) : State :=
  let ok := s.rd F.UNIT_STAT_ISLAND_OK 0
  if !bitOf ok (islandBit i) || s.power.off then s
  else
    let t := (s.islandStop i).wr F.UNIT_STAT_ISLAND_OK 0 (clrBit ok (islandBit i))
    if i = .data then t.measShow else t

/-- Form the record of the newest DORMANT sample, kept until the device is in RUN or HOLD with its DATA island (R349); it carries the
lock code FREE (R96). -/
def State.keptRecord (s : State) : State :=
  match s.est.kept with
  | some (pay, t) =>
    if s.on && !s.safe && bitOf (s.rd F.UNIT_STAT_ISLAND_OK 0) 7 then
      let lock := s.rd F.TB_STAT_LOCK 0
      ((({ s with est := { s.est with kept := none } } : State).wr F.TB_STAT_LOCK 0 0).emitAt t 0x0C 0x0A pay).wr F.TB_STAT_LOCK 0 lock
    else s
  | none => s

/-- ISLAND_POWER_RETURN (R424): the streams of a DATA island settle anew and the kept record is formed. -/
def islandPowerReturn (i : Island) (s : State) : State :=
  let ok := s.rd F.UNIT_STAT_ISLAND_OK 0
  if bitOf ok (islandBit i) || s.power.off then s
  else
    let s := s.wr F.UNIT_STAT_ISLAND_OK 0 (setBit ok (islandBit i))
    match i with
    | .data => s.measStart.keptRecord.linkTrain
    | .link => s.linkTrain
    | _ => s

end Sys2Proof.Machine
end

