-- ==== Sys2Proof/Machine/Executor.lean ====
section
/-! DEFINITION. Command descriptors from fetch to completion (R390 to R395). -/

namespace Sys2Proof.Machine

open Sys2Proof

-- Step words

/-- The argument bits that a step kind leaves unused (R103). -/
def stepUnused (k : Nat) : Nat :=
  match k with
  | 1 => 0x003FFFFF | 2 => 0x007F0000 | 3 => 0x00FFFFFF | 4 => 0x001FFF00 | 5 => 0x00FFFFFF
  | 6 => 0x0FFF0000 | 7 => 0x0EFFFFFF | 8 => 0x00FFFFFF | 9 => 0x0FF00000 | 0 => 0x0FFFFFFF | _ => 0

/-- The kind and the arguments of a step word lie in their ranges (R103). -/
def stepInRange (w : Nat) : Bool :=
  match stepKind w with
  | 1 | 2 => decide (bitsOf w 27 23 < 24)
  | 4 => decide (bitsOf w 7 0 ≠ 0) && !badChannel (bitsOf w 26 21)
  | 6 => decide (bitsOf w 15 8 ≠ 0)
  | 8 => decide (bitsOf w 27 24 < 12)
  | 9 => decide (bitsOf w 19 0 ≠ 0)
  | 0 | 3 | 5 | 7 => true
  | _ => false

/-- A step word has only the bits of its kind (R103). -/
def stepClean (w : Nat) : Bool := decide (mAnd w (stepUnused (stepKind w)) = 0)

-- The fence

/-- Let the commands that a FENCE of ring `c` held back go on, as far as the next one that has to wait (R393). -/
def State.releaseFor (c : Nat) : Nat → State → State
  | 0, s => s
  | n + 1, s =>
    match s.ring.held.at c with
    | [] => s
    | d :: l =>
      if d.fence && s.outstanding c then s
      else State.releaseFor c n ((s.setRing (fun r => { r with held := r.held.put c l })).handOn d)

/-- As `releaseFor`, over all that is held. -/
def State.release (s : State) (c : Nat) : State := s.releaseFor c (s.ring.held.at c).length

/-- A descriptor that has passed its checks (R393). -/
def State.accept (s : State) (d : Desc) : State :=
  let c := d.info.ring.val
  if !(s.ring.held.at c).isEmpty || (d.fence && s.outstanding c) then
    s.setRing (fun r => { r with held := r.held.put c (r.held.at c ++ [d]) })
  else s.handOn d

-- Checks at fetch

/-- The bytes of a list as a number, from byte `i` on `n` of them. -/
def field (l : List Byte) (i n : Nat) : Nat := ofLeBytes ((l.drop i).take n)

/-- Check 6 (R392): target and payload within R391, unused bytes 0. -/
def argsOk (op target : Nat) (pay : List Byte) : Bool :=
  let p := ofLeBytes pay
  match op with
  | 1 => decide (target = 0 ∧ p = 0)
  | 2 => decide (target = 0 ∧ p < 2 ^ 32) && decide (1 ≤ stepKind p ∧ stepKind p ≤ 8) && stepInRange p && stepClean p
  | 3 => decide (target < 128 ∧ p = 0)
  | 4 => decide (target = 0 ∧ (p = 1 ∨ p = 2))
  | 5 => decide (target = 0 ∧ p = 0xC35A)
  | 6 => decide (target = 0 ∧ p = 0)
  | 7 => decide (target = 0 ∧ (p = 0 ∨ p = 1))
  | _ => false

/-- Check 8 (R392): an opcode that acts on rails, groups or setpoints. -/
def safeRefuses (op : Nat) (pay : List Byte) : Bool :=
  let k := stepKind (ofLeBytes pay)
  (op == 2 && (k == 1 || k == 2 || k == 3 || k == 7)) || op == 3 || op == 4

/-- Check 7 (R392): the launch time. -/
def State.launchErr (s : State) (t : Nat) : Nat :=
  if t = 0 then errOk
  else if !s.tb.everLocked then errState
  else if s.tb.now + 2 ^ 24 * 0x10000 < t then errRange
  else if t < s.tb.now then errDeadline
  else errOk

/-- A descriptor from its 32 bytes (R390). -/
def descOf (c : Fin 8) (pos : Nat) (l : List Byte) : Desc :=
  let fl := field l 1 1
  { info := { ring := c, pos, seq := field l 2 2, quiet := bitOf fl 0 }
    op := field l 0 1, fence := bitOf fl 1, target := field l 4 4, launch := field l 8 8, pay := (l.drop 16).take 12 }

/-- Checks 6 to 8 (R392). -/
def State.lateChecks (s : State) (d : Desc) : Nat :=
  if !argsOk d.op d.target d.pay then errRange
  else if s.launchErr d.launch ≠ errOk then s.launchErr d.launch
  else if s.safe && safeRefuses d.op d.pay then errState
  else errOk

/-- Check 5 (R390, R392): the answer, and the expected sequence after it. -/
def State.seqCheck (s : State) (d : Desc) : Bool × State :=
  let c := d.info.ring.val
  if s.rd F.RG_CFG_SEQ_CHK c = 0 then (true, s)
  else
    let ok := !bitOf s.ring.seqSet c || s.rd F.RG_HOST_EXPECT_SEQ c == d.info.seq
    (ok, (s.wr F.RG_HOST_EXPECT_SEQ c ((d.info.seq + 1) % 0x10000)).setRing (fun r => { r with seqSet := setBit r.seqSet c }))

/-- Checks 2 to 8 in their order (R392): the error code and the state after. -/
def State.fetchChecks (s : State) (d : Desc) (l : List Byte) : Nat × State :=
  let c := d.info.ring.val
  if crc32c (l.take 28) ≠ field l 28 4 then
    let s := s.bump F.RG_EVT_CRC_FAIL c
    (errCrc, s.raise 0x0E 0x04 { unit := c, cnt := s.rd F.RG_EVT_CRC_FAIL c })
  else if d.op = 0 ∨ 7 < d.op then (errRange, s)
  else if bitsOf (field l 1 1) 6 2 ≠ 0 then (errReserved, s)
  else
    let (ok, s) := s.seqCheck d
    (if ok then s.lateChecks d else errRange, s)

/-- DESCRIPTOR_RECEIVED: the next descriptor of the read in flight has arrived whole (R392). -/
def descriptorReceived (c : Fin 8) (l : List Byte) (s : State) : State :=
  let n := s.ring.reading.at c
  let pos := s.devPos c
  if n = 0 ∨ s.ringSt c ≠ 1 then s
  else if bitOf (field l 1 1) 7 ≠ s.genOf c pos then s.haltRing c 0x1
  else
    let s := s.wr F.RG_STAT_DEV_POS c ((pos + 1) % (2 * s.depth c))
    let s := s.setRing (fun r => { r with reading := r.reading.put c (n - 1) })
    let d := descOf c pos l
    let (e, s) := s.fetchChecks d l
    (if e = errOk then s.accept d else s.complete d e 2).fetch c

-- Execution

/-- What a command does at its block: the error code and the state after (R391, R393). -/
def State.perform (s : State) (d : Desc) : Nat × State :=
  if s.safe && (safeRefuses d.op d.pay || d.op == 5) then (errState, s)
  else
    let p := ofLeBytes d.pay
    match d.op with
    | 2 => s.stepAct p
    | 3 => s.askArm d.target d.launch
    | 4 => s.askPowerState (p == 2)
    | 5 => (errOk, if s.power.resetAfterDrain.isSome then s else s.resetDrain .host)
    | 6 => s.askLeave false
    | 7 => if p = 1 then s.askLendStart else s.askLendStop false
    | _ => (errOk, s)

/-- Execute a command (R393, R395): its completion stands for its taking effect, and commands behind a FENCE may follow. -/
def State.execute (s : State) (d : Desc) (crcOk : Bool) : State :=
  let c := d.info.ring.val
  if !crcOk then
    let s := s.bump F.HR_EVT_EXEC_CRC 0
    ((s.raise 0x0E 0x05 { unit := c, cnt := s.rd F.HR_EVT_EXEC_CRC 0 }).complete d errCrc 3).release c
  else
    let e := (s.perform d).1
    (((s.complete d e (if e ≠ errOk then 3 else if d.op = 3 then 5 else 1)).perform d).2).release c

/-- Take the first element that satisfies `p` out of a list. -/
def takeFirst {α : Type} (p : α → Bool) : List α → Option (α × List α)
  | [] => none
  | x :: l => if p x then some (x, l) else (takeFirst p l).map (fun y => (y.1, x :: y.2))

/-- The oldest command of ring `c` that waits at its executing block takes effect, where it is the opcode `op` (R393). `crcOk`:
its check value still matches there. -/
def commandDispatched (op : Nat) (c : Fin 8) (crcOk : Bool) (s : State) : State :=
  match takeFirst (fun d : Desc => d.info.ring == c) s.ring.dispatched with
  | some (d, l) => if d.op = op then (s.setRing (fun r => { r with dispatched := l })).execute d crcOk else s
  | none => s

/-- A queued command of the launch time `t` may act: its slot has come, and the slot's context launches have been granted, or the
slot lies behind the present one (R394). -/
def State.timedDue (s : State) (t : Nat) : Bool :=
  decide (slotUp t ≤ s.tb.now) && (s.sched.served || decide (slotUp t < s.tb.now / 256 * 256))

/-- TIMED_COMMAND_DUE: the first command of the timed queue, once its slot has come (R394). -/
def timedCommandDue (crcOk : Bool) (s : State) : State :=
  match s.ring.timed with
  | d :: l =>
    if s.timedDue d.launch then (s.setRing (fun r => { r with timed := l })).execute d crcOk else s
  | [] => s

end Sys2Proof.Machine
end

