-- ==== Sys2Proof/Machine/Sha.lean ====
section
/-! DEFINITION. SHA-256 and HMAC-SHA-256 (R447, R498), over lists of bytes. -/

namespace Sys2Proof.Machine

open Sys2Proof

namespace Sha

/-- A 32-bit word rotated right. -/
def rotr (n x : Nat) : Nat := x / 2 ^ n + x % 2 ^ n * 2 ^ (32 - n)

/-- Exclusive or of three words. -/
def xor3 (a b c : Nat) : Nat := Nat.xor (Nat.xor a b) c

/-- The round constants. -/
def consts : List Nat :=
  [0x428A2F98, 0x71374491, 0xB5C0FBCF, 0xE9B5DBA5, 0x3956C25B, 0x59F111F1, 0x923F82A4, 0xAB1C5ED5,
   0xD807AA98, 0x12835B01, 0x243185BE, 0x550C7DC3, 0x72BE5D74, 0x80DEB1FE, 0x9BDC06A7, 0xC19BF174,
   0xE49B69C1, 0xEFBE4786, 0x0FC19DC6, 0x240CA1CC, 0x2DE92C6F, 0x4A7484AA, 0x5CB0A9DC, 0x76F988DA]
  ++ [0x983E5152, 0xA831C66D, 0xB00327C8, 0xBF597FC7, 0xC6E00BF3, 0xD5A79147, 0x06CA6351, 0x14292967,
   0x27B70A85, 0x2E1B2138, 0x4D2C6DFC, 0x53380D13, 0x650A7354, 0x766A0ABB, 0x81C2C92E, 0x92722C85,
   0xA2BFE8A1, 0xA81A664B, 0xC24B8B70, 0xC76C51A3, 0xD192E819, 0xD6990624, 0xF40E3585, 0x106AA070]
  ++ [0x19A4C116, 0x1E376C08, 0x2748774C, 0x34B0BCB5, 0x391C0CB3, 0x4ED8AA4A, 0x5B9CCA4F, 0x682E6FF3,
   0x748F82EE, 0x78A5636F, 0x84C87814, 0x8CC70208, 0x90BEFFFA, 0xA4506CEB, 0xBEF9A3F7, 0xC67178F2]

/-- The initial hash value. -/
def start : List Nat :=
  [0x6A09E667, 0xBB67AE85, 0x3C6EF372, 0xA54FF53A, 0x510E527F, 0x9B05688C, 0x1F83D9AB, 0x5BE0CD19]

/-- Extend the message schedule by `n` words; the newest word stands first. -/
def schedule : Nat → List Nat → List Nat
  | 0, w => w
  | n + 1, w =>
    let a := w.getD 14 0
    let b := w.getD 1 0
    let s0 := xor3 (rotr 7 a) (rotr 18 a) (a / 8)
    let s1 := xor3 (rotr 17 b) (rotr 19 b) (b / 1024)
    schedule n ((w.getD 15 0 + s0 + w.getD 6 0 + s1) % 2 ^ 32 :: w)

/-- The working variables. -/
structure Vars where
  a : Nat
  b : Nat
  c : Nat
  d : Nat
  e : Nat
  f : Nat
  g : Nat
  h : Nat

/-- One round with a constant and a schedule word. -/
def round (x : Vars) (kw : Nat × Nat) : Vars :=
  let s1 := xor3 (rotr 6 x.e) (rotr 11 x.e) (rotr 25 x.e)
  let ch := Nat.xor (Nat.land x.e x.f) (Nat.land (0xFFFFFFFF - x.e) x.g)
  let t1 := (x.h + s1 + ch + kw.1 + kw.2) % 2 ^ 32
  let s0 := xor3 (rotr 2 x.a) (rotr 13 x.a) (rotr 22 x.a)
  let maj := xor3 (Nat.land x.a x.b) (Nat.land x.a x.c) (Nat.land x.b x.c)
  { a := (t1 + s0 + maj) % 2 ^ 32, b := x.a, c := x.b, d := x.c, e := (x.d + t1) % 2 ^ 32, f := x.e, g := x.f, h := x.g }

/-- A number from bytes, most significant first. -/
def ofBeBytes (l : List Byte) : Nat := ofLeBytes l.reverse

/-- The compression of one 64-byte block into the hash. -/
def block (hash : List Nat) (l : List Byte) : List Nat :=
  let w0 := (List.range 16).map (fun i => ofBeBytes ((l.drop (4 * i)).take 4))
  let w := (schedule 48 w0.reverse).reverse
  let h (i : Nat) : Nat := hash.getD i 0
  let x := (consts.zip w).foldl round
    { a := h 0, b := h 1, c := h 2, d := h 3, e := h 4, f := h 5, g := h 6, h := h 7 }
  [h 0 + x.a, h 1 + x.b, h 2 + x.c, h 3 + x.d, h 4 + x.e, h 5 + x.f, h 6 + x.g, h 7 + x.h].map (· % 2 ^ 32)

/-- The compression of `n` blocks. -/
def blocks : Nat → List Nat → List Byte → List Nat
  | 0, h, _ => h
  | n + 1, h, l => blocks n (block h (l.take 64)) (l.drop 64)

end Sha

/-- The SHA-256 digest of a message: 32 bytes. -/
def sha256 (m : List Byte) : List Byte :=
  let pad := (119 - m.length % 64) % 64
  let l := m ++ [0x80] ++ List.replicate pad 0 ++ (leBytes 8 (8 * m.length)).reverse
  (Sha.blocks (l.length / 64) Sha.start l).flatMap (fun x => (leBytes 4 x).reverse)

/-- HMAC-SHA-256 under a 32-byte key. -/
def hmac256 (key m : List Byte) : List Byte :=
  let k (x : Byte) : List Byte := (key ++ List.replicate 32 0).map (· ^^^ x)
  sha256 (k 0x5C ++ sha256 (k 0x36 ++ m))

end Sys2Proof.Machine
end

