-- ==== Sys2Proof/Machine/Metrology.lean ====
section
/-! DEFINITION. The metrology die and its channel (R428 to R453). The die runs on MVDD, apart from the main die's power. -/

namespace Sys2Proof.Machine

open Sys2Proof

/-- Change the metrology die. -/
def State.setMet (s : State) (f : Met → Met) : State := { s with met := f s.met }

-- Calibration words

/-- The nominal calibration words (R441). -/
def calNominal (p : Nat) : Nat :=
  match p with
  | 0x04 | 0x0C | 0x14 => 0x40000000
  | 0x1C => 100000
  | 0x20 => 1000000
  | 0x24 => 0x50
  | 0x28 => 1000
  | _ => 0

/-- A calibration word. -/
def Met.word (m : Met) (p : Nat) : Nat := m.words.get (calNominal p) p

/-- A calibration word's signed value. -/
def Met.signed (m : Met) (p : Nat) : Int := ofField 32 (m.word p)

/-- The 64-bit serial number. -/
def Met.serial (m : Met) : Nat := m.word 0x2C + m.word 0x30 * 2 ^ 32

/-- The bit of a word needed for the seal within the written mask (R441; DEDUCED, log 20: in the order of the pointers). -/
def calBit (p : Nat) : Option Nat :=
  match p with
  | 0x04 => some 0 | 0x0C => some 1 | 0x14 => some 2 | 0x1C => some 3 | 0x20 => some 4 | 0x28 => some 5
  | 0x2C => some 6 | 0x30 => some 7 | _ => none

/-- A word may take a value (R441). The serial number may not be left 0 once both its words are written. -/
def Met.calInRange (m : Met) (p v : Nat) : Bool :=
  match p with
  | 0x04 | 0x0C | 0x14 => decide (0x20000000 ≤ v ∧ v ≤ 0x60000000)
  | 0x08 | 0x10 | 0x18 => decide ((ofField 32 v).natAbs ≤ 0x10000)
  | 0x1C => decide (1000 ≤ v ∧ v ≤ 4000000)
  | 0x20 => decide (1000 ≤ v ∧ v ≤ 2000000)
  | 0x24 => decide (v < 0x100 ∧ bitsOf v 3 1 = 0 ∧ bitsOf v 7 4 ≠ 0)
  | 0x28 => decide (1 ≤ v ∧ v ≤ 100000)
  | 0x2C => !(v == 0 && bitOf m.written 7 && m.word 0x30 == 0)
  | 0x30 => !(v == 0 && bitOf m.written 6 && m.word 0x2C == 0)
  | _ => false

-- Measurement

/-- A converter code held to ±105 % of full scale (R434; DEDUCED, log 20: full scale is the code 2^23). -/
def clampCode (c : Int) : Int := if 8808038 < c then 8808038 else if c < -8808038 then -8808038 else c

/-- A scaled value of the current, the voltage channel in 2^-53 of its full scale (R434). -/
def Met.iNum (m : Met) (c : Int) : Int :=
  let x := m.signed 0x04 * (clampCode c - m.signed 0x08)
  if bitOf (m.word 0x24) 0 then -x else x
def Met.vNum (m : Met) (c : Int) : Int := m.signed 0x0C * (clampCode c - m.signed 0x10)

/-- The check value, scaled as v is (R434). -/
def Met.cNum (m : Met) (c : Int) : Int := m.signed 0x14 * (clampCode c - m.signed 0x18)

/-- The check value lies further from v than V_CHK_TOL × V_FS (R436). -/
def Met.excess (m : Met) (x : MetSample) : Bool :=
  decide (bitsOf (m.word 0x24) 7 4 * 2 ^ 53 < 1000 * (m.cNum x.c - m.vNum x.v).natAbs)

/-- tCHK, 10 s, in samples (R436, R452). -/
def chkSamples : Nat := 80000

/-- One unit of an energy and of a charge accumulator in their sub-units: per sample at 8 kS/s, 0.1 mWh is 360,000 µJ and
1 mAh is 3,600 mA·s (R435). -/
def eUnit : Nat := 2 ^ 106 * 8000 * 360000
def qUnit : Nat := 2 ^ 53 * 8000 * 3600

/-- Add `n` samples alike to the accumulators (R435). -/
def Met.accumulate (m : Met) (x : MetSample) : Met :=
  let i := m.iNum x.i
  let p := m.vNum x.v * i * (m.word 0x20 * m.word 0x1C * x.n : Nat)
  let q := i * (m.word 0x1C * x.n : Nat)
  let l := m.live
  { m with live := { l with
      eImp := l.eImp + p.toNat, eExp := l.eExp + (-p).toNat, qImp := l.qImp + q.toNat, qExp := l.qExp + (-q).toNat } }

/-- Widen the interval's extremes by a sample (R446). -/
def Met.widen (m : Met) (x : MetSample) : Met :=
  let v := m.vNum x.v
  let i := m.iNum x.i
  { m with ext := some (match m.ext with
      | none => ⟨v, v, i, i⟩
      | some e => ⟨min e.vMin v, max e.vMax v, min e.iMin i, max e.iMax i⟩) }

/-- A sample lies beyond ±105 % on some channel (R434). -/
def overloaded (x : MetSample) : Bool := [x.i, x.v, x.c].any (fun c => c != clampCode c)

/-- The CHECK condition is entered or left; entering it raises MET 0x04 (R436). -/
def State.checkGo (s : State) (on : Bool) : State :=
  let new := on && !s.met.check
  let s := s.setMet (fun m => { m with check := on })
  if new then s.raise 0x10 0x04 { val := s.crossed 0x10 0x04 0xFF } else s

/-- The check channel over `n` samples alike (R436): an excess without a break for tCHK, or none for tCHK. -/
def State.judgeCheckValue (s : State) (x : MetSample) : State :=
  let far := s.met.excess x
  let s := s.setMet (fun m => { m with apart := if far then m.apart + x.n else 0, close := if far then 0 else m.close + x.n })
  if chkSamples ≤ s.met.apart then s.checkGo true else if chkSamples ≤ s.met.close then s.checkGo false else s

/-- Samples alike enter the accumulators; the first overload of a group raises MET 0x08 (R434). -/
def State.metSample (s : State) (x : MetSample) : State :=
  if x.n = 0 then s
  else
    let new := overloaded x && !s.met.ovl
    let s := s.setMet (fun m => ({ m with ovl := m.ovl || overloaded x }.accumulate x).widen x)
    let s := s.judgeCheckValue x
    if new then s.raise 0x10 0x08 { val := s.crossed 0x10 0x08 0xFF } else s

/-- The samples since the die's last command (R434 to R436). -/
def State.metSamples (s : State) (l : List MetSample) : State := if s.met.mvdd then l.foldl State.metSample s else s

-- The channel

/-- The link is seen to work: a valid outbound frame has arrived (R432). -/
def State.metFrame (s : State) : State :=
  let back := s.met.lost
  let s := (s.setMet (fun m => { m with lost := false })).wr F.MET_STAT_LINK 0 1
  if back then s.raise 0x10 0x02 else s

/-- What the die's words read as in the window, as far as the main die shows them (R453). -/
def State.metRefresh (s : State) (home : Nat) : State :=
  let m := s.met
  match home with
  | 0x2604 =>
    s.wr F.MET_STAT_LIFE 0 (if m.sealed then 2 else 1) |>.wr F.MET_STAT_INTEGRITY 0 (b2n m.integrity)
      |>.wr F.MET_STAT_CHECK 0 (b2n m.check) |>.wr F.MET_STAT_OVER 0 (b2n m.ovl) |>.wr F.MET_STAT_TIME_OK 0 (b2n m.timeOk)
      |>.wr F.MET_STAT_CAL_EN 0 (b2n m.calEn) |>.wr F.MET_STAT_QUEUED 0 m.queue.length
  | 0x260C => s.wr F.MET_SEAL_EVENTS 0 m.events |>.wr F.MET_SEAL_RESTARTS 0 (min 0xFFFF m.live.restarts)
  | 0x2610 => s.wr F.MET_LAST_SEQ 0 m.lastSeq |>.wr F.MET_LAST_FLAGS 0 m.lastFlags
  | _ => s

/-- A wide value of the die by its home, with its number of words (R453). -/
def Met.wide (m : Met) (home : Nat) : Option (Nat × Nat) :=
  match home with
  | 0x2620 => some (m.serial, 2)
  | 0x2628 => some (m.live.eImp / eUnit % 2 ^ 64, 2)
  | 0x2630 => some (m.live.eExp / eUnit % 2 ^ 64, 2)
  | 0x2638 => some (m.live.qImp / qUnit % 2 ^ 48, 2)
  | 0x2640 => some (m.live.qExp / qUnit % 2 ^ 48, 2)
  | 0x2650 => some (if m.sealed then m.digest % 2 ^ 128 else 0, 4)
  | 0x2660 => some (if m.sealed then m.digest / 2 ^ 128 else 0, 4)
  | _ => none

/-- The die is there and hears the main die. -/
def State.metHears (s : State) : Bool := s.power.metDie && s.met.mvdd && s.on

/-- A frame that the die discards for its check value (R431). -/
def State.metDiscard (s : State) : State := s.bump F.MET_LINK_BAD_CMD 0

/-- The first answer within the probe period fits the die; MET_CFG takes the values that the die reports (R433, R453). -/
def State.metFit (s : State) : State :=
  if s.flag F.ID_MET_FITTED 0 || s.power.metProbeDone then s
  else
    let m := s.met
    let put (b : Bank) : Bank := (b.wr F.MET_CFG_CADENCE 0 m.cadNext).wr F.MET_CFG_PULSE_QTY 0 m.pulse
    ({ s with stag := put s.stag, act := put s.act }).wr F.ID_MET_FITTED 0 1

/-- MET_READ: a READ command reaches the die and its answer returns (R431 to R433). -/
def metRead (home : Nat) (crcOk : Bool) (l : List MetSample) (s : State) : State :=
  let s := s.metSamples l
  if !s.metHears || (!s.flag F.ID_MET_FITTED 0 && s.power.metProbeDone) then s
  else if !crcOk then s.metDiscard
  else (s.metFrame.metFit).metRefresh home

/-- MET_LINK_LOSS (R432). -/
def metLinkLoss (s : State) : State :=
  if s.power.off || !s.flag F.MET_STAT_LINK 0 then s
  else
    let s := ((s.setMet (fun m => { m with lost := true })).wr F.MET_STAT_LINK 0 0).bump F.MET_LINK_LOSSES 0
    s.raise 0x10 0x01 { cnt := s.rd F.MET_LINK_LOSSES 0 }

/-- MET_PROBE_END (R433). -/
def metProbeEnd (s : State) : State := { s with power := { s.power with metProbeDone := true } }

/-- MET_RECORD_RECEIVED: the next record of the die's queue arrives at the data plane; `bad` gives its bytes where they were
corrupted on the channel. It is forwarded unchanged, whether or not its check value holds (R430). -/
def metRecordReceived (bad : Option (List Byte)) (s : State) : State :=
  match s.met.queue with
  | [] => s
  | g :: gs =>
    match g with
    | [] => s.setMet (fun m => { m with queue := gs })
    | x :: xs =>
      if !s.metHears || !s.dataOn then s
      else
        let s := s.setMet (fun m => { m with queue := if xs.isEmpty then gs else xs :: gs })
        let s := match bad with
          | none => s.metFrame
          | some _ =>
            let s := s.bump F.MET_LINK_CRC_ERR 0
            s.raise 0x10 0x07 { cnt := s.rd F.MET_LINK_CRC_ERR 0 }
        s.setRing (fun r => match s.route 7 with
          | none => r.bump F.HR_UNROUTED_COUNT 0 1
          | some c => r.push c { x with raw := bad })

-- Commands to the die

/-- A seal event is counted (R443). -/
def State.sealEvent (s : State) : State :=
  let s := s.setMet (fun m => { m with events := min 4095 (m.events + 1) })
  s.raise 0x10 0x03 { cnt := s.met.events }

/-- MET_TIME (R431, R445, R450): a stroke boundary's time and the lock code reach the die. The first after a start or a loss may be
a boundary itself. -/
def metTime (crcOk : Bool) (s : State) : State :=
  if !s.metHears then s
  else if !crcOk then s.metDiscard
  else s.setMet (fun m => { m with
    time := s.strokes * 0x10000, lock := s.rd F.TB_STAT_LOCK 0, timeOk := true
    lastCount := if m.timeOk then m.lastCount else s.strokes, back := m.timeOk && (m.back || decide (s.strokes < m.time / 0x10000)) })

/-- The MET_CFG code of CADENCE and PULSE_QTY. -/
def metCode (cadence pulse : Nat) : Nat := pulse * 4 + cadence

/-- The main die sends a CONFIG command (R431). -/
def State.sendConfig (s : State) (v : Nat) : State := s.setMet (fun m => { m with sent := m.sent ++ [v] })

/-- MET_CONFIG: the oldest CONFIG on its way reaches the die (R431, R443). A cadence holds from the next interval on (R450). -/
def metConfig (crcOk : Bool) (s : State) : State :=
  match s.met.sent with
  | [] => s
  | v :: l =>
    let s := s.setMet (fun m => { m with sent := l })
    if !(s.power.metDie && s.met.mvdd) then s
    else if !crcOk then s.metDiscard
    else if s.met.sealed then (if v = metCode s.met.cadNext s.met.pulse then s else s.sealEvent)
    else s.setMet (fun m => { m with cadNext := bitsOf v 1 0, pulse := bitsOf v 3 2 })

-- Groups

/-- A value over `2 ^ k` rounded to the nearest code (R446). -/
def nearest (x : Int) (k : Nat) : Int :=
  let q := x / (2 ^ k : Int)
  let r := 2 * (x % (2 ^ k : Int))
  if r < (2 ^ k : Int) then q else if (2 ^ k : Int) < r then q + 1 else if Config.tieUp q then q + 1 else q

/-- The 12-bit field of an extreme (R446): unsigned or signed; a value outside it is not stated. -/
def extField (signed : Bool) (x : Option Int) : Nat :=
  match x with
  | none => Config.metExtreme none % 4096
  | some c =>
    if signed then (if -2048 ≤ c ∧ c < 2048 then toField 12 c else Config.metExtreme x % 4096)
    else if 0 ≤ c ∧ c < 4096 then c.toNat else Config.metExtreme x % 4096

/-- The 64-bit field of part 1 (R446). -/
def Met.summary (m : Met) : Nat :=
  let v (f : MetExtremes → Int) : Nat := extField false (m.ext.map (fun e => nearest (f e) 41))
  let i (f : MetExtremes → Int) : Nat := extField true (m.ext.map (fun e => nearest (f e) 42))
  v (·.vMin) + v (·.vMax) * 2 ^ 12 + i (·.iMin) * 2 ^ 24 + i (·.iMax) * 2 ^ 36 + m.events * 2 ^ 48
    + (b2n m.restart + 2 * b2n m.check + 4 * b2n m.ovl + 8 * b2n m.integrity) * 2 ^ 60

/-- The device key as its 32 bytes. -/
def deviceKey : List Byte := (List.range 32).map Config.deviceKey

/-- The three records of a group at a stroke time (R446, R447). -/
def Met.group (m : Met) (time lock : Nat) : List Rec :=
  let part (k : Nat) (pay : List Byte) : Rec :=
    { typ := 7, lock, src := 0x10, seq := (m.live.seq + k) % 0x10000, time, pay }
  let p0 := part 0 (leBytes 8 (m.live.eImp / eUnit) ++ leBytes 8 (m.live.eExp / eUnit))
  let p1 := part 1 (leBytes 4 (m.live.qImp / qUnit) ++ leBytes 4 (m.live.qExp / qUnit) ++ leBytes 8 m.summary)
  let head := part 2 []
  let tag := if m.sealed then (hmac256 deviceKey (p0.body ++ p1.body ++ head.body)).take 16 else List.replicate 16 0
  [p0, p1, { head with pay := tag }]

/-- Put a group into the die's queue of 1,024; a full queue displaces the oldest (R448). -/
def State.metQueue (s : State) (g : List Rec) : State :=
  if s.met.queue.length < 1024 then s.setMet (fun m => { m with queue := m.queue ++ [g] })
  else
    let s := (s.setMet (fun m => { m with queue := m.queue.drop 1 ++ [g] })).bump F.MET_LINK_LOST 0
    s.raise 0x10 0x06 { cnt := s.rd F.MET_LINK_LOST 0 }

/-- Form the group of the interval that ends (R445, R446). -/
def State.metGroup (s : State) (time lock : Nat) : State :=
  let m := s.met
  let s := s.setMet (fun m => { m with
    live := { m.live with seq := (m.live.seq + 3) % 0x10000 }
    lastSeq := m.live.seq
    lastFlags := b2n m.restart + 2 * b2n m.check + 4 * b2n m.ovl + 8 * b2n m.integrity
    lastCount := m.time / 0x10000 + 1, back := false, cadence := m.cadNext, restart := false, ovl := false, ext := none })
  s.metQueue (m.group time lock)

/-- A stroke cadence of 50 or 60 strokes is in force with TIME arriving (R445). -/
def Met.strokeCadence (m : Met) : Option Nat :=
  if !m.timeOk then none else if m.cadence = 1 then some 50 else if m.cadence = 2 then some 60 else none

/-- The stroke count at which the next group falls due under a cadence of `n` strokes: the first multiple after the last boundary; once
the count has stepped back, the first at least one cadence beyond it (R445, R450). -/
def Met.nextBoundary (m : Met) (n : Nat) : Nat :=
  if m.back then (m.lastCount + 2 * n - 2) / n * n else (m.lastCount + n - 1) / n * n

/-- MET_GROUP_BOUNDARY (R445, R450): at a stroke cadence once the received count has reached or passed the next multiple;
else at 1 s of the die's own oscillator, stamped with its extrapolated stroke time `ext`. -/
def metGroupBoundary (ext : Nat) (l : List MetSample) (s : State) : State :=
  let s := s.metSamples l
  let m := s.met
  if !m.mvdd then s
  else match m.strokeCadence with
    | some n => if m.nextBoundary n ≤ m.time / 0x10000 then s.metGroup m.time m.lock else s
    | none => s.metGroup ext (if m.timeOk then m.lock else 0)

-- The energy store

/-- MET_STORE_SAVE (R438): the older copy is written; at a fall of MVDD the die stops after it, and what it holds in volatile
memory is lost. -/
def metStoreSave (falling : Bool) (l : List MetSample) (s : State) : State :=
  let s := s.metSamples l
  if !s.met.mvdd then s
  else s.setMet (fun m =>
    let c := { m.live with num := m.newer.num + 1 }
    { m with newer := c, older := m.newer, mvdd := m.mvdd && !falling })

/-- The copy that a start restores (R438). -/
def Met.restored (m : Met) (newerOk olderOk : Bool) : MetStore :=
  if newerOk then m.newer else if olderOk then m.older else {}

/-- What a start finds wanting (R438, R444): the newer copy, or the seal digest. -/
def Met.foundBad (m : Met) (newerOk : Bool) : Bool := !newerOk || (m.sealed && !m.digestOk)

/-- The seal digest at a start (R442, R444): a seal that was cut off leaves one that fails at every start; `digestOk` is what this
start's check of any other finds. -/
def State.digestAtStart (s : State) (digestOk : Bool) : State :=
  let m := s.met
  if m.burning then
    ({ s with met := { m with sealed := true, burning := false, cut := true, digestOk := false, digest := Config.cutDigest s.free } }).drawn
  else s.setMet (fun m => { m with digestOk := !m.cut && digestOk })

/-- MVDD_START (R438, R439, R444, R450): the store is restored, the digest checked; the calibration shadow returns to nominal in
CALIBRATION. Every start counts as a restart and sets RESTART. The main die sends CONFIG (R431). A die that meters does not start. -/
def mvddStart (newerOk olderOk digestOk : Bool) (s : State) : State :=
  if !s.power.metDie || s.met.mvdd then s
  else
    let s := s.digestAtStart digestOk
    let bad := s.met.foundBad newerOk
    let s := s.setMet (fun m =>
      let c := m.restored newerOk olderOk
      let fresh : Met := if m.sealed then m else { m with words := {}, written := 0, cadNext := 0, pulse := 0 }
      { fresh with
        mvdd := true, live := { c with restarts := min 0xFFFF (c.restarts + 1) }, restart := true, integrity := bad
        check := false, apart := 0, close := 0, ovl := false, timeOk := false, time := 0, lock := 0, lastCount := 0, back := false, ext := none, queue := []
        cadence := fresh.cadNext, calErr := 0 })
    let s := if s.met.sealed && !s.met.digestOk then s.sealEvent else s
    let s := if bad then s.raise 0x10 0x05 else s
    let s := s.raise 0x10 0x09 { cnt := s.met.live.restarts }
    if s.on && s.flag F.ID_MET_FITTED 0 then
      s.sendConfig (metCode (s.cf F.MET_CFG_CADENCE 0) (s.cf F.MET_CFG_PULSE_QTY 0))
    else s

/-- MET_CHECK_DISAGREE (R436): `on`: the excess has lasted tCHK; otherwise tCHK has passed without one. -/
def metCheckDisagree (on : Bool) (s : State) : State :=
  if s.met.mvdd then s.checkGo on else s

/-- MET_TIME_LOSS (R445). -/
def metTimeLoss (s : State) : State := s.setMet (fun m => { m with timeOk := false })

-- The calibration port

/-- Answer a calibration port write: the code in CAL_STAT.ERR, the fourth byte's ACK (R441). -/
def State.calAnswer (s : State) (e : Nat) : State :=
  { s.setMet (fun m => { m with calErr := e }) with out := { s.out with ack := some (e == errOk) } }

/-- A seal is refused with this code (R442), or may start. -/
def State.sealErr (s : State) (v : Nat) (supply : Bool) : Nat :=
  let m := s.met
  if m.written ≠ 0xFF then errState
  else if bitsOf v 15 0 ≠ 0x5EA1 ∨ bitsOf v 31 16 ≠ m.serial % 0x10000 then errRange
  else if !supply then errSupply
  else errOk

/-- A word write of the calibration port while MCAL_EN is high (R441 to R443). `supply`: MVDD lies in the programming window.
While a seal burns the words stand and a write is refused with BUSY (DESIGN CHOICE, log 20). -/
def State.calWrite (s : State) (p v : Nat) (supply : Bool) : State :=
  if !s.met.mvdd then s
  else if s.met.sealed then (s.sealEvent).calAnswer errSealed
  else if s.met.burning then s.calAnswer errBusy
  else if p = 0x3C then
    let e := s.sealErr v supply
    (if e = errOk then s.setMet (fun m => { m with burning := true }) else s).calAnswer e
  else if !s.met.calInRange p v then s.calAnswer errRange
  else (s.setMet (fun m => { m with
      words := m.words.set (calNominal p) p v
      written := match calBit p with | some b => setBit m.written b | none => m.written })).calAnswer errOk

/-- CAL_PORT_WRITE (R441). -/
def calPortWrite (en : Bool) (p v : Nat) (supply : Bool) (s : State) : State :=
  let s := s.setMet (fun m => { m with calEn := en })
  if en then s.calWrite p v supply else s

/-- SEAL (R442): a write of the SEAL word. -/
def sealWrite (en : Bool) (v : Nat) (supply : Bool) (s : State) : State := calPortWrite en 0x3C v supply s

/-- What a pointer of the calibration port reads as (R441). -/
def Met.calRead (m : Met) (p : Nat) : Nat :=
  if p = 0x40 then m.calErr * 2 ^ 24 + m.written * 2 ^ 16 + (if m.sealed then 2 else 1)
  else if 0x04 ≤ p ∧ p ≤ 0x30 ∧ p % 4 = 0 then m.word p
  else Config.calWord p % 2 ^ 32

/-- CAL_PORT_READ: `n` words from a pointer on (R441). -/
def calPortRead (en : Bool) (p n : Nat) (s : State) : State :=
  let s := s.setMet (fun m => { m with calEn := en })
  if en && s.met.mvdd then
    { s with out := { s.out with cal := (List.range n).map (fun i => s.met.calRead ((p + 4 * i) % 0x100)) } }
  else s

/-- The calibration words in pointer order, from I_GAIN on, and the set-up that the seal burns (R442). -/
def Met.region (m : Met) : List Nat :=
  (List.range 12).map (fun i => m.word (4 + 4 * i)) ++ [metCode m.cadNext m.pulse]

/-- SEAL_DONE (R442): the die is SEALED. -/
def sealDone (s : State) : State :=
  if s.met.burning && s.met.mvdd then
    s.setMet (fun m => { m with burning := false, sealed := true, digestOk := true, digest := Config.sealDigest m.region % 2 ^ 256 })
  else s

-- MET_PULSE

/-- Pulses of MET_PULSE since the accumulators began (R449); none while it is high-impedance. -/
def State.metPulses (s : State) : Option Nat :=
  let m := s.met
  if !s.power.metDie || !m.mvdd || m.pulse = 3 then none
  else
    let e := (if m.pulse = 1 then 0 else m.live.eImp) + (if m.pulse = 0 then 0 else m.live.eExp)
    some (e * m.word 0x28 / (eUnit * 10000000))

/-- A swap has put `s` in the place of `s0`: CONFIG follows a change of MET_CFG (R431). -/
def State.metApply (s0 s : State) : State :=
  let code (x : State) : Nat := metCode (x.cf F.MET_CFG_CADENCE 0) (x.cf F.MET_CFG_PULSE_QTY 0)
  if code s ≠ code s0 ∧ s.flag F.ID_MET_FITTED 0 = true then s.sendConfig (code s) else s

end Sys2Proof.Machine
end

