-- ==== Sys2Proof/Machine/Logbook.lean ====
section
/-! DEFINITION. The logbook (R499 to R503): its chunks and their two copies, saves and tokens, the load at a chip reset. -/

namespace Sys2Proof.Machine

open Sys2Proof

/-- Change the logbook. -/
def State.setLog (s : State) (f : Logb → Logb) : State := { s with logb := f s.logb }

-- Chunks

/-- The item of a chunk (R499): 0 MAP, 1 WEAR, 2 COUNT, 3 EST, 4 CTRL. -/
def itemOf (chunk : Nat) : Nat :=
  if chunk < 96 then 0 else if chunk < 108 then 1 else if chunk < 111 then 2 else if chunk = 111 then 3 else 4

/-- The chunk that holds a status field, by the field's key (R499). -/
def chunkOfKey (k : Nat) : Option Nat :=
  let i := k / 0x100000
  let lo := k % 32
  match k % 0x100000 / 32 with
  | 0x1230 => if lo = 31 then some (96 + i / 32) else none
  | 0x1234 => some (96 + i / 32)
  | 0x122C => some (96 + i)
  | 0x1424 | 0x1428 | 0x142C | 0x1430 => some (108 + i / 8)
  | 0x1E18 | 0x1E24 | 0x1E28 => some 111
  | 0xC54 => if lo = 24 ∨ lo = 0 then some 112 else none
  | 0xA20 => if lo = 24 then some 112 else none
  | 0xAA4 => if lo = 0 then some 112 else none
  | 0x1C58 => if lo = 24 ∨ lo = 0 then some 112 else none
  | 0x3E08 => if lo = 16 then some 112 else none
  | _ => none

/-- The chunk of a segment, by its key. -/
def chunkOfSeg (k : Nat) : Nat :=
  let a := arrOf (k % 4096 / 2048)
  k / 4096 * 8 + a.idx * 4 + bankOf a (k % 2048) / 4

/-- Keys of a payload that name a segment's cause, a pair's health or the last cause of an array, beyond the keys of fields. -/
def segTag : Nat := 2 ^ 40
def healthTag : Nat := 2 ^ 41
def lastTag : Nat := 2 ^ 42

/-- The payload of a chunk as it stands now (R499). The cause of the last retirement per array stands beside CA_LAST in WEAR (R159; that
chunk is DEDUCED, log 36). -/
def State.payload (s : State) (chunk : Nat) : List (Nat × Nat) :=
  s.sts.cells.filter (fun c => chunkOfKey c.1 == some chunk)
  ++ (s.cist.segs.cells.filter (fun c => c.2.cause != 0 && chunkOfSeg c.1 == chunk)).map (fun c => (segTag + c.1, c.2.cause))
  ++ (s.cist.lastCause.cells.filter (fun c => 96 + c.1 / 2 == chunk)).map (fun c => (lastTag + c.1, c.2))
  ++ (if chunk = 112 then s.health.cells.map (fun c => (healthTag + c.1, c.2)) else [])

/-- A copy of a chunk. -/
def State.copyAt (s : State) (chunk copy : Nat) : LogCopy := s.logb.copies.at (chunk * 2 + copy)

/-- The copy that a save writes: the one with the older sequence (R500). -/
def State.olderCopy (s : State) (chunk : Nat) : Nat :=
  let a := s.copyAt chunk 0
  let b := s.copyAt chunk 1
  if !a.ok then 0 else if !b.ok then 1 else if a.seq ≤ b.seq then 0 else 1

/-- The highest sequence of a chunk's valid copies. -/
def State.lastSeq (s : State) (chunk : Nat) : Nat :=
  let f (c : LogCopy) : Nat := if c.ok then c.seq else 0
  max (f (s.copyAt chunk 0)) (f (s.copyAt chunk 1))

-- Tokens

/-- Tokens held. -/
def State.tokens (s : State) : Nat := s.rd F.LOG_STAT_TOKENS 0

/-- The pending chunks whose saves wait for a token (R502): they need one, none is left, and no FLUSH saves them. -/
def State.tokenWaits (s : State) : List Nat :=
  if s.tokens = 0 then (s.logb.pend.filter (fun c => c.2 && !s.logb.flushing.contains c.1)).map (·.1) else []

/-- Judge throttling: LOG 0x04 once per period in which saves wait for tokens; LOG_EVT.DEFERRED counts each of them (R502, R511). -/
def State.logShow (s : State) : State :=
  let l := s.tokenWaits
  let fresh := l.filter (fun c => !s.logb.starved.contains c)
  let s := (s.setLog (fun x => { x with starved := x.starved ++ fresh })).bumpBy F.LOG_EVT_DEFERRED 0 fresh.length
  match l with
  | [] => s.wr F.LOG_STAT_THROTTLED 0 0
  | c :: _ =>
    if s.flag F.LOG_STAT_THROTTLED 0 then s
    else (s.wr F.LOG_STAT_THROTTLED 0 1).raise 0x15 0x04 { unit := itemOf c, cnt := s.rd F.LOG_EVT_DEFERRED 0 }

/-- TOKEN_ACCRUAL (R502). -/
def tokenAccrual (s : State) : State :=
  if s.on then (s.wr F.LOG_STAT_TOKENS 0 (min 1152 (s.tokens + 1))).logShow else s

-- Saves

/-- The chunk that may be saved next: the oldest that needs no token, MAP before the others, then, with a token left, the
oldest of the rest (R502, R507). -/
def State.nextSave (s : State) : Option (Nat × Bool) :=
  let free := s.logb.pend.filter (fun c => !c.2 || s.logb.flushing.contains c.1)
  match free.find? (fun c => c.1 < 96) with
  | some c => some c
  | none =>
    match free with
    | c :: _ => some c
    | [] => if s.tokens = 0 then none else s.logb.pend.head?

/-- Start the save of a chunk (R500): the copy to be written, its sequence and its payload are taken now. A token is spent
where one is present, except by a FLUSH (R502, R503). -/
def State.startSave (s : State) (c : Nat) : State :=
  let seq := (s.lastSeq c + 1) % 2 ^ 32
  let x : LogCopy := { seq, ok := true, pay := s.payload c }
  let spend := !s.logb.flushing.contains c && decide (s.tokens ≠ 0)
  let s := if spend then s.wr F.LOG_STAT_TOKENS 0 (s.tokens - 1) else s
  let k := s.olderCopy c
  let s := s.setLog (fun l => { l with
    pend := l.pend.filter (fun y => y.1 != c), writing := some (c, k, x)
    flushing := l.flushing.filter (· != c), waited := l.waited.filter (· != c), starved := l.starved.filter (· != c) })
  s.wr F.LOG_STAT_BUSY 0 1

/-- A pending save is deferred by the reserve check: counted and reported once for each save (R350, R356, R500). -/
def State.deferSave (s : State) (c : Nat) : State :=
  if s.logb.waited.contains c then s
  else
    let s := (s.setLog (fun l => { l with waited := l.waited ++ [c] })).bump F.LOG_EVT_DEFERRED 0
    let s := s.raise 0x15 0x03 { unit := itemOf c, cnt := s.rd F.LOG_EVT_DEFERRED 0 }
    if c = 111 then ((s.wr F.EST_STAT_SAVE_PEND 0 1).bump F.EST_EVT_DEFERRED 0).raise 0x0C 0x08 {} else s

/-- LOGBOOK_SAVE_START (R500, R502): `reserve`: the reserve check of the hold capacitor passes. One write runs at a time; the check
defers the saves that could start. -/
def logbookSaveStart (reserve : Bool) (s : State) : State :=
  if !s.on then s
  else
    let s := s.wr F.LOG_STAT_RESERVE_OK 0 (b2n reserve)
    if s.logb.writing.isSome then s
    else if !reserve then (s.logb.pend.filter (fun c => !s.tokenWaits.contains c.1)).foldl (fun s c => s.deferSave c.1) s
    else match s.nextSave with
      | some c => s.startSave c.1
      | none => s

/-- A sector has failed at a save of an item and a spare takes its place; fewer than 4 spares are WORN (R502, R503, R508). -/
def State.sectorLost (s : State) (item : Nat) : State :=
  let s := s.setLog (fun l => { l with bad := l.bad + 1, badItem := item })
  let s := s.wr F.LOG_STAT_SPARE 0 (10 - s.logb.bad)
  if s.rd F.LOG_STAT_SPARE 0 < 4 ∧ s.flag F.LOG_STAT_WORN 0 = false then
    (s.wr F.LOG_STAT_WORN 0 1).raise 0x15 0x05 { unit := item }
  else s

/-- LOGBOOK_SAVE_DONE (R500): the copy stands with its new sequence. `lost`: the sector used before has failed. -/
def logbookSaveDone (lost : Bool) (s : State) : State :=
  match s.logb.writing with
  | none => s
  | some (c, k, x) =>
    let s := s.setLog (fun l => { l with copies := l.copies.put (c * 2 + k) x, writing := none })
    let s := (s.wr F.LOG_STAT_BUSY 0 0).wr F.LOG_WRITES_COUNT 0 (s.rd F.LOG_WRITES_COUNT 0 + 1)
    let s := if c = 111 then s.wr F.EST_STAT_SAVE_PEND 0 0 else s
    if lost then s.sectorLost (itemOf c) else s

/-- LOG_CTL (R503): FLUSH. -/
def State.askFlush (s : State) (key : Nat) (flush : Bool) : Nat × State :=
  if !flush then (errOk, s)
  else if key ≠ 0x4C then (errRange, s)
  else if (match s.logb.flushAt with | some t => decide (s.now < t + 600000000) | none => false) = true then (errBusy, s)
  else if !s.flag F.LOG_STAT_RESERVE_OK 0 then (errState, s)
  else (errOk, s.setLog (fun l => { l with flushAt := some s.now, flushing := l.pend.map (·.1) }))

/-- A save is cut off (R500): by a loss of power its copy fails; at another chip reset the write ends (DEDUCED, log 21). The save of EST
is repeated where SAVE_PEND was set (R352). -/
def State.cutSave (s : State) (powerLost : Bool) : State :=
  let s := s.setLog (fun l => { l with again := s.flag F.EST_STAT_SAVE_PEND 0 })
  match s.logb.writing with
  | none => s
  | some (c, k, x) =>
    let s := s.setLog (fun l => { l with
      copies := l.copies.put (c * 2 + k) (if powerLost then { x with ok := false } else x), writing := none })
    if powerLost then s else s.wr F.LOG_WRITES_COUNT 0 (s.rd F.LOG_WRITES_COUNT 0 + 1)

-- The load at a chip reset

/-- Health of a segment from its cause in the map (R137, R160): 4 and 5 are open links. -/
def causeHealth (cause : Nat) : Health :=
  if cause = 0 then .good else if cause = 4 ∨ cause = 5 then .retiredLink else .retiredGate

/-- Put one entry of a loaded payload in its place. -/
def State.loadCell (s : State) (c : Nat × Nat) : State :=
  if lastTag ≤ c.1 then { s with cist := { s.cist with lastCause := s.cist.lastCause.put (c.1 - lastTag) c.2 } }
  else if healthTag ≤ c.1 then { s with health := s.health.put (c.1 - healthTag) c.2 }
  else if segTag ≤ c.1 then
    let k := c.1 - segTag
    { s with cist := { s.cist with segs := s.cist.segs.put k { s.cist.segs.at k with health := causeHealth c.2, cause := c.2 } } }
  else { s with sts := ⟨cellsPut s.sts.cells c.1 c.2⟩ }

/-- Both copies of a chunk are lost. -/
def State.chunkLost (s : State) (c : Nat) : Bool := !(s.copyAt c 0).ok && !(s.copyAt c 1).ok

/-- Exactly one copy of a chunk is lost. -/
def State.halfLost (s : State) (c : Nat) : Bool := (s.copyAt c 0).ok != (s.copyAt c 1).ok

/-- The load of one chunk (R501): the fields stand at their Reset values before it. -/
def State.loadChunk (s : State) (c : Nat) : State :=
  let a := s.copyAt c 0
  let b := s.copyAt c 1
  if s.chunkLost c then s
  else ((if a.ok && (!b.ok || decide (b.seq ≤ a.seq)) then a else b).pay).foldl State.loadCell s

/-- A chunk with one copy failing is rewritten from the good copy at once, and reported (R501). -/
def State.mendChunk (s : State) (c : Nat) : State :=
  let (k, x) := if (s.copyAt c 0).ok then (1, s.copyAt c 0) else (0, s.copyAt c 1)
  let s := s.setLog (fun l => { l with copies := l.copies.put (c * 2 + k) x })
  let s := (s.wr F.LOG_WRITES_COUNT 0 (s.rd F.LOG_WRITES_COUNT 0 + 1)).bump F.LOG_EVT_COPY_BAD 0
  s.raise 0x15 0x01 { unit := itemOf c, cnt := s.rd F.LOG_EVT_COPY_BAD 0 }

/-- A chunk with no valid copy is reported, by its item too where that has a report of its own (R501). -/
def State.reportLost (s : State) (c : Nat) : State :=
  let s := (s.bump F.LOG_EVT_LOST 0).wr F.LOG_ITEM_LOST 0 (setBit (s.rd F.LOG_ITEM_LOST 0) (itemOf c))
  let s := s.raise 0x15 0x02 { unit := itemOf c, cnt := s.rd F.LOG_EVT_LOST 0 }
  if c = 111 then (s.wr F.EST_STAT_DATA_LOST 0 1).raise 0x0C 0x09 else s

/-- Both copies of some MAP chunk of a channel are lost (R160). -/
def State.mapLost (s : State) (ch : Nat) : Bool :=
  (List.range 8).any (fun q => s.chunkLost (ch * 8 + q))

/-- The logbook is loaded (R501); `spoilt`: copies (chunk * 2 + copy) that have lost their data since. -/
def State.logLoad (s : State) (spoilt : List Nat) : State :=
  let s := s.setLog (fun l => { l with
    copies := spoilt.foldl (fun t k => t.put k { t.at k with ok := false }) l.copies
    pend := if l.again then [(111, false)] else [], again := false, flushing := [], waited := [], starved := [] })
  let chunks := List.range 113
  let half := chunks.filter s.halfLost
  let s := half.foldl State.mendChunk (chunks.foldl State.loadChunk s)
  let s := (chunks.filter s.chunkLost).foldl State.reportLost s
  let s := s.wr F.LOG_STAT_SPARE 0 (10 - s.logb.bad)
  if 7 ≤ s.logb.bad then (s.wr F.LOG_STAT_WORN 0 1).raise 0x15 0x05 { unit := s.logb.badItem } else s

end Sys2Proof.Machine
end

