-- ==== Sys2Proof/Machine/Operands.lean ====
section
/-! DEFINITION. The operands of a register access: the register and the instance that an address names for a master (R48
to R55), its present word, the word that a write would give it (R52, R54), and the checks of R56 that look at that word
alone: reserved bits, locked fields, ranges, and the conditions on the set-up that the blocks add. -/

namespace Sys2Proof.Machine

open Sys2Proof

-- Addresses

/-- The alias that an address names: 0 the base space, 1 set, 2 clear, 3 toggle (R48, R54). -/
def aliasOf (addr : Nat) : Nat := addr % 0x10000 / 0x4000

/-- The register address that an address or an alias of it names (R48). An access is of a whole word, so bits [1:0] name a
byte within it. -/
def baseOf (addr : Nat) : Nat := addr % 0x4000 / 4 * 4

/-- The metrology window (R56). -/
def inMetWindow (a : Nat) : Bool := decide (0x2600 ≤ a) && decide (a < 0x2800)

/-- The register at an address (R49, R50); page offset 0xFC holds none. -/
def findReg (a : Nat) : Option (RegSpec × Nat) := if a % 0x100 = 0xFC then none else regAt a

/-- What the window selects of a master read as (R51). -/
abbrev Sel := Fld → Nat
def selOf (s : State) (m : Nat) : Sel := fun f => s.rd f m

/-- The segment's bank within its array, as CA_SEL names it. -/
def selBank (sel : Sel) : Nat :=
  bankKey (sel F.CA_SEL_CH) (arrOf (sel F.CA_SEL_ARRAY)) (bankOf (arrOf (sel F.CA_SEL_ARRAY)) (sel F.CA_SEL_SEG))

/-- The instance of a register that a master's access reaches: by its place among like registers, or through the window of
its select register (R51, R85). -/
def instOf (sel : Sel) (m : Nat) (r : RegSpec) (i : Nat) : Nat :=
  match r.win with
  | .one => 0
  | .arr _ _ => i
  | .perMaster => m
  | .ctx => sel F.CTX_SEL_INDEX
  | .caCh => sel F.CA_SEL_CH
  | .caBank => selBank sel
  | .caSeg => segKey (sel F.CA_SEL_CH) (arrOf (sel F.CA_SEL_ARRAY)) (sel F.CA_SEL_SEG)
  | .wm => sel F.WM_SEL_MON
  | .cnt => sel F.SEQ_CNT_SEL_RAIL
  | .fh => sel F.FH_SEL_BLOCK
  | .fc => srcKey (sel F.FC_SEL_BLOCK) (sel F.FC_SEL_EVENT)
  | .ring => sel F.HR_SEL_RING
  | .ocv => sel F.EST_OCV_SEL_CHEM * 32 + sel F.EST_OCV_SEL_POINT
  | .zed => sel F.EST_Z_SEL_TPT * 8 + sel F.EST_Z_SEL_SBIN

/-- The window reaches a register at all: FC_SEL names a defined event (R309), and RG_DECL, RG_SVC and RG_IRQ belong to
record rings (R408). -/
def reached (r : RegSpec) (i : Nat) : Bool :=
  match r.win with
  | .fc => (evDefault (i / 256) (i % 256)).isSome
  | .ring => decide (8 ≤ i) || !(r.base == 0x224C || r.base == 0x2250 || r.base == 0x2254)
  | _ => true

-- Words

/-- The present value of a field for the merge of a write (R52, R54): of a banked field its staging copy, of a WO field 0. -/
def State.fieldNow (s : State) (f : Fld) (i : Nat) : Nat :=
  if f.typ = .wo then 0 else if f.banked then s.sf f i else s.show f i

/-- The word that fields spell. -/
def wordOf (fs : List Fld) (v : Fld → Nat) : Nat := fs.foldl (fun a f => a + v f * 2 ^ f.lo) 0

/-- A register's present word (R52). -/
def State.wordNow (s : State) (r : RegSpec) (i : Nat) : Nat := wordOf r.flds (fun f => s.fieldNow f i)

/-- The mask of the enabled bytes. -/
def beMask (be : Nat) : Nat :=
  (List.range 4).foldl (fun a k => if bitOf be k then a + 0xFF * 256 ^ k else a) 0

/-- The word that a write would leave: the enabled bytes change, plainly or through an alias (R52, R54). -/
def merged (al old val be : Nat) : Nat :=
  let v := mAnd val (beMask be)
  match al with
  | 0 => mAnd old (0xFFFFFFFF - beMask be) + v
  | 1 => mOr old v
  | 2 => mDiff old v
  | _ => Nat.xor old v

-- Which fields count as set-up

/-- The per-master registers, which check 3 leaves out (R56). -/
def perMasterReg (a : Nat) : Bool :=
  a == 0x220 || a == 0x604 || a == 0x1200 || a == 0x1420 || a == 0x1824 || a == 0x1E0C || a == 0x1E14 || a == 0x2220
    || a == 0x3220 || a == 0x3400 || decide (0x3F00 ≤ a)

/-- A write would give a set-up field another value (R56 check 3). -/
def State.changesSetup (s : State) (r : RegSpec) (i w : Nat) : Bool :=
  !perMasterReg r.base && r.flds.any (fun f => f.isCtl && f.ofWord w != s.fieldNow f i)

/-- A master that OWNER_POLICY does not permit (R56 check 3, R83). -/
def State.barred (s : State) (m : Master) : Bool :=
  let p := s.rd F.COMMIT_CTL_OWNER_POLICY 0
  (p == 1 && m == .twoWire) || (p == 2 && m == .pcie)

-- Reserved bits

/-- A step word among the CTX_STEP registers (R103). -/
def stepReg (a : Nat) : Bool := decide (0x630 ≤ a) && decide (a ≤ 0x66C)

/-- A reserved bit is 1 (R11, R56 check 4); of a step word, a bit that its kind leaves unused (R103); of RR_ROUTE1, bits
[31:24] (R408). -/
def reservedSet (r : RegSpec) (w : Nat) : Bool :=
  mAnd w (if r.base = 0x221C then 0xFF000000 else r.reservedMask) != 0 || (stepReg r.base && !stepClean w)

-- Locked fields

/-- The class that R280 fixes of an event. -/
def fixedClass (k : Nat) : Option Nat :=
  if k = srcKey 0x00 0x07 then some 1
  else if k = srcKey 0x01 0x02 ∨ k = srcKey 0x08 0x0A ∨ k = srcKey 0x13 0x06 then some 4 else none

/-- A write that a fixed class refuses (R280). -/
def classLocked (k w : Nat) : Bool :=
  match fixedClass k with
  | some c => F.FC_CLASS_CLASS.ofWord w != c || F.FC_CLASS_SEV_CLASS.ofWord w != c
  | none => k == srcKey 0x09 0x06 && F.FC_CLASS_SEV_CLASS.ofWord w != 0

/-- A field of FC_CLASS whose value is fixed (R280). -/
def fixedFld (f : Fld) (k : Nat) : Bool :=
  decide (f.reg = 0x3404) && (f.lo == F.FC_CLASS_SEV_CLASS.lo && (k == srcKey 0x09 0x06 || (fixedClass k).isSome)
    || f.lo == F.FC_CLASS_CLASS.lo && (fixedClass k).isSome)

/-- A field written is locked (R56 check 5): slot 0's EN by the hardware-start option (R475), a fixed class (R280). -/
def State.fieldLocked (s : State) (r : RegSpec) (i w : Nat) : Bool :=
  (r.base == 0x2C40 && i == 0 && s.flag F.OTP_OPT_WDT_HWSTART 0 && F.SLOT_CFG_EN.ofWord w == 0)
  || (r.base == 0x3404 && reached r i && classLocked i w)

-- Ranges

/-- The largest priming limit of a rail in 10 mA (R250); `pair` of its channel. -/
def primeLimitMax (rail : Nat) (pair : Bool) : Nat :=
  if rail = 0 then 2500 else if rail ≤ 12 then (if pair then 1200 else 600)
  else if rail ≤ 14 then 1500 else if rail ≤ 16 then 120 else if rail ≤ 20 then 60 else 300

/-- The threshold range of a trip comparator (R266). -/
def threshRange (t : Nat) : Nat × Nat :=
  if t < 12 then (100, 1600) else if t < 24 then (10, 700) else if t < 27 then (100, 2000)
  else if t < 30 then (100, 1000) else if t < 32 then (50, 2000) else if t < 34 then (500, 3200)
  else if t = 34 then (100, 2500) else (750, 2300)

/-- The level range of a window monitor (R276). -/
def levelRange (m : Nat) : Nat × Nat := if wmRail m then (1, 500) else (0, 12000)

/-- A value lies in a range. -/
def within (x : Nat × Nat) (v : Nat) : Bool := decide (x.1 ≤ v) && decide (v ≤ x.2)

/-- A safe-state map holds no code 0b11 (R293). -/
def mapOk (w : Nat) : Bool := (List.range 16).all (fun k => bitsOf w (2 * k + 1) (2 * k) != 3)

/-- TM_CFG names counted events and signals that exist, and not the timer's own compare output (R463, R464). -/
def timerOk (t w : Nat) : Bool :=
  let g := F.TM_CFG_GATE_SEL.ofWord w
  let c := F.TM_CFG_CAP_SEL.ofWord w
  decide (F.TM_CFG_CLK.ofWord w < 6) && signalCode g && signalCode c && g != 0x58 + t && c != 0x58 + t

/-- The ranges that depend on the instance, on another field, or on the staging pairing (R56 check 8). `rd` reads the bank
that the write goes to. -/
def rangeOk (rd : Fld → Nat → Nat) (r : RegSpec) (i w : Nat) : Bool :=
  if stepReg r.base then stepInRange w
  else match r.base with
  | 0x0B08 => within (if i < 2 then (50, 1200) else (50, 600)) (F.L_ILIM_ILIM.ofWord w)
  | 0x0C00 => F.B_CFG_PAIR.ofWord w == 0 || i % 2 == 0
  | 0x0C0C => decide (F.B_ILIM_ILIM.ofWord w ≤ (if rd F.B_CFG_PAIR i = 1 then 12000 else 6000))
  | 0x1200 => decide (F.CA_SEL_SEG.ofWord w < segsOf (arrOf (F.CA_SEL_ARRAY.ofWord w)))
  | 0x1504 => i != 0 || (F.SQ_CFG_STANDPIPE.ofWord w == 0 && F.SQ_CFG_HOLD.ofWord w == 1)
  | 0x1508 => decide (F.SQ_PRIME_A_ILIM_P.ofWord w ≤ primeLimitMax i (rd F.B_CFG_PAIR (i - 1) == 1))
  | 0x1834 => within (levelRange i) (F.WM_LVL_LO_RST_LO.ofWord w) && within (levelRange i) (F.WM_LVL_LO_WARN_LO.ofWord w)
  | 0x1838 => within (levelRange i) (F.WM_LVL_HI_RST_HI.ofWord w) && within (levelRange i) (F.WM_LVL_HI_WARN_HI.ofWord w)
  | 0x1B00 => within (threshRange i) (F.TC_CFG_THRESH.ofWord w)
  | 0x2220 => decide (F.HR_SEL_RING.ofWord w < 24)
  | 0x2248 => decide (i < 8) || F.RG_CFG_SEQ_CHK.ofWord w == 0
  | 0x2440 => !badChannel (F.MS_CFG_CH.ofWord w)
  | 0x2A40 => timerOk i w
  | 0x3210 => mapOk w
  | 0x3214 => mapOk w
  | _ => true

/-- Every field written is in range (R56 check 8). -/
def fieldsInRange (rd : Fld → Nat → Nat) (r : RegSpec) (i w : Nat) : Bool :=
  reached r i && r.flds.all (fun f => !f.isCtl || f.inRange (f.ofWord w)) && rangeOk rd r i w

-- Conditions on set-up (check 9)

/-- The rail whose banked set-up a register instance belongs to, where a paired follower refuses it (R173, R277); none
where R173 does not reach. -/
def setupRail (r : RegSpec) (i : Nat) : Option Nat :=
  if r.flds.any (·.banked) then
    if 0x0C00 ≤ r.base ∧ r.base < 0x1200 then some (i + 1)
    else if 0x1500 ≤ r.base ∧ r.base < 0x1800 then some i
    else if r.base = 0x1830 ∨ r.base = 0x1834 ∨ r.base = 0x1838 then (if i < 24 then some i else none)
    else if r.base = 0x1B00 then (if i < 24 then some (i % 12 + 1) else none)
    else if 0x1210 ≤ r.base ∧ r.base < 0x1220 then some (i + 1)
    else none
  else none

/-- The write goes to the set-up of a channel that the staging bank makes a follower (R173, R277). -/
def State.followerWrite (s : State) (r : RegSpec) (i : Nat) : Bool :=
  match setupRail r i with | some k => followerIn s.sf k | none => false

/-- The fields of a register that WDT_CFG and the like leave to their own rules: RG_BASE and RG_CFG only while the ring is
DISABLED (R408). -/
def State.ringBusy (s : State) (r : RegSpec) (i : Nat) : Bool :=
  decide (0x2240 ≤ r.base) && decide (r.base ≤ 0x2248) && s.rd F.RG_STAT_STATE i != 0

/-- RTC_TIME and RTC_DATE are written while halted only (R456). -/
def State.calendarRuns (s : State) (r : RegSpec) : Bool := (r.base == 0x2814 || r.base == 0x2818) && !s.halted

end Sys2Proof.Machine
end

