-- ==== Sys2Proof/Machine/Validate.lean ====
section
/-! DEFINITION. The commit checks 0x1 to 0x9 of R71 over one configuration bank, read through `rd`. Each check lists the
conditions that fail. The checks run in order, and the first that fails ends them; which of several failing conditions of
one check is named, the spec leaves open, and a free value picks it (log 22). -/

namespace Sys2Proof.Machine

open Sys2Proof

/-- A failing condition: the error, the address that ERR_ADDR names, and what the block's own error register holds: the
context and step of SCH_ERR, the monitor of WM_ERR, the ring code of HR_ERR. -/
structure Fail where
  err : Nat
  addr : Nat
  ctx : Option (Nat × Nat) := none
  mon : Option Nat := none
  ring : Option Nat := none
deriving DecidableEq, Repr, Inhabited

/-- A RANGE failure at an address, if it holds. -/
def failIf (c : Bool) (addr : Nat) : List Fail := if c then [{ err := errRange, addr }] else []

/-- A failure of one kind, if it holds. -/
def failAs (e : Nat) (c : Bool) (addr : Nat) : List Fail := if c then [{ err := e, addr }] else []

-- Rails of a bank

/-- The rails that rail `r` depends on under a bank (R30, R218, R223). -/
def depsIn (rd : Rd) (r : Nat) : Nat :=
  if followerIn rd r then 0
  else
    let sel := rd F.L_CFG_IN_SEL (r - 15)
    mOr (rd F.SQ_DEP_DEP r)
      (if r = 0 then 0 else if 15 ≤ r ∧ r ≤ 20 ∧ sel < 12 then 2 ^ (sel + 1) else 1)

/-- A rail belongs to the hold set (R225). -/
def holdIn (rd : Rd) (r : Nat) : Bool := r == 0 || rd F.SQ_CFG_HOLD r == 1

/-- A rail's VSET, VMIN and VMAX in mV; rail 0 and rails 21 to 23 take HDR_VSET for all three (R272). -/
def vsetIn (rd : Rd) (r : Nat) : Nat := rd (vsetFld r).1 (vsetFld r).2.1 * (vsetFld r).2.2
def vminIn (rd : Rd) (r : Nat) : Nat :=
  if r = 0 ∨ 21 ≤ r then vhdrOf rd else if r ≤ 12 then rd F.B_VLIM_VMIN (r - 1) * 5
  else if r ≤ 14 then rd F.X_VLIM_VMIN (r - 13) * 10 else rd F.L_VLIM_VMIN (r - 15) * 5
def vmaxIn (rd : Rd) (r : Nat) : Nat :=
  if r = 0 ∨ 21 ≤ r then vhdrOf rd else if r ≤ 12 then rd F.B_VLIM_VMAX (r - 1) * 5
  else if r ≤ 14 then rd F.X_VLIM_VMAX (r - 13) * 10 else rd F.L_VLIM_VMAX (r - 15) * 5

/-- A rail's committed limit in mA. -/
def ilimIn (rd : Rd) (r : Nat) : Nat :=
  if r = 0 then rd F.HDR_ILIM_ILIM 0 * 10 else if r ≤ 12 then rd F.B_ILIM_ILIM (r - 1)
  else if r ≤ 14 then rd F.X_ILIM_ILIM (r - 13) * 10 else if r ≤ 20 then rd F.L_ILIM_ILIM (r - 15)
  else rd F.S_CFG_ILIM (r - 21)

/-- The rails that are no followers under a bank. -/
def railsIn (rd : Rd) : List Nat := (List.range 24).filter (fun r => !followerIn rd r)

-- Check 0x1: contexts

/-- The contexts that are not DISABLED (R107). -/
def ctxsIn (rd : Rd) : List Nat := (List.range 128).filter (fun c => rd F.CTX_CFG_MODE c != 0)

/-- A RAIL_SET code lies within the limits that the bank commits for its rail (R107, R178). -/
def codeIn (rd : Rd) (r v : Nat) : Bool :=
  if r = 0 then within (1000, 1320) v
  else if r ≤ 12 then within (rd F.B_VLIM_VMIN (r - 1), rd F.B_VLIM_VMAX (r - 1)) v
  else if r ≤ 14 then within (rd F.X_VLIM_VMIN (r - 13), rd F.X_VLIM_VMAX (r - 13)) v
  else if r ≤ 20 then within (rd F.L_VLIM_VMIN (r - 15), rd F.L_VLIM_VMAX (r - 15)) v
  else false

/-- The converter of an ADC_BURST step has a block source stream with TRIG = STEP (R422, R423). -/
def burstIn (rd : Rd) (mc : Nat) : Bool := (blkStreams rd).any (fun i => i / 4 == mc && rd F.MS_CFG_TRIG i == 3)

/-- A step word that check 0x1 refuses (R107, R423). -/
def badStep (rd : Rd) (w : Nat) : Bool :=
  match stepKind w with
  | 0 => true
  | 1 => followerIn rd (bitsOf w 27 23)
  | 2 => followerIn rd (bitsOf w 27 23) || !codeIn rd (bitsOf w 27 23) (bitsOf w 15 0)
  | 4 => !burstIn rd (bitsOf w 27 27)
  | 8 => followerIn rd (bitsOf w 27 24 + 1)
  | _ => false

/-- A failure that SCH_ERR names (R108). -/
def ctxFail (e addr c n : Nat) : Fail := { err := e, addr, ctx := some (c, n) }

/-- The scheduler's part of check 0x1 (R107, R423). -/
def checkContexts (rd : Rd) : List Fail :=
  (ctxsIn rd).flatMap (fun c =>
    let steps := (progOf rd c).zipIdx.filterMap (fun w =>
      if badStep rd w.1 then some (ctxFail errRange (0x630 + 4 * w.2) c w.2) else none)
    let per := if rd F.CTX_PER_PERIOD c ≤ rd F.CTX_PER_MODULO c then [ctxFail errRange 0x614 c 0] else []
    let one := if rd F.CTX_CFG_ONESHOT c = 1 ∧ rd F.CTX_CFG_MODE c ≠ 2 then [ctxFail errRange 0x610 c 0] else []
    steps ++ per ++ one)

-- Check 0x1: power entry, header, X channels, LDOs, switches

/-- The power entry's part of check 0x1 (R130), and R217's bound on the feeds. -/
def checkEntry (rd : Rd) : List Fail :=
  failIf (rd F.FEED_CB_EN 0 == 0 && rd F.FEED_CB_EN 1 == 0) 0x834
  ++ (List.range 2).flatMap (fun i =>
    let en := rd F.FEED_CB_EN i == 1
    let sr := rd F.FEED_INRUSH_SR i
    let shunt := if i = 0 then rd F.PE_BOARD_SHUNT_A 0 else rd F.PE_BOARD_SHUNT_B 0
    let ov := rd F.FEED_WIN_OV i
    failIf (decide (2 * ov < rd F.FEED_WIN_UV i + rd F.FEED_WIN_UV_HYS i + 16)) (0x810 + 0x20 * i)
    ++ failIf (en && decide (12500 * rd F.FEED_CB_V_CB i < rd F.PE_BOARD_C_VSYS 0 * sr * shunt)) (0x818 + 0x20 * i)
    ++ failIf (en && decide (rd F.FEED_INRUSH_TMAX i * sr < 5 * ov)) (0x818 + 0x20 * i)
    ++ failIf (en && decide (rd F.FEED_WIN_UV i * 25 < rd F.HDR_VSET_VSET 0 + 200)) 0xA04)

/-- The X channels' part of check 0x1 (R211, R222). -/
def checkX (rd : Rd) (x : Nat) : List Fail :=
  let vset := rd F.X_VSET_VSET x
  let vmax := rd F.X_VLIM_VMAX x
  let vmin := rd F.X_VLIM_VMIN x
  let load := rd F.X_DECL_I_LOAD x
  let a := 0x40 * x
  failIf (decide (vmax < vmin)) (0xA88 + a)
  ++ failIf (!within (vmin, vmax) vset) (0xA84 + a)
  -- f_X / 10, and f_RHP / 5 with 1e12 / π
  ++ failIf (decide (6400000000 < rd F.X_CFG_FC x * 2500 * rd F.X_CFG_PERIOD x)
    || (decide (1000 < vmax) && decide (318309886183 < 25 * rd F.X_CFG_FC x * vmax * load * rd F.X_BOARD_L_DECL x)))
    (0xA80 + a)
  ++ failIf (decide (rd F.X_ILIM_ILIM x * 10 < load)) (0xA94 + a)

/-- An LDO's part of check 0x1 (R71, R214). -/
def checkLdo (old rd : Rd) (k : Nat) : List Fail :=
  let vmax := rd F.L_VLIM_VMAX k * 5
  let a := 0x10 * k
  let en := enabledIn rd (15 + k)
  let vin := match ldoInput rd k with | some r => vminIn rd r | none => vhdrOf rd
  failIf (decide (rd F.L_VLIM_VMAX k < rd F.L_VLIM_VMIN k)) (0xB04 + a)
  ++ failIf (!within (rd F.L_VLIM_VMIN k, rd F.L_VLIM_VMAX k) (rd F.L_CFG_VSET k)) (0xB00 + a)
  ++ failIf (match ldoInput rd k with
      | some r => followerIn rd r || (en && !enabledIn rd r)
      | none => false) (0xB00 + a)
  ++ failIf ((en || enabledIn old (15 + k)) && rd F.L_CFG_IN_SEL k != old F.L_CFG_IN_SEL k) (0xB00 + a)
  -- V_DO_L = 100 mV + 250 mΩ × I, both sides times 4
  ++ failIf (decide (4 * vin < 4 * vmax + 400 + rd F.L_ILIM_I_LOAD k)) (0xB04 + a)
  ++ failIf (decide (rd F.L_ILIM_ILIM k < rd F.L_ILIM_I_LOAD k)) (0xB08 + a)

/-- A load switch's part of check 0x1 (R216). -/
def checkSwitch (rd : Rd) (j : Nat) : List Fail :=
  let lim := rd F.S_CFG_ILIM j
  failIf (decide (lim < rd F.S_DECL_I_LOAD j)) (0xB74 + 0x10 * j)
  ++ failIf (decide (100 * lim < rd F.SQ_PRIME_B_C_OUT (21 + j) * rd F.SQ_PRIME_A_SR (21 + j))) (0x1508 + 0x20 * (21 + j))

/-- The header block's part of check 0x1 (R201, R211, R214, R216). -/
def checkHeader (old rd : Rd) : List Fail :=
  failIf (decide (6400000000 < rd F.HDR_CFG_FC 0 * 2500 * rd F.HDR_CFG_PERIOD 0)) 0xA00
  ++ (List.range 2).flatMap (checkX rd) ++ (List.range 6).flatMap (checkLdo old rd) ++ (List.range 3).flatMap (checkSwitch rd)

-- Check 0x1: B channels

/-- A B channel's part of check 0x1 (R193, R197). The address is that of the second field of the failing pair. -/
def checkB (old rd : Rd) (c : Nat) : List Fail :=
  let a := 0x80 * c
  let vmin := rd F.B_VLIM_VMIN c
  let vmax := rd F.B_VLIM_VMAX c
  let per := rd F.B_CFG_PERIOD c * 15625
  let either (r : Nat) : Bool := enabledIn rd r || enabledIn old r
  failIf (decide (vmax < vmin)) (0xC08 + a)
  ++ failIf (!within (vmin, vmax) (rd F.B_VSET_VSET c)) (0xC08 + a)
  ++ failIf (decide (vmin * 5 * per < 4000000 * (vhdrOf rd + 500))) (0xC00 + a)
  ++ failIf (decide (10000 * (per - 6000000) < vmax * 5 * per)) (0xC00 + a)
  ++ failIf (decide (2 * rd F.B_LOOP_SLOPE c * rd F.B_LOOP_L_DECL c < vmax * 5)) (0xC10 + a)
  ++ failIf (c % 2 == 0 && rd F.B_CFG_PAIR c != old F.B_CFG_PAIR c && (either (c + 1) || either (c + 2))) (0xC00 + a)
  ++ failIf (rd F.B_CFG_HICCUP_EN c == 1 && (List.range 24).any (fun q => inMask (depsIn rd q) (c + 1))) (0xC00 + a)
  ++ failIf (decide (rd F.B_ILIM_ILIM c < rd F.B_DECL_I_LOAD c)) (0xC0C + a)
  ++ failIf (decide (rd F.B_TEMP_T_SHUT c < rd F.B_TEMP_T_WARN c + 5)) (0xC30 + a)

/-- A follower's part of check 0x1 (R71): the settings that it takes from its leader (R173) match the paired rail's in the bank. Which
they are, DEDUCED (log 22): PERIOD, SLOPE, L_DECL, the limit and the temperature limits; PHASE is the leader's plus 32 by itself. -/
def checkFollower (rd : Rd) (c : Nat) : List Fail :=
  let a := 0x80 * c
  let apart (f : Fld) : Bool := rd f c != rd f (c - 1)
  failIf (apart F.B_CFG_PERIOD) (0xC00 + a) ++ failIf (apart F.B_ILIM_ILIM) (0xC0C + a)
  ++ failIf (apart F.B_LOOP_SLOPE || apart F.B_LOOP_L_DECL) (0xC10 + a)
  ++ failIf (apart F.B_TEMP_T_WARN || apart F.B_TEMP_T_SHUT) (0xC30 + a)

/-- The channels that are followers. -/
def followersIn (rd : Rd) : List Nat := (List.range 12).filter (fun c => followerIn rd (c + 1))

/-- The channels that are no followers. -/
def chansIn (rd : Rd) : List Nat := (List.range 12).filter (fun c => !followerIn rd (c + 1))

-- Check 0x1: sequencer

/-- The sequencer's part of check 0x1 (R245). -/
def checkSeq (rd : Rd) : List Fail :=
  let rails := railsIn rd
  let stand := rails.filter (fun r => rd F.SQ_CFG_STANDPIPE r == 1)
  let fol := maskOf 24 (followerIn rd)
  (match stand[6]? with | some r => failIf true (0x1504 + 0x20 * r) | none => [])
  ++ stand.flatMap (fun r => failIf (!holdIn rd r) (0x1504 + 0x20 * r))
  ++ (rails.filter (holdIn rd)).flatMap (fun r =>
    (railsOf (depsIn rd r)).flatMap (fun q => failIf (!holdIn rd q) (0x1504 + 0x20 * q)))
  ++ rails.flatMap (fun r => failIf (decide (mAnd (rd F.SQ_DEP_DEP r) fol ≠ 0)) (0x1500 + 0x20 * r))

-- Check 0x1: monitors and trip comparators

/-- A failure that WM_ERR names (R272). -/
def monFail (addr m : Nat) : Fail := { err := errRange, addr, mon := some m }

/-- The address of the level register of comparator `k`. -/
def levelAddr (k : Nat) : Nat := if k < 2 then 0x1834 else 0x1838

/-- A level of a rail monitor as its DAC sets it, in µV at the comparator input times the DAC's steps (R253). -/
def setLevel (rd : Rd) (mv m k : Nat) : Nat := ((levelCode rd (mv, mv) m k).getD 0) * 1200000

/-- The levels of a rail monitor at one V_REFW that do not keep their order, one DAC step plus the hysteresis apart (R272):
the level further from V_REFW. -/
def levelOrder (rd : Rd) (m mv : Nat) : List Nat :=
  let n := 2 ^ (rd F.WM_CFG_RES m + 6)
  let gap := 1200000 + hystMv (rd F.WM_CFG_HYST m) * 1000 * n
  let k := kDiv m
  let l := setLevel rd mv m
  let ref := mv * 1000 * n
  (if l 1 < l 0 + gap then [0] else []) ++ (if ref < k * (l 1 + gap) then [1] else [])
    ++ (if k * l 2 < ref + k * gap then [2] else []) ++ (if l 3 < l 2 + gap then [3] else [])

/-- A rail monitor's part of check 0x1 (R272). -/
def checkRailMon (rd : Rd) (m : Nat) : List Fail :=
  ((levelOrder rd m (vminIn rd m) ++ levelOrder rd m (vmaxIn rd m)).map (fun k => monFail (levelAddr k) m))
  ++ (match levelUv rd (vmaxIn rd m, vmaxIn rd m) m 3 with
      | some uv => if 1200000 * kDiv m < uv then [monFail 0x1838 m] else []
      | none => [])

/-- The enabled levels of an external monitor, from the lowest comparator to the highest (R262). -/
def extLevels (rd : Rd) (m : Nat) : List (Nat × Nat) :=
  (List.range 4).filterMap (fun k =>
    let v := rd (levelFld k) m
    if (k < 2 ∧ v = 0) ∨ (2 ≤ k ∧ v = 12000) then none else some (k, v))

/-- An external monitor's part of check 0x1 (R262, R272). -/
def checkExtMon (rd : Rd) (m : Nat) : List Fail :=
  let l := extLevels rd m
  (l.zip l.tail).flatMap (fun p => if p.2.2 ≤ p.1.2 then [monFail (levelAddr p.2.1) m] else [])
  ++ (if m = 24 ∧ rd F.WM_LVL_LO_RST_LO m ≠ 0 ∧ rd F.WM_LVL_LO_RST_LO m < 1450 then [monFail 0x1834 m] else [])

/-- The monitors' part of check 0x1 (R217, R272). -/
def checkMonitors (rd : Rd) : List Fail :=
  let bound := rd F.WELL_CFG_VREG 0 * 10000 - 300000 - rd F.HDR_VSET_VSET 0 * 50
  (railsIn rd).flatMap (checkRailMon rd) ++ ((List.range 8).map (24 + ·)).flatMap (checkExtMon rd)
  ++ (List.range 32).flatMap (fun m =>
    if rd F.WM_CFG_WAKE_EN m = 1 ∧ (m < 25 ∨ rd F.WM_CFG_MODE m ≠ 3) then [monFail 0x1830 m] else [])
  ++ [0, 21, 22, 23].flatMap (fun m =>
    failIf (decide (bound * 2 ^ (rd F.WM_CFG_RES m + 6) < kDiv m * setLevel rd (vhdrOf rd) m 1)) 0x1C00)

/-- The trip comparators' part of check 0x1 (R272, R331). -/
def checkTrips (rd : Rd) : List Fail :=
  let th (t : Nat) : Nat := rd F.TC_CFG_THRESH t
  let addr (t : Nat) : Nat := 0x1B00 + 4 * t
  -- a threshold in 10 mV against RST_HI as set at VMAX
  let low (t r : Nat) : Bool :=
    decide (th t * 10000 * 2 ^ (rd F.WM_CFG_RES r + 6) ≤ kDiv r * setLevel rd (vmaxIn rd r) r 3)
  (chansIn rd).flatMap (fun c =>
    failIf (decide (th c * 40 * (if rd F.B_CFG_PAIR c = 1 then 2 else 1) < 5 * rd F.B_ILIM_ILIM c)) (addr c)
    ++ failIf (low (12 + c) (c + 1)) (addr (12 + c)))
  ++ (List.range 3).flatMap (fun p => failIf (decide (th (24 + p) < rd F.HDR_ILIM_I_PH 0 + 100)) (addr (24 + p)))
  ++ (List.range 2).flatMap (fun x =>
    failIf (decide (4 * th (30 + x) < 5 * rd F.X_ILIM_ILIM x)) (addr (30 + x))
    ++ failIf (low (32 + x) (13 + x)) (addr (32 + x)))
  ++ failIf (decide (th 35 * 10 ≤ rd F.WELL_CHG_V_V_CHG 0 * rd F.WELL_PACK_CELLS 0 + 300)) (addr 35)
  ++ failIf (decide (th 34 * 10 < rd F.WELL_CFG_I_DCHG 0 * 100 + 1000)) (addr 34)

-- Check 0x1: well, estimator, safe-state map, twin, measurement, watchdog

/-- The well's part of check 0x1 (R331). -/
def checkWell (rd : Rd) : List Fail :=
  let nmc := rd F.WELL_PACK_CHEM 0 == 1
  let vcut := rd F.WELL_PACK_V_CUT 0
  let t (f : Fld) : Int := ofField 8 (rd f 0)
  failIf (!within (3, if nmc then 4 else 5) (rd F.WELL_PACK_CELLS 0)) 0x1C08
  ++ failIf (!within (if nmc then (3900, 4200) else (3400, 3650)) (rd F.WELL_CHG_V_V_CHG 0)) 0x1C0C
  ++ failIf (!within (if nmc then (2800, 3600) else (2500, 3200)) vcut || decide (vcut < rd F.WELL_CHG_V_V_PRE 0 * 20)) 0x1C08
  ++ failIf (decide (rd F.HDR_VSET_VSET 0 < rd F.WELL_CFG_VREG 0 + 30)) 0x1C00
  ++ failIf (!(decide (t F.WELL_ZONE_T1 < t F.WELL_ZONE_T2) && decide (t F.WELL_ZONE_T2 < t F.WELL_ZONE_T3)
    && decide (t F.WELL_ZONE_T3 < t F.WELL_ZONE_T4))) 0x1C18

/-- The estimator's part of check 0x1 (R351). -/
def checkEst (rd : Rd) : List Fail :=
  let v (i : Nat) : Nat := rd F.EST_OCV_V (rd F.WELL_PACK_CHEM 0 * 32 + i)
  failIf ((List.range 31).any (fun i => decide (v (i + 1) ≤ v i))) 0x1E10
  ++ failIf (decide (rd F.EST_LVL_SOC_WARN 0 ≤ rd F.EST_LVL_SOC_CRIT 0)) 0x1E04
  ++ failIf (decide (rd F.EST_LVL_I_EOD 0 ≤ rd F.WELL_CHG_I_I_TERM 0)) 0x1E04

/-- The safe-state map's code of a rail in a bank (R293). -/
def mapCode (rd : Rd) (r : Nat) : Nat :=
  if r < 16 then bitsOf (rd F.SAFE_MAP0_MAP 0) (2 * r + 1) (2 * r)
  else bitsOf (rd F.SAFE_MAP1_MAP 0) (2 * (r - 16) + 1) (2 * (r - 16))

/-- Every defined event (R279). -/
def allEvents : List Nat :=
  (List.range 23).flatMap (fun b => (List.range (evClasses b).length).map (fun e => srcKey b (e + 1)))

/-- The fault block's part of check 0x1 (R296). -/
def checkSafeMap (rd : Rd) : List Fail :=
  (railsIn rd).flatMap (fun r => failIf (mapCode rd r == 2 && (railsOf (depsIn rd r)).any (fun q => mapCode rd q != 2))
    (if r < 16 then 0x3210 else 0x3214))
  ++ allEvents.flatMap (fun k => failIf ((rd F.FC_CLASS_CLASS k == 2 || rd F.FC_CLASS_SEV_CLASS k == 2)
    && !(railsIn rd).any (fun r => rd F.SQ_CFG_GROUP r == rd F.FC_CLASS_GROUP k)) 0x3404)

/-- The twin block's part of check 0x1 (R376). -/
def checkTwin (rd : Rd) : List Fail :=
  let used := (List.range 8).filter (usedSlot rd)
  ((List.range 8).filter (fun k => rd F.TW_SLOT_RAIL k != 0xFF)).flatMap (fun k =>
    let r := rd F.TW_SLOT_RAIL k
    failIf (used.contains k && used.any (fun j => decide (j < k) && rd F.TW_SLOT_RAIL j == r)
      || followerIn rd r
      || used.contains k && decide (5 * vminIn rd r * rd F.WM_LVL_LO_WARN_LO r < rd F.TW_SLOT_DROOP k * ilimIn rd r)) (0x2010 + 4 * k))

/-- The measurement block's part of check 0x1 (R423). -/
def checkMeas (rd : Rd) : List Fail :=
  let size (mc : Nat) : Nat := (List.range 4).foldl (fun a j => a + streamSize rd (mc * 4 + j)) 0
  let last (mc : Nat) : Nat := ((List.range 4).filter (fun j => streamSize rd (mc * 4 + j) != 0)).foldl max 0
  let src := rd F.MEAS_BLK_SRC 0
  let same (f : Fld) : Bool := rd f src == rd f (src + 4)
  (List.range 2).flatMap (fun mc => failIf (decide (16 < size mc)) (0x2440 + 0x10 * (mc * 4 + last mc)))
  ++ (List.range 8).flatMap (fun i => failIf (rd F.MS_CFG_TRIG i == 2 && rd F.MS_CFG_BLOCKS i == 0) (0x2440 + 0x10 * i))
  ++ failIf (rd F.MEAS_BLK_EN 0 == 1 && (blkStreams rd).any (fun i => rd F.MS_CFG_TRIG i == 0)) 0x2404
  ++ failIf (rd F.MEAS_BLK_PAIR 0 == 1 && (decide (3 < src)
    || !([F.MS_CFG_TRIG, F.MS_CFG_SLOTS_LOG2, F.MS_CFG_FRAME_DIV, F.MS_CFG_BLOCKS, F.MS_FILT_N, F.MS_FILT_AVG,
      F.MS_FILT_SHIFT].all same))) 0x2404

/-- The watchdog's part of check 0x1 (R484). -/
def checkWdt (hw : Bool) (rd : Rd) : List Fail :=
  let on := (List.range 16).filter (fun i => rd F.SLOT_CFG_EN i == 1)
  on.flatMap (fun i =>
    failIf (decide (rd F.SLOT_CLOSE_CLOSE i < rd F.SLOT_CFG_OPEN i + 10)) (0x2C44 + 0x10 * i)
    ++ failIf (decide (rd F.WDT_CFG_GRACE 0 * 100000 < rd F.SLOT_CLOSE_CLOSE i)) 0x2C00)
  ++ failIf (hw && on.isEmpty) 0x2C40

/-- Check 0x1: cross-field consistency (R71). -/
def check1 (hw : Bool) (old rd : Rd) : List Fail :=
  checkContexts rd ++ checkEntry rd ++ checkHeader old rd ++ (chansIn rd).flatMap (checkB old rd)
  ++ (followersIn rd).flatMap (checkFollower rd) ++ checkSeq rd
  ++ checkMonitors rd ++ checkTrips rd ++ checkWell rd ++ checkEst rd ++ checkSafeMap rd ++ checkTwin rd ++ checkMeas rd
  ++ checkWdt hw rd

-- Checks 0x2 to 0x5

/-- The rails that rail `r` depends on, directly or through others. -/
def reachIn (rd : Rd) (r : Nat) : Nat :=
  iterMask (fun m => (railsOf m).foldl (fun a q => mOr a (depsIn rd q)) m) 24 (depsIn rd r)

/-- Check 0x2: cycles, and group order (R30, R218, R245). -/
def check2 (rd : Rd) : List Fail :=
  let rails := railsIn rd
  let auto (r : Nat) : Bool := decide (rd F.SQ_CFG_GROUP r < 8) && bitOf (rd F.SEQ_CFG_AUTO_GROUPS 0) (rd F.SQ_CFG_GROUP r)
  (match rails.find? (fun r => inMask (reachIn rd r) r) with
    | some r => [{ err := errDepCycle, addr := 0x1500 + 0x20 * r }]
    | none => [])
  ++ (if rd F.SEQ_CFG2_GROUP_ORDER 0 = 1 then
      (rails.filter auto).flatMap (fun r => failAs errDepCycle ((railsOf (depsIn rd r)).any (fun q =>
        !auto q || decide (rd F.SQ_CFG_GROUP r < rd F.SQ_CFG_GROUP q))) (0x1500 + 0x20 * r))
    else [])

/-- Check 0x3: the power-good deadline of a rail against t_min (R72). -/
def lateGood (rd : Rd) (r : Nat) : Bool :=
  let v := vsetIn rd r
  let dl := rd F.SQ_PRIME_B_PG_DL r
  let q := rd F.WM_CFG_PGQ r
  let sr := rd F.SQ_PRIME_A_SR r
  let i := rd F.SQ_PRIME_A_ILIM_P r
  decide (10 * dl * sr < 100 * v + 10 * q * sr)
    || decide (100 * dl * i < v * rd F.SQ_PRIME_B_C_OUT r + 100 * q * i)

/-- Check 0x3 (R72, R245). -/
def check3 (rd : Rd) : List Fail := (railsIn rd).flatMap (fun r => failAs errDeadline (lateGood rd r) (0x150C + 0x20 * r))

/-- Check 0x4 (R107): required times, and launch stroke times (CTX_LAUNCH, R114) against the swap time; none at the DEFAULTS load. -/
def check4 (swap : Option Nat) (rd : Rd) : List Fail :=
  (ctxsIn rd).flatMap (fun c =>
    (if rd F.CTX_CFG_DEADLINE c < requiredTime (progOf rd c) then [ctxFail errDeadline 0x610 c 0] else [])
    ++ (match swap with
        | some t => if rd F.CTX_CFG_MODE c = 1 ∧ rd F.CTX_LAUNCH_TIME c ≤ t then [ctxFail errDeadline 0x620 c 0] else []
        | none => []))

/-- The largest number of a list's members that share one value of `f`. -/
def mostAlike (f : Nat → Nat) (l : List Nat) : Nat :=
  l.foldl (fun a c => max a ((l.filter (fun d => f d == f c)).length)) 0

/-- The contexts that check 0x5 counts in a slot: PERIODIC ones by their slot, ABSOLUTE ones by that of their launch. -/
def periodicIn (rd : Rd) (s : Nat) : List Nat :=
  (ctxsIn rd).filter (fun c => rd F.CTX_CFG_MODE c == 2 && rd F.CTX_SLOT_SLOT c == s)
def absoluteIn (rd : Rd) (s : Nat) : List Nat :=
  (ctxsIn rd).filter (fun c => rd F.CTX_CFG_MODE c == 1 && slotUp (rd F.CTX_LAUNCH_TIME c) / 256 % 256 == s)

/-- The launches that check 0x5 counts in a slot (R108). -/
def launchesIn (rd : Rd) (s : Nat) : Nat :=
  let per := periodicIn rd s
  ((per.map (rd F.CTX_PER_PERIOD)).eraseDups.map (fun p =>
    mostAlike (rd F.CTX_PER_MODULO) (per.filter (fun c => rd F.CTX_PER_PERIOD c == p)))).foldl (· + ·) 0
  + mostAlike (fun c => slotUp (rd F.CTX_LAUNCH_TIME c) / 0x10000) (absoluteIn rd s)

/-- Check 0x5 (R108). The context named is the highest-indexed one of the slot (DEDUCED, log 22). -/
def check5 (rd : Rd) : List Fail :=
  (List.range 256).flatMap (fun s =>
    if launchesIn rd s ≤ 8 then []
    else
      let c := (periodicIn rd s ++ absoluteIn rd s).foldl max 0
      [ctxFail errSlotFull (if rd F.CTX_CFG_MODE c = 2 then 0x618 else 0x620) c 0])

-- Checks 0x6 to 0x9

/-- A declared load above the rail's present limit (R157). -/
def overRating (iEff : Nat → Nat) (rd : Rd) (c : Nat) : Bool :=
  let lim := rd F.B_ILIM_ILIM c
  let l := if rd F.B_CFG_PAIR c = 1 then min lim (2 * min (iEff c) (iEff (c + 1))) else min lim (iEff c)
  decide (l < loadOf rd (c + 1))

/-- A sum of R31 above its limit in W: the declared-load field at which the running sum first exceeds it (DEDUCED, log
22). -/
def overSum (f : Nat → Frac) (base : Frac) (watts : Nat) : List Fail :=
  match firstOver f (watts * 1000000) ((List.range 23).map (· + 1)) base with
  | some r => [{ err := errBudget, addr := declAddr r }]
  | none => []

/-- Check 0x6 (R31, R157, R214, R296, R331, R351). -/
def check6 (iEff : Nat → Nat) (rd : Rd) : List Fail :=
  let none0 : Frac := ⟨0, 1⟩
  let only (p : Nat → Bool) (f : Nat → Frac) (r : Nat) : Frac := if p r then f r else none0
  (chansIn rd).flatMap (fun c => failAs errBudget (overRating iEff rd c) (0xC2C + 0x80 * c))
  ++ (List.range 6).flatMap (fun k => failAs errBudget ((ldoLoss rd k).gt ⟨if k < 2 then 1000000 else 500000, 1⟩) (0xB08 + 0x10 * k))
  ++ overSum (vhdrPower rd) overheadUw 300 ++ overSum (polOut rd) none0 90 ++ overSum (packageLoss rd) overheadUw 11
  ++ overSum (only (holdIn rd) (vhdrPower rd)) overheadUw 200
  ++ failAs errBudget ((vhdrSum rd (fun r => mapCode rd r == 2)).gt ⟨200000000, 1⟩) 0x3210
  ++ failAs errBudget (overDischarge rd (holdSum rd)) 0x1C00
  ++ failAs errBudget (rd F.WELL_HO_HO_LEAD 0 != 0 && overDischarge rd (headerSum rd)) 0x1C04
  ++ failAs errBudget (rd F.EST_CFG_LEARN_EN 0 == 1 && overDischarge rd (headerSum rd)) 0x1E00

/-- A rail's telemetry records per second (R402). -/
def telRate (rd : Rd) (r : Nat) : Frac :=
  let (w, d) :=
    if r = 0 then (rd F.HDR_TEL_TEL_WIN 0, rd F.HDR_TEL_REC_DIV 0)
    else if r ≤ 12 then (rd F.B_TEL_TEL_WIN (r - 1), rd F.B_TEL_REC_DIV (r - 1))
    else if r ≤ 14 then (rd F.X_TEL_TEL_WIN (r - 13), rd F.X_TEL_REC_DIV (r - 13))
    else (rd F.LS_TEL_TEL_WIN 0, rd F.LS_TEL_REC_DIV 0)
  if w * d = 0 then ⟨0, 1⟩ else ⟨100000, w * d⟩

/-- The sample blocks per second (R411, R420). -/
def blockRate (rd : Rd) : Frac :=
  match blkStreams rd with
  | [] => ⟨0, 1⟩
  | i :: l =>
    let k := l.length + 1
    let avg := rd F.MS_FILT_AVG i + 1
    if rd F.MS_CFG_TRIG i = 0 then ⟨0, 1⟩
    else if rd F.MS_FILT_N i = 0 then
      ⟨k * 125000 * 2 ^ rd F.MS_CFG_SLOTS_LOG2 i, (rd F.MS_CFG_FRAME_DIV i + 1) * avg * 8⟩
    else ⟨k * 65, avg * 8⟩

/-- The record ring of a type in a bank; none while its route is off (R398). -/
def routeIn (rd : Rd) (t : Nat) : Option Nat :=
  if bitOf (rd F.RR_ROUTE_EN_EN 0) (t - 1) then
    some (if t ≤ 8 then bitsOf (rd F.RR_ROUTE0_RING 0) (4 * t - 1) (4 * t - 4)
      else bitsOf (rd F.RR_ROUTE1_RING 0) (4 * t - 33) (4 * t - 36))
  else none

/-- The periodic rate of the sources routed to record ring `r` (R402). -/
def periodicRate (rd : Rd) (r : Nat) : Frac :=
  let on (t : Nat) (x : Frac) : Frac := if routeIn rd t = some r then x else ⟨0, 1⟩
  let est := rd F.EST_REC_REC_DIV 0
  Frac.sum [on 0x01 (Frac.sum ((railsIn rd).map (telRate rd))), on 0x02 (blockRate rd),
    on 0x0A (if est = 0 then ⟨0, 1⟩ else ⟨4, est⟩), on 0x07 ⟨4, 1⟩]

/-- The record rings that check 0x7 covers: ACTIVE, or named by an enabled route (R402). -/
def State.checkedRings (s : State) (rd : Rd) : List Nat :=
  (List.range 16).filter (fun r =>
    s.rd F.RG_STAT_STATE (8 + r) == 1 || (List.range 14).any (fun t => routeIn rd (t + 1) == some r))

/-- A failure that HR_ERR names (R402). -/
def ringFail (addr r : Nat) : Fail := { err := errBudget, addr, ring := some (8 + r) }

/-- Check 0x7 (R402, R420). For the total, HR_ERR names the ring of the largest rate (DEDUCED, log 22). -/
def State.check7 (s : State) (rd : Rd) : List Fail :=
  let rings := s.checkedRings rd
  let rate (r : Nat) : Nat := rd F.RG_DECL_RATE (8 + r)
  let total := (rings.map rate).foldl (· + ·) 0
  let big := rings.foldl (fun a r => if rate a < rate r then r else a) (rings.headD 0)
  (if 2500000000 < total * 256 then [ringFail 0x224C big] else [])
  ++ rings.flatMap (fun r =>
    (if tooShallow (2 ^ s.rd F.RG_CFG_DEPTH_LOG2 (8 + r)) (rate r) (rd F.RG_SVC_SVC (8 + r)) then [ringFail 0x2250 r] else [])
    ++ (if (periodicRate rd r).gt ⟨rate r, 1⟩ then [ringFail 0x224C r] else []))

/-- The twin set under a bank differs from the active one: EN, or a slot used in either (R376). -/
def State.twinSlotsChanged (s : State) (rd : Rd) : List Nat :=
  (List.range 8).filter (fun k => entryOf rd k != entryOf s.cf k)

/-- The partner's staging twin set agrees with the bank, the commit has a time and the link is up: a coordinated commit
(R376). -/
def State.mayCoordinate (s : State) (rd : Rd) : Bool :=
  s.twin.mirror.isSome && (twinDiff rd s.pMirror 88).isEmpty && decide (s.commit.at_ ≠ 0) && s.flag F.TW_STAT_HB 0

/-- The states in which a change of the twin set needs coordination (R376). -/
def twinBound (st : Nat) : Bool := decide (3 ≤ st) && decide (st ≤ 7)

/-- Check 0x8 passes on the bank alone (R376). -/
def State.twinPasses (s : State) (rd : Rd) : Bool :=
  let changed := rd F.TW_CFG_EN 0 != s.cf F.TW_CFG_EN 0 || !(s.twinSlotsChanged rd).isEmpty
  s.twin.mirror.isNone || ((twinDiff rd s.pMirror 24).isEmpty && !(changed && twinBound s.twSt))

/-- Check 0x8 (R376). -/
def State.check8 (s : State) (rd : Rd) : List Fail :=
  if s.twinPasses rd || s.mayCoordinate rd then []
  else
    let k := (twinDiff rd s.pMirror 24 ++ s.twinSlotsChanged rd).head?
    [{ err := errTwin, addr :=
        if rd F.TW_CFG_EN 0 ≠ s.cf F.TW_CFG_EN 0 then 0x2000 else match k with | some k => 0x2010 + 4 * k | none => 0x2000 }]

/-- Check 0x9: metrology set-up on a part without the die (R71). -/
def State.check9 (s : State) (rd : Rd) : List Fail :=
  failAs errNotFitted (!s.flag F.ID_MET_FITTED 0 && (rd F.MET_CFG_CADENCE 0 != F.MET_CFG_CADENCE.rst
    || rd F.MET_CFG_PULSE_QTY 0 != F.MET_CFG_PULSE_QTY.rst)) 0x2600

/-- The checks of R71 in their order, each with its number; the DEFAULTS load leaves out 0x8 and the launch times (R107,
R496). -/
def State.checks (s : State) (load : Bool) (swap : Nat) (old rd : Rd) : List (Nat × List Fail) :=
  [(1, check1 (s.flag F.OTP_OPT_WDT_HWSTART 0) old rd), (2, check2 rd), (3, check3 rd),
   (4, check4 (if load then none else some swap) rd), (5, check5 rd), (6, check6 (s.rd F.CA_STAT_I_EFF) rd), (7, s.check7 rd),
   (8, if load then [] else s.check8 rd), (9, s.check9 rd)]

/-- The first check that fails, with its failing conditions. -/
def firstFailing (l : List (Nat × List Fail)) : Option (Nat × List Fail) := l.find? (fun x => !x.2.isEmpty)

end Sys2Proof.Machine
end

