-- ==== Sys2Proof/Machine/Commit.lean ====
section
/-! DEFINITION. The commit engine (R19, R20, R66 to R74): GO, ABORT and DISCARD, the end of validation, the swap with all
that follows from a changed active bank, the copy into the staging bank, and the ownership of the staging bank. -/

namespace Sys2Proof.Machine

open Sys2Proof

-- The bank as words

/-- The instances of a register in a bank. -/
def RegSpec.instances (r : RegSpec) : List Nat :=
  match r.win with
  | .arr _ n => List.range n
  | .ctx => List.range 128
  | .caCh => List.range 12
  | .wm => List.range 32
  | .fc => allEvents
  | .ring => (List.range 24).filter (fun i => reached r i)
  | .ocv => List.range 64
  | _ => [0]

/-- The words of a bank that one register holds, by address and instance. A context's launch time is two words (R66). -/
def bankWordsOf (rd : Rd) (r : RegSpec) : List ((Nat × Nat) × Nat) :=
  let fs := r.flds.filter (·.banked)
  if fs.isEmpty then [] else r.instances.map (fun i => ((r.addrOf i, i), wordOf fs (fun f => rd f i)))

/-- Put a word at its place in ascending order. -/
def putWord (w : (Nat × Nat) × Nat) : List ((Nat × Nat) × Nat) → List ((Nat × Nat) × Nat)
  | [] => [w]
  | x :: xs => if x.1.1 < w.1.1 ∨ (x.1.1 = w.1.1 ∧ x.1.2 < w.1.2) then x :: putWord w xs else w :: x :: xs

/-- Every word of a bank, in ascending order of address, then instance (DEDUCED, log 23). -/
def bankWords (rd : Rd) : List Nat :=
  let launch := (List.range 128).flatMap (fun c =>
    [((0x620, c), rd F.CTX_LAUNCH_TIME c % 2 ^ 32), ((0x624, c), rd F.CTX_LAUNCH_TIME c / 2 ^ 32)])
  ((regTable.flatMap (bankWordsOf rd) ++ launch).foldr putWord []).map (·.2)

/-- CRC-32C over the active bank (R83). -/
def State.activeCrc (s : State) : Nat := crc32c ((bankWords s.act.rd).flatMap (bytes 4))

/-- HR_RATE (R402): the declared record total in kbit/s. -/
def State.declaredRate (s : State) : Nat :=
  ((List.range 16).map (fun r => s.cf F.RG_DECL_RATE (8 + r))).foldl (· + ·) 0 * 256 / 1000

/-- ACTIVE_CRC and HR_RATE follow the active bank. -/
def State.bankFacts (s : State) : State := s.wr F.ACTIVE_CRC_CRC 0 s.activeCrc |>.wr F.HR_RATE_TOTAL 0 s.declaredRate

-- What follows from a changed active bank

/-- A channel's pairing takes effect (R7, R175, R228): the follower's stage and step become FOLLOWER, or OFF at the end of
the pairing. A LOST channel stays LOST. -/
def State.pairRail (s : State) (r : Nat) : State :=
  if followerIn s.cf r then
    if s.follower r then s
    else
      let s := s.stageOff r false
      let s := { s with seq := { s.seq with
        joinAfterRamp := clrBit s.seq.joinAfterRamp r, finishRamp := clrBit s.seq.finishRamp r, lead := clrBit s.seq.lead r } }
      (if s.stgLost r then s else s.setStg r 9).setStep r 0xB
  else if s.follower r then
    (if s.stg r = 9 then s.setStg r (if (s.stages.at r).gone then 0xA else 0) else s).setStep r 0
  else s

/-- The pairings of the active bank take effect. -/
def State.pairApply (s : State) : State := (List.range 13).foldl State.pairRail s

/-- A rail's setpoint field has changed at a swap: a rail that is on moves to it, and a setpoint that a RAIL_SET had set ends
(R178). -/
def State.setpointSwap (s0 s : State) (r : Nat) : State :=
  if 21 ≤ r ∨ s0.bankSet r = s.bankSet r then s
  else
    let st := s.stgThrough r
    let s := s.setSt r (fun x => { x with setpt := some (s0.setCode r) })
    let s := if st = 0 ∨ st = 9 ∨ st = 0xA then s else s.moveSet r (s.bankSet r)
    s.setSt r (fun x => { x with setpt := none })

/-- A swap has changed the pack's set-up: the learned fields return to their Reset values (R350). -/
def State.estApply (s0 s : State) : State :=
  if [F.WELL_PACK_CHEM, F.WELL_PACK_CELLS, F.EST_CFG_C_RATED].any (fun f => s0.cf f 0 != s.cf f 0) then s.forgetPack else s

/-- The power path acts on a new active bank: feeds, pairs, setpoints, limits, monitors, the well. -/
def State.applyPower (s0 s : State) : State :=
  let s := s.entryApply.pairApply.adaptApply.settle
  let s := ((List.range 21).foldl (State.setpointSwap s0) s).limits
  ((State.estApply s0 (State.tripApply s0 (State.relevelAll s0 s).cmpApply)).wellSettle).hoShow

/-- The timed blocks act on a new active bank. -/
def State.applyTimed (s0 s : State) : State :=
  State.wdtApply s0 (State.measApply s0 (State.tbApply s0 (State.schApply s0 s)))

/-- Every block acts on a new active bank, where `s` has replaced `s0` (R66, R70). -/
def State.applyBank (s0 s : State) : State :=
  (State.metApply s0 (State.twApply s0 (State.applyTimed s0 (State.applyPower s0 s.bankFacts)))).judgeRate

-- Ownership

/-- The owner of the staging bank as COMMIT_STAT.OWNER codes it (R83). -/
def State.owner (s : State) : Nat := s.rd F.COMMIT_STAT_OWNER 0

/-- A master is kept out by the other's ownership (R69). -/
def State.ownedByOther (s : State) (m : Master) : Bool := s.owner != 0 && s.owner != masterCode m

/-- Reload the staging bank from the active bank and release ownership (R69). -/
def State.reloadStaging (s : State) : State := ({ s with stag := s.act } : State).wr F.COMMIT_STAT_OWNER 0 0

/-- The owner's idle count starts anew at an access of its own to the staging bank or to COMMIT_CTL (R69). -/
def State.ownerAccess (s : State) (m : Master) : State :=
  if s.owner = masterCode m then { s with commit := { s.commit with ownAt := s.now } } else s

/-- OWNERSHIP_IDLE_RELEASE (R69): tOWN_IDLE has passed; the count is held while a commit is under way. -/
def ownershipIdleRelease (s : State) : State :=
  if s.owner = 0 ∨ s.committing = true then s else s.reloadStaging

-- GO, ABORT, DISCARD

/-- The sampled commit stroke time (R73, R83). -/
def State.commitAt (s : State) : Nat := s.rd F.COMMIT_AT_HI_AT 0 * 2 ^ 32 + s.rd F.COMMIT_AT_LO_AT 0

/-- Why GO is refused (R69, R73, R74, R295). The 2^24 strokes are judged on the time as written, 'already passed' at the end of
validation on the time rounded up to its slot (DESIGN CHOICE, log 23: R73 does not say which). -/
def State.goErr (s : State) (m : Master) : Nat :=
  if s.ownedByOther m then errLocked
  else if s.committing then errBusy
  else if s.safe then errState
  else if s.commitAt ≠ 0 ∧ s.tb.everLocked = false then errState
  else if 2 ^ 24 * 0x10000 < s.commitAt - s.tb.now then errRange
  else errOk

/-- GO is accepted: the stroke time is sampled and validation starts (R70, R83). -/
def State.goNow (s : State) : State :=
  let s := { s with commit := { s.commit with at_ := s.commitAt, heldBack := false, coord := false, copying := false } }
  s.wr F.COMMIT_STAT_STATE 0 1 |>.wr F.COMMIT_STAT_ERR 0 0 |>.wr F.COMMIT_STAT_CHECK 0 0 |>.wr F.COMMIT_STAT_ERR_ADDR 0 0

/-- COMMIT_CTL with its action bits (R69, R70, R74): more than one of them is RANGE (DEDUCED, log 23). A DISCARD by a master that does
not own the bank is LOCKED also while a commit is under way, where R74 alone would say BUSY (DESIGN CHOICE, log 23). -/
def State.askCommit (s : State) (m : Master) (go abort discard : Bool) : Nat × State :=
  if 1 < b2n go + b2n abort + b2n discard then (errRange, s)
  else if go then
    (match s.goErr m with | 0 => (errOk, s.goNow) | e => (e, s))
  else if abort then
    (errOk, if s.committing && !s.commit.copying then s.commitEnd 5 errOk 0 0 else s)
  else if discard then
    if s.ownedByOther m then (errLocked, s)
    else if s.committing then (errBusy, s)
    else (errOk, s.reloadStaging)
  else (errOk, s)

-- The end of validation

/-- The three blocks' own error registers after a failed commit (R108, R276, R408). -/
def State.failBlocks (s : State) (x : Fail) : State :=
  let c := x.ctx.getD (0, 0)
  s.wr F.SCH_ERR_VALID 0 (b2n x.ctx.isSome) |>.wr F.SCH_ERR_CTX 0 c.1 |>.wr F.SCH_ERR_STEP 0 c.2
    |>.wr F.WM_ERR_VALID 0 (b2n x.mon.isSome) |>.wr F.WM_ERR_MON 0 (x.mon.getD 0)
    |>.wr F.HR_ERR_VALID 0 (b2n x.ring.isSome) |>.wr F.HR_ERR_RING 0 (x.ring.getD 0)

/-- One of several failing conditions; which, the spec leaves open (log 22). -/
def State.pickFail (s : State) (l : List Fail) : Fail := l.getD (Config.failPick s.free % l.length) default

/-- A commit ends FAILED at check `n` (R71). -/
def State.failAt (s : State) (n : Nat) (l : List Fail) : State :=
  let x := s.pickFail l
  let s := (if l.length = 1 then s else s.drawn).failBlocks x
  s.commitEnd 4 x.err n x.addr

/-- The stroke time of the swap, as the end of validation knows it: the sampled time rounded up to a slot, or the next
stroke boundary (R73). -/
def State.swapTime (s : State) : Nat :=
  if s.commit.at_ = 0 then (s.tb.now / 0x10000 + 1) * 0x10000 else slotUp s.commit.at_

/-- What check 0x4 takes as the swap time (R107). -/
def State.swapGuess (s : State) : Nat := if s.commit.at_ = 0 then s.tb.now + 0x10000 else slotUp s.commit.at_

/-- VALIDATION_END (R70, R71, R73): the first failing check ends the commit; a stroke time, rounded up to its slot (DESIGN CHOICE, log
23), that has passed meanwhile is DEADLINE (its CHECK and ERR_ADDR DEDUCED, log 23); otherwise the commit is PENDING, with the coefficients that validation has derived
(R201). -/
def validationEnd (s : State) : State :=
  if s.commitSt ≠ 1 then s
  else
    let rd : Rd := fun f i => s.sf f i
    match firstFailing (s.checks false s.swapGuess (fun f i => s.cf f i) rd) with
    | some (n, l) => s.failAt n l
    | none =>
      let t := s.swapTime
      if t < s.tb.now then s.failAt 0 [{ err := errDeadline, addr := 0x204 }]
      else
        let coefs : Tab Coefs := derivedRails.foldl (fun l r => l.put r (derivedCoefs rd r)) {}
        ({ s with commit := { s.commit with swapAt := t, coord := !s.twinPasses rd, coefs } } : State).wr F.COMMIT_STAT_STATE 0 2

-- The swap

/-- A drain or a power-state transition is in progress, which holds a swap (R20; DEDUCED, log 23: a hand-over and a
hand-back count as transitions). -/
def State.holdsSwap (s : State) : Bool :=
  s.draining || s.power.inReset || s.power.afterCutoff.isSome || s.power.resetAfterDrain.isSome || s.well.leadPend
    || s.rd F.WELL_STAT_HO 0 == 1 || s.rd F.WELL_STAT_HO 0 == 2 || s.rd F.WELL_STAT_HO 0 == 5

/-- A coordinated commit may swap (R376): the partner's mirror, received within tMIRROR (40 µs) before, shows a PENDING or
DONE commit with the same swap time. -/
def State.partnerSwaps (s : State) : Bool :=
  let m := s.pMirror
  s.twin.mirror.isSome && decide (s.now ≤ s.twin.mirrorAt + 40) && (mirAt m 6 1 == 2 || mirAt m 6 1 == 3)
    && mirAt m 16 8 == s.commit.swapAt

/-- The banks exchange, the derived coefficients come into force (R170), and every block acts on the new active bank (R70). -/
def State.exchange (s : State) : State :=
  let t := { s with act := s.stag, stag := s.act, commit := { s.commit with copying := true, heldBack := false } }
  let t := t.setCoefs t.commit.coefs.at
  let t := t.wr F.COMMIT_SEQ_COUNT 0 (t.rd F.COMMIT_SEQ_COUNT 0 + 1) |>.wr F.SWAP_TIME_TIME 0 t.tb.now
  State.applyBank s t

/-- The stroke time of the swap begins: where it is the next slot of this stroke, the time moves there and its launches are
still to come, since the swap comes first (R74). -/
def State.toSwap (s : State) : State :=
  if s.commit.swapAt ≤ s.tb.now then s
  else
    let s := s.clockTicks 3 (s.commit.swapAt - s.tb.now)
    { s with tb := { s.tb with now := s.commit.swapAt }, sched := { s.sched with inSlot := 0, served := false } }

/-- The swap is due: its time has come, or comes with the next slot of this stroke; a swap that was held is due at a stroke
boundary (R20). -/
def State.swapDue (s : State) : Bool :=
  if s.commit.heldBack then s.angle == 0
  else decide (s.commit.swapAt ≤ s.tb.now)
    || (s.sched.served && decide (s.commit.swapAt / 0x10000 = s.strokes) && decide (s.commit.swapAt ≤ (s.tb.now / 256 + 1) * 256))

/-- COMMIT_SWAP (R20, R70, R376). -/
def commitSwap (s : State) : State :=
  if s.on = false ∨ s.commitSt ≠ 2 ∨ s.commit.copying = true ∨ s.swapDue = false then s
  else if s.holdsSwap then { s with commit := { s.commit with heldBack := true } }
  else
    let s := s.toSwap
    if s.commit.coord && !s.partnerSwaps then (s.failAt 8 [{ err := errTwin, addr := 0x2000 }]).coordFailed
    else s.exchange

/-- A swap whose time has come is made before a launch or a command of that time (R74). -/
def State.swapFirst (s : State) : State := if s.commit.swapAt ≤ s.tb.now then commitSwap s else s

/-- What the steps of the stroke time in a command have skipped is judged (R100), after a swap whose time has come with them (R74). -/
def State.skipFollow (s : State) : State :=
  match s.sched.skip with
  | some a => ({ s with sched := { s.sched with skip := none } } : State).swapFirst.skipRules a
  | none => s

/-- COMMIT_COPY_DONE (R69, R70): the staging bank is a copy of the active bank, the commit DONE, the owner none. -/
def commitCopyDone (s : State) : State :=
  if !s.commit.copying then s
  else
    ({ s with commit := { s.commit with copying := false } }.reloadStaging).wr F.COMMIT_STAT_STATE 0 3

end Sys2Proof.Machine
end

