-- ==== Sys2Proof/Machine/Otp.lean ====
section
/-! DEFINITION. The OTP array and its controller (R490 to R498): regions and digests, the start-up check, the DEFAULTS
loader, reading, programming, finalising and checking. -/

namespace Sys2Proof.Machine

open Sys2Proof

-- Regions

/-- The first word of a region, and the word after its last (R490): 0 VENDOR, 1 IDENT, 2 OPTIONS, 3 DEFAULTS. -/
def regionFrom : Nat → Nat
  | 0 => 0 | 1 => 256 | 2 => 320 | _ => 384
def regionTo : Nat → Nat
  | 0 => 256 | 1 => 320 | 2 => 384 | _ => 2048

/-- The region of a word. -/
def regionOf (w : Nat) : Nat := if w < 256 then 0 else if w < 320 then 1 else if w < 384 then 2 else 3

/-- A word as a read gives it (R490, R497): of VENDOR, words 128 to 255 read as 0. -/
def State.otpWord (s : State) (w : Nat) : Nat :=
  if w < 128 then Config.vendorWord w % 2 ^ 32 else if w < 256 then 0 else s.otp.words.at w

/-- The words of a region without its digest, in ascending order. -/
def State.regionWords (s : State) (g : Nat) : List Nat :=
  (List.range (regionTo g - 8 - regionFrom g)).map (fun k => s.otpWord (regionFrom g + k))

/-- The burned digest of a region. -/
def State.burnedDigest (s : State) (g : Nat) : List Nat := (List.range 8).map (fun k => s.otp.words.at (regionTo g - 8 + k))

/-- The digest that FINALISE burns: SHA-256 over the region's other words, least significant byte first (R491). -/
def State.digestWords (s : State) (g : Nat) : List Nat :=
  let d := sha256 ((s.regionWords g).flatMap (bytes 4))
  (List.range 8).map (fun k => ofLeBytes ((d.drop (4 * k)).take 4))

/-- A region is FINALISED: its digest words are not all 0 (R491). VENDOR was finalised before shipment (R490). -/
def State.finalised (s : State) (g : Nat) : Bool := g == 0 || (s.burnedDigest g).any (· != 0)

/-- A FINALISED region's digest checks; `bad`: it holds a word with an uncorrectable error (R492). -/
def State.regionOk (s : State) (g : Nat) (bad : Bool) : Bool := !bad && (g == 0 || s.burnedDigest g == s.digestWords g)

/-- A region's state: 0 OK, 1 OPEN, 2 FAILED (R492, R510). -/
def State.regionState (s : State) (g : Nat) (bad : Bool) : Nat :=
  if !s.finalised g then 1 else if s.regionOk g bad then 0 else 2

/-- The OTP_STAT field of a region. -/
def regionFld : Nat → Fld
  | 0 => F.OTP_STAT_VENDOR | 1 => F.OTP_STAT_IDENT | 2 => F.OTP_STAT_OPTIONS | _ => F.OTP_STAT_DEFAULTS

-- The DEFAULTS loader

/-- The window select register through which a record reaches a register (R494); none where it lies in no window. -/
def selectOf (r : RegSpec) : Option Nat :=
  match r.win with
  | .ctx => some 0x604
  | .caCh | .caBank | .caSeg => some 0x1200
  | .wm => some 0x1824
  | .ocv => some 0x1E0C
  | .fc => some 0x3400
  | .ring => some 0x2220
  | _ => none

/-- Why H1 does not suit a register (R495), or fails the checks of a write of its select register (R496); with the address
concerned. -/
def selectErr (rd : Rd) (r : RegSpec) (a h1 : Nat) : Nat × Nat :=
  match selectOf r with
  | none => if h1 = 0xFFFFFFFF then (errOk, a) else (errRange, a)
  | some x =>
    if h1 = 0xFFFFFFFF then (errRange, a)
    else match findReg x with
      | none => (errRange, x)
      | some (q, _) =>
        if reservedSet q h1 then (errReserved, x) else if !fieldsInRange rd q 0 h1 then (errRange, x) else (errOk, a)

/-- What H1 selects in each select register. -/
def selOfWord (h1 : Nat) : Sel := fun f => f.ofWord h1

/-- Write a register's fields, banked ones in the active bank, without a check. -/
def State.putFields (s : State) (fs : List Fld) (i w : Nat) : State :=
  fs.foldl (fun s f => if f.banked then { s with act := s.act.wr f i (f.ofWord w) } else s.wr f i (f.ofWord w)) s

/-- A word of a context's launch time (R494): its home holds no register, but is the home of a wide value. -/
def State.loadLaunch (s : State) (a h1 w : Nat) : (Nat × Nat) × State :=
  let r : RegSpec := ⟨0x620, .ctx, []⟩
  match selectErr s.act.rd r a h1 with
  | (0, _) =>
    let c := selOfWord h1 F.CTX_SEL_INDEX
    let old := s.act.rd F.CTX_LAUNCH_TIME c
    let v := if a = 0x620 then old / 2 ^ 32 * 2 ^ 32 + w else w * 2 ^ 32 + old % 2 ^ 32
    ((errOk, a), { s with act := s.act.wr F.CTX_LAUNCH_TIME c v })
  | e => (e, s)

/-- One data word of a record: malformed cases (R495), then checks 1, 4 and 8 of R56 (R496). A fixed class keeps its value (R280; that the
record passes is DEDUCED, log 24). -/
def State.loadWord (s : State) (a h1 w : Nat) : (Nat × Nat) × State :=
  if a = 0x620 ∨ a = 0x624 then s.loadLaunch a h1 w
  else match findReg a with
  | none => ((errRange, a), s)
  | some (r, i) =>
    if r.flds.any (fun f => f.keep != .F) then ((errRange, a), s)
    else match selectErr s.act.rd r a h1 with
    | (0, _) =>
      let i := instOf (selOfWord h1) 0 r i
      if reservedSet r w then ((errReserved, a), s)
      else if !fieldsInRange s.act.rd r i w then ((errRange, a), s)
      else ((errOk, a), s.putFields (r.flds.filter (fun f => !fixedFld f i)) i w)
    | e => (e, s)

/-- The data words of a record, from an address on. -/
def State.loadData (h1 : Nat) : Nat → List Nat → State → (Nat × Nat) × State
  | _, [], s => ((errOk, 0), s)
  | a, w :: ws, s =>
    match s.loadWord a h1 w with
    | ((0, _), s) => State.loadData h1 (a + 4) ws s
    | (e, s) => (e, s)

/-- A header is not well formed (R494, R495; the reserved bits and COUNT 0 DEDUCED, log 24). -/
def badHeader (h0 : Nat) : Bool := bitsOf h0 31 30 != 2 || bitsOf h0 29 22 == 0 || bitsOf h0 21 14 != 0

/-- The records of a list of words, in their order; `n` bounds their number. A malformed header gives RANGE and address 0
(R510). -/
def State.loadRecords : Nat → List Nat → State → (Nat × Nat) × State
  | 0, _, s => ((errOk, 0), s)
  | _ + 1, [], s => ((errOk, 0), s)
  | n + 1, h0 :: ws, s =>
    let cnt := bitsOf h0 29 22
    if h0 = 0 then ((errOk, 0), s)
    else if badHeader h0 || decide (ws.length < cnt + 1) then ((errRange, 0), s)
    else match s.loadData (ws.headD 0) (bitsOf h0 13 0) ((ws.drop 1).take cnt) with
      | ((0, _), s) => State.loadRecords n (ws.drop (cnt + 1)) s
      | (e, s) => (e, s)

/-- Every F field at its Reset value: the vendor safe defaults (R13, R496). -/
def State.vendorBank (s : State) : State :=
  ({ s with act := {} } : State).wr F.RTC_TRIM_TRIM 0 F.RTC_TRIM_TRIM.rst

/-- Apply the DEFAULTS records to the vendor safe defaults and run the commit checks on the result (R496): the error with its
address, and the state with the bank. -/
def State.parseDefaults (s : State) : (Nat × Nat) × State :=
  match State.loadRecords 1656 (s.regionWords 3) s.vendorBank with
  | ((0, _), t) =>
    let rd : Rd := fun f i => t.cf f i
    match firstFailing (t.checks true 0 rd rd) with
    | some (_, l) => let x := t.pickFail l; ((x.err, x.addr), if l.length = 1 then t else t.drawn)
    | none => ((errOk, 0), t)
  | e => e

/-- DEFAULTS_LOAD (R492, R493, R496). -/
def State.defaultsLoad (s : State) (st : Nat) : State :=
  if st = 1 then (s.vendorBank.wr F.OTP_STAT_DEF_SRC 0 1).raise 0x14 0x03 { unit := 3 }
  else if st = 2 then s.vendorBank.wr F.OTP_STAT_DEF_SRC 0 1
  else match s.parseDefaults with
    | ((0, _), t) => t.wr F.OTP_STAT_DEF_SRC 0 0
    | ((e, a), t) =>
      let s := { s with free := t.free }.vendorBank.wr F.OTP_STAT_DEF_SRC 0 1
      (s.wr F.OTP_DEFERR_ERR 0 e |>.wr F.OTP_DEFERR_ADDR 0 a).raise 0x14 0x02 { unit := 3 }

/-- One region's outcome at start-up: its state, and the event of a failed digest (R492). -/
def State.regionCheck (s : State) (bad : List Nat) (g : Nat) : State :=
  let st := s.regionState g (bad.contains g)
  let s := s.wr (regionFld g) 0 st
  if st = 2 then s.raise 0x14 0x01 { unit := g } else s

/-- The options in effect (R492). -/
def State.optionsLoad (s : State) : State :=
  let st := s.rd F.OTP_STAT_OPTIONS 0
  let w := if st = 0 then s.otpWord 320 else if st = 2 then 1 else 0
  s.wr F.OTP_OPT_WDT_HWSTART 0 (w % 2) |>.wr F.OTP_OPT_PERTURB_ALLOWED 0 (w / 2 % 2)
    |>.wr F.WDT_STAT_HWSTART 0 (w % 2) |>.wr F.PT_STAT_ALLOWED 0 (w / 2 % 2)

/-- With the hardware-start option, slot 0 is enabled in both banks (R475). -/
def State.hwSlot (s : State) : State :=
  if s.flag F.OTP_OPT_WDT_HWSTART 0 then { s with act := s.act.wr F.SLOT_CFG_EN 0 1 } else s

/-- The identifiers that the checks give (R490, R492). The vendor's words have no layout in the spec; word 0 stands for the Vendor ID
(DESIGN CHOICE, log 24). -/
def State.idsLoad (s : State) : State :=
  let id := if s.rd F.OTP_STAT_IDENT 0 = 0 then fun k => s.otpWord k % 0x10000 else fun _ => 0
  { s with otp := { s.otp with
      pciVendor := if s.rd F.OTP_STAT_VENDOR 0 = 0 then s.otpWord 0 % 0x10000 else 0, pciSubVendor := id 256, pciSub := id 257 } }

/-- The start-up check of the regions and what they give (R492, R496); `bad`: regions with an uncorrectable word. -/
def State.otpStart (s : State) (bad : List Nat) : State :=
  let s := ((List.range 4).foldl (fun s g => s.regionCheck bad g) s).optionsLoad.idsLoad
  (s.defaultsLoad (s.rd F.OTP_STAT_DEFAULTS 0)).hwSlot

/-- What PCI Express configuration space and the link's capabilities say of the function (R382). -/
structure PciFunction where
  vendor : Nat
  device : Nat
  revision : Nat
  classCode : Nat
  subsysVendor : Nat
  subsys : Nat
  /-- sizes of the 32-bit, non-prefetchable memory BARs 0 and 2 in bytes; no other BAR is implemented -/
  bar0 : Nat
  bar2 : Nat
  interruptPin : Nat
  msixVectors : Nat
  /-- offsets of the MSI-X table and the pending-bit array in BAR2 -/
  msixTable : Nat
  msixPba : Nat
  maxPayload : Nat
  flr : Bool
  noSoftReset : Bool
  aspmL1 : Bool
  aspmL0s : Bool
deriving DecidableEq, Repr

/-- The function as it stands in configuration space (R382, R383, R492). -/
def State.pciFunction (s : State) : PciFunction :=
  { vendor := s.otp.pciVendor, device := 0x2460, revision := s.rd F.ID_STEPPING 0, classCode := 0x088000
    subsysVendor := s.otp.pciSubVendor, subsys := s.otp.pciSub, bar0 := 65536, bar2 := 4096, interruptPin := 0, msixVectors := 32
    msixTable := 0x800, msixPba := 0xC00, maxPayload := 256, flr := true, noSoftReset := true, aspmL1 := true, aspmL0s := false }

-- Commands

/-- Why an OTP command is refused, in the order of R498. `supply`, `temp`: VSYS and the programming pump, and TJ, are inside
their windows. -/
def State.otpErr (s : State) (cmd key region : Nat) (supply temp : Bool) : Nat :=
  let burns := cmd == 2 || cmd == 3
  let g := if cmd = 2 then regionOf (s.rd F.OTP_ADDR_WORD 0) else region
  if s.otp.run.isSome then errBusy
  else if cmd = 0 ∨ 4 < cmd ∨ (burns = true ∧ key ≠ 0xB7) then errRange
  else if burns && s.finalised g then errLocked
  else if burns && s.power.st != .run then errState
  else if burns && !supply then errSupply
  else if burns && !temp then errThermal
  else if cmd = 3 ∧ g = 3 then s.parseDefaults.1.1
  else errOk

/-- OTP_CMD (R497, R498): an accepted command runs until OTP_COMMAND_DONE. -/
def State.askOtp (s : State) (cmd key region : Nat) (supply temp : Bool) : Nat × State :=
  match s.otpErr cmd key region supply temp with
  | 0 =>
    let run : OtpRun := { cmd, region, word := s.rd F.OTP_ADDR_WORD 0, data := s.rd F.OTP_DATA_DATA 0 }
    let s := s.wr F.OTP_RSTAT_ERR 0 0 |>.wr F.OTP_RSTAT_CORRECTED 0 0 |>.wr F.OTP_RSTAT_BUSY 0 1 |>.wr F.OTP_RSTAT_VALID 0 0
    (errOk, { s with otp := { s.otp with run := some run } })
  | e => (e, s)

/-- Burn bits into a word: a burned bit stays (R490, R498). -/
def State.burn (s : State) (w v : Nat) : State :=
  { s with otp := { s.otp with words := s.otp.words.put w (mOr (s.otp.words.at w) v) } }

/-- Burn a region's digest, `m` masking what is burned of each word. -/
def State.burnDigest (s : State) (g : Nat) (m : Nat → Nat → Nat) : State :=
  let d := s.digestWords g
  (List.range 8).foldl (fun s k => s.burn (regionTo g - 8 + k) (m k (d.getD k 0))) s

/-- The end of a READ (R497). -/
def State.readDone (s : State) (w : Nat) (ecc : Ecc) : State :=
  match ecc with
  | .clean => s.wr F.OTP_DATA_DATA 0 (s.otpWord w)
  | .corrected =>
    let s := ((s.wr F.OTP_DATA_DATA 0 (s.otpWord w)).wr F.OTP_RSTAT_CORRECTED 0 1).bump F.OTP_EVT_ECC_FIX 0
    s.raise 0x14 0x04 { unit := regionOf w, cnt := s.rd F.OTP_EVT_ECC_FIX 0 }
  | .bad =>
    let s := ((s.wr F.OTP_DATA_DATA 0 0).wr F.OTP_RSTAT_ERR 0 errCrc).bump F.OTP_EVT_ECC_BAD 0
    s.raise 0x14 0x05 { unit := regionOf w, cnt := s.rd F.OTP_EVT_ECC_BAD 0 }

/-- OTP_COMMAND_DONE (R497, R498); `ecc`: what the check bits showed of the word read, or of the region checked. -/
def otpCommandDone (ecc : Ecc) (s : State) : State :=
  match s.otp.run with
  | none => s
  | some x =>
    let s := { s with otp := { s.otp with run := none } }
    let s := s.wr F.OTP_RSTAT_BUSY 0 0 |>.wr F.OTP_RSTAT_VALID 0 1
    match x.cmd with
    | 1 => s.readDone x.word ecc
    | 2 =>
      let s := (s.burn x.word x.data).bump F.OTP_EVT_PROGS 0
      s.raise 0x14 0x06 { unit := regionOf x.word, cnt := s.rd F.OTP_EVT_PROGS 0 }
    | 3 => ((s.burnDigest x.region (fun _ v => v)).wr (regionFld x.region) 0 0).raise 0x14 0x06 { unit := x.region }
    | _ => s.wr (regionFld x.region) 0 (s.regionState x.region (ecc == .bad))

/-- A chip reset cuts off the running command (R498, R507): a burn leaves some of its bits; which, the spec leaves open. -/
def State.cutOtp (s : State) : State :=
  match s.otp.run with
  | none => s
  | some x =>
    let s := { s with otp := { s.otp with run := none } }
    let n := s.free
    match x.cmd with
    | 2 => (s.burn x.word (mAnd x.data (Config.partBurn n))).drawn
    | 3 => { s.burnDigest x.region (fun k v => mAnd v (Config.partBurn (n + k))) with free := n + 8 }
    | _ => s

end Sys2Proof.Machine
end

