-- ==== Sys2Proof/Machine/Power.lean ====
section
/-! DEFINITION. Resets and power states (R12, R13, R32 to R46, R242, R330, R349, R504 to R506): what starts a chip reset, what it
keeps, its release with the reload of banks, logbook, arrays and time base, the entry to RUN or HOLD, and the ways out of
DORMANT and SHIP. A chip reset is two commands: what starts it puts the device into reset, and CHIP_RESET is its release
(DESIGN CHOICE, log 25). -/

namespace Sys2Proof.Machine

open Sys2Proof

-- What a chip reset keeps

/-- Status fields that follow a condition outside the reset's reach and are read anew at its release: the feeds and MATE_N, the
pack, the partner's and the ejector's contacts, the islands (DEDUCED, log 25). -/
def physicalFlds : List (Fld × Nat) :=
  [(F.FEED_STAT_STATE, 2), (F.FEED_STAT_VALID, 2), (F.FEED_STAT_STABLE, 2), (F.FEED_STAT_OR_FWD, 2), (F.FEED_STAT_PRESENT, 2),
   (F.PE_STAT_NO_FEED, 1), (F.PE_STAT_MATE, 1), (F.PE_STAT_MATE_RAW, 1), (F.PE_STAT_CARRY, 1),
   (F.PE_STAT_VALID_A, 1), (F.PE_STAT_VALID_B, 1), (F.WELL_STAT_NO_PACK, 1), (F.WELL_CSTAT_ZONE, 1), (F.WELL_CSTAT_FOLD, 1),
   (F.TW_STAT_PRESENT, 1), (F.TW_STAT_EJECT, 1), (F.UNIT_STAT_ISLAND_OK, 1),
   (F.LOG_WRITES_COUNT, 1)]

/-- The keys of the physical status fields. -/
def physicalKeys : List Nat := physicalFlds.flatMap (fun x => (List.range x.2).map x.1.key)

/-- The keys of the A fields without their instance (R12). -/
def aonKeys : List Nat := (allFlds.filter (fun f => f.keep == .A)).map (fun f => f.key 0)

/-- The fields that a rail which keeps regulating takes through a chip reset (R242): its step, its stage's state and its limit. Every other
V field takes its Reset value (R505). -/
def railKeys (r : Nat) : List Nat :=
  [F.SQ_RSTAT_STEP.key r, (stageFld r).1.key (stageFld r).2, (limitFld r).1.key (limitFld r).2]

/-- The standpipe rails that are on, with the followers of those that lead a pair (R242). -/
def State.upRails (s : State) : List Nat :=
  let up (r : Nat) : Bool := bitOf s.standpipes r && (primedStep (s.stepOf r) || s.stepOf r == 4)
  (List.range 24).filter (fun r => up r || (s.follower r && up (r - 1)))

/-- The stages after a chip reset starts: a rail that stays on keeps its present setpoint, and what is hot stays hot. A LOST channel's
arrays are examined again (R156). -/
def State.keptStages (s : State) (up : List Nat) : Tab Stage :=
  ⟨s.stages.cells.filterMap (fun c =>
    if up.contains c.1 then some (c.1, { c.2 with setpt := some (s.setCode c.1), gone := false })
    else if c.2.hot then some (c.1, { ({} : Stage) with hot := true }) else none)⟩

/-- The twin gates that stay closed: those of the rails that stay on (R377). -/
def State.keptGates (s : State) (up : List Nat) : Nat :=
  maskOf 8 (fun k => bitOf s.closed k && up.contains (s.cf F.TW_SLOT_RAIL k))

/-- The links that are open stay open (R136). -/
def State.keptLinks (s : State) : Tab Seg :=
  ⟨s.cist.segs.cells.filterMap (fun c => if c.2.linkOpen then some (c.1, { ({} : Seg) with linkOpen := true }) else none)⟩

/-- What every reset leaves: the queue and the model's own counters, the OTP, the logbook, the metrology die, the feeds, what
comes in from outside. `keep`: the status keys that stay. -/
def State.wiped (s : State) (keep : Nat → Bool) : State :=
  { State.reset with
    pending := s.pending, out := s.out, now := s.now, free := s.free, sts := s.sts.keep keep, feeds := s.feeds
    power := { metDie := s.power.metDie, tLong := s.power.tLong, tPress := s.power.tPress, longFlag := s.power.longFlag }
    cist := { segs := s.keptLinks }
    well := { dieTemp := s.well.dieTemp }
    met := { s.met with sent := [], lost := false }
    timers := { adcTrig := s.timers.adcTrig, ppsIn := s.timers.ppsIn }
    otp := s.otp, logb := { s.logb with flushAt := none } }

/-- What a reset with the AON island powered leaves beside (R504, R505): A fields, the seed, the calendar, the last stop. -/
def State.aonKept (s t : State) : State :=
  { t with
    power := { t.power with lastStop := s.power.lastStop }
    tb := { t.tb with now := s.tb.now, aon := s.tb.aon }
    rtc := { s.rtc with shadows := {} }
    est := { kept := s.est.kept, socV := s.est.socV, qDraw := s.est.qDraw, efcRest := s.est.efcRest, efcOf := s.est.efcOf, resyncNext := s.est.resyncNext } }

/-- LATCHED feed controllers return to OFF (R118). -/
def State.unlatchFeeds (s : State) : State :=
  (List.range 2).foldl (fun s i => if s.feedSt i = 5 then (s.wr F.FEED_STAT_STATE i 0).wr F.FEED_STAT_RETRIES i 0 else s) s

/-- PSTATE.LAST_RESET of a kind (R46); the WAKE island's flag marks a long press (R330). -/
def State.resetCode (s : State) (k : ResetKind) : Nat :=
  match k with
  | .por => if s.power.longFlag then 5 else 0
  | .brownOut => 1 | .resetN => 2 | .host => 3 | .watchdog => 4 | .longPress => 5 | .dormant => 6

-- The start of a chip reset

/-- Everything the device held is lost but what no power cycle takes (R504). -/
def State.allLost (s : State) : State :=
  let s := s.cutOtp.cutSave true
  let s : State := { s with logb := { s.logb with again := false } }
  (s.wiped (fun k => physicalKeys.contains k)).unlatchFeeds.entryApply

/-- A POR starts (R504). -/
def State.startPor (s : State) : State :=
  let t := s.allLost
  t.wr F.PSTATE_LAST_RESET 0 (t.resetCode .por)

/-- The power state that a chip reset starts in: SAFE is left by RESET_N or a POR alone (R41, R295). -/
def State.resetSt (s : State) (k : ResetKind) : PState := if s.safe && k != .resetN then .safe else .run

/-- A chip reset with the AON island powered starts (R67, R242, R504, R505). `up`: the rails that stay on. PREV_STATE takes the
state before every such reset, also where the device comes back in the same state (DESIGN CHOICE, log 25). A learning draw ends
first (R347). -/
def State.startReset (s : State) (k : ResetKind) (up : List Nat) : State :=
  let s := s.abandonDraw.cutOtp.cutSave (k == .brownOut)
  let gates := s.keptGates up
  let rails := up.flatMap railKeys
  let t := s.aonKept (s.wiped (fun x => physicalKeys.contains x || aonKeys.contains (x % 0x100000) || rails.contains x
    || (tbStatFlds.map (fun f => f.key 0)).contains x))
  let t := up.foldl (fun t r => if t.stg r = 0xA then t.wr (stageFld r).1 (stageFld r).2 9 else t) t
  let t := { t with stages := s.keptStages up, twin := { frozen := s.trimsKept up }, power := { t.power with
    kind := k, st := s.resetSt k, needFeed := decide (k = ResetKind.brownOut) && s.rd F.WELL_STAT_CONV 0 == 4 } }.unlatchFeeds
  let t := t.wr F.PSTATE_LAST_RESET 0 (s.resetCode k) |>.wr F.PSTATE_PREV_STATE 0 s.power.st.code |>.wr F.TW_STAT_CLOSED 0 gates
  let t := if k = .brownOut then t.entryApply else t
  if k = .brownOut ∨ k = .resetN then { t with power := { t.power with lastStop := some s.tb.now } } else t

/-- POWER_ON_RESET: the AON island powers up (R504). -/
def powerOnReset (s : State) : State := s.startPor

/-- BROWN_OUT_RESET (R34, R504): every output stops at once; without the AON island it is a POR. -/
def brownOutReset (aonUp : Bool) (s : State) : State :=
  if s.power.longOpen then s
  else if aonUp && s.power.st != .ship then s.startReset .brownOut [] else s.startPor

/-- RESET_N_ASSERTED (R41, R242, R482): no drain; ATTEMPTS is cleared, with its record while the watchdog is powered. It is sensed in
every state except SHIP. -/
def resetNAsserted (s : State) : State :=
  if s.power.st = .ship ∨ s.power.longOpen = true then s
  else ((if s.on then attemptsClear s else s).startReset .resetN []).wr F.WDT_STAT_ATTEMPTS 0 0

/-- RESET_DRAIN_DONE (R242): the reset drain of a host chip reset or a watchdog step 2 has ended; standpipe rails keep
regulating. -/
def resetDrainDone (s : State) : State :=
  match s.power.resetAfterDrain with
  | some k => if s.draining || s.safe then s else s.startReset k s.upRails
  | none => s

-- The release of a chip reset

/-- A controller pair's self-test (R187): `halves` of it passed. A pair that has mismatched twice or fails is retired, and its
group's spare is claimed; where the spare is taken the table of R186 applies to the result. -/
def State.bootUnit (halves : Nat) (s : State) (u : CtlUnit) : State :=
  let old := s.healthOf u
  if 2 ≤ halves ∧ s.rd (mismatchFld u).1 (mismatchFld u).2 < 2 then
    if old = 0 then s else (s.setHealth u 0).owe ctrlChunk false
  else
    let s := if old = 2 then s else (s.setHealth u 2).owe ctrlChunk false
    if !s.claimed u then s.takeSpare u
    else if 2 ≤ halves then s
    else if halves = 1 then s.goSolo u
    else s.loseUnit u

/-- Every pair's self-test, lower channels first (R187). -/
def State.bootUnits (s : State) (o : BootObs) : State :=
  let units : List CtlUnit := [.b 0, .b 1, .b 2, .b 3, .b 4, .b 5, .b 6, .b 7, .b 8, .b 9, .b 10, .b 11, .x 0, .x 1, .well]
  units.foldl (fun s u => s.bootUnit (((o.halves.find? (fun x => x.1 == u)).map (·.2)).getD 2) u) s

/-- The arrays, controllers and phases initialise (R160, R187, R207). -/
def State.bootStages (s : State) (o : BootObs) : State :=
  let pick (l : List (Chan × Arr × Nat)) (c : Nat) : List (Arr × Nat) := (l.filter (fun x => x.1.val == c)).map (·.2)
  let s := (List.range 12).foldl (fun s c => s.initChannel c (pick o.opened c) (pick o.drivers c) (s.mapLost c)) s
  o.phases.foldl (fun s p => phaseLoss p.val 6 s) (s.bootUnits o)

/-- The logbook is loaded into fields at their Reset values (R13, R501). -/
def State.bootLog (s : State) (o : BootObs) : State := s.logLoad o.spoilt

/-- A rail that stayed on moves to the setpoint of the reloaded bank (R178, R242). -/
def State.bootSetpoint (s : State) (r : Nat) : State :=
  match (s.stages.at r).setpt with
  | some _ => (s.moveSet r (s.bankSet r)).setSt r (fun x => { x with setpt := none })
  | none => s

/-- The rails take the active bank's pairs, setpoints, limits and derived coefficients; SEQ_GOOD and SEQ_PRIMED follow the rails that stayed on. -/
def State.bootRails (s : State) : State :=
  let s := ((List.range 21).foldl State.bootSetpoint s.pairApply).limits
  let s := s.setCoefs (derivedCoefs (fun f i => s.cf f i))
  (s.wr F.SEQ_GOOD_MASK 0 s.goodMask).wr F.SEQ_PRIMED_MASK 0 s.primed

/-- The well's valve is closed, its converter and charger take the active bank (R314, R315); the WAKE island takes its copies
of the button times (R330). -/
def State.bootWell (s : State) : State :=
  let s := (s.wr F.WELL_STAT_VALVE 0 1).wellSettle
  { s with power := { s.power with tLong := s.cf F.WELL_BTN_T_LONG 0, tPress := s.cf F.WELL_BTN_T_PRESS 0, longFlag := false } }

/-- The banks are loaded and the staging bank is their copy; the straps are sampled (R67, R76, R357, R496). -/
def State.bootBanks (s : State) (o : BootObs) : State :=
  let s := s.otpStart o.badRegions
  let s := { s with stag := s.act }.bankFacts
  s.wr F.TWB_CFG_ADDR 0 (0x4C + o.twa.val) |>.wr F.TW_STAT_ROLE 0 (b2n o.twinB)

/-- The watchdog's ladder period is set; a hardware start begins it (R475, R483). -/
def State.bootWdt (s : State) : State :=
  let t := s.wr F.WDT_LADDER_PERIOD 0 s.ladderPeriod
  if t.flag F.OTP_OPT_WDT_HWSTART 0 then t.wdtBegin else t

/-- The schedule, measurement, twin link, watchdog and host link start from the active bank (R110, R368, R424, R475). -/
def State.bootBlocks (s : State) : State :=
  ((((s.schReset).measStart).tmReset).twStart 0x0B).mateGates.linkTrain.bootWdt

/-- The banks and the time base are loaded (R67, R91, R95). -/
def State.bootLoad (s : State) (o : BootObs) : State :=
  (s.tbClear.bootBanks o).tbStart s

/-- Everything that the release of a chip reset loads and starts, in order (R67, R160, R501). -/
def State.bootAll (s : State) (o : BootObs) : State :=
  (((((s.bootLoad o).bootLog o).bootStages o).bootRails.entryApply).bootWell).bootBlocks.pfw F.PFW_STAT_RESET false

/-- The device in chip reset has no supply to come up on: after a brown-out with the converter LOST, and at a POR that neither a
press nor the end of tOPEN started, no feed is valid (R313, R317, R330, R515). -/
def State.unfed (s : State) : Bool := (s.power.needFeed || (s.power.kind == .por && !s.power.roused)) && !s.anyFeed

/-- CHIP_RESET: a chip reset is released (R67, R95, R160, R496, R501): banks, logbook, arrays and time base are loaded, and the OTP
digest checks run to their end. A brown-out with the converter LOST waits for a feed (R317), a POR for a feed or a press
(R313, R515). -/
def chipReset (o : BootObs) (s : State) : State :=
  if s.power.off || !s.power.inReset || s.unfed then s
  else
    let t : State := ({ s with
      power := { s.power with inReset := false, needFeed := false, checking := true, booted := true, primeDue := true, roused := false } } : State).bootAll o
    let t := if t.safe then t.safeSig.safeFloor.wellSettle else t
    if t.power.kind == .brownOut then t.raise 0x00 0x06 else t

-- RUN, HOLD and the auto prime

/-- tOFF_MIN has passed since the last drain or output stop ended, reckoned in stroke time (R242); after a POR there is no
wait. -/
def State.offMinPassed (s : State) : Bool :=
  match s.power.lastStop with
  | none => true
  | some t => decide (s.cf F.SEQ_CFG_OFF_MIN 0 * s.freqNow * 0x10000 ≤ (s.tb.now - t) * 1000000)

/-- AUTO_PRIME_START (R231, R242): once tOFF_MIN has passed since the last output stop. -/
def autoPrimeStart (s : State) : State :=
  if s.on && s.power.primeDue && !s.power.checking && !s.busyOp then
    ({ s with power := { s.power with primeDue := false } } : State).autoPrime
  else s

/-- The device comes up in HOLD: no feed is valid, the well carries (R41, R264, R320). -/
def State.bootHold (s : State) : State :=
  let s := { s with power := { s.power with st := .hold }, well := { s.well with hoDone := true } }
  ((s.wr F.WELL_STAT_HO 0 3).pfw F.PFW_STAT_HANDOVER true).wellSettle

/-- OTP_DIGEST_CHECKS_DONE (R41, R320): RUN with a valid feed, HOLD without; then priming starts. A latched sequencer does not
prime (R234). -/
def otpDigestChecksDone (s : State) : State :=
  if s.power.off || !s.power.checking then s
  else
    let s := { s with power := { s.power with checking := false } }
    let s := if s.safe then s else if s.anyFeed then { s with power := { s.power with st := .run } } else s.bootHold
    let s := s.keptRecord
    if s.offMinPassed then autoPrimeStart s else s

-- The button, DORMANT and SHIP

/-- LONG_PRESS (R330): the valve opens and the feed gates are held off for tOPEN; every rail drops and all power is lost. -/
def longPress (s : State) : State :=
  if s.power.longOpen then s
  else
    let t := s.allLost
    let t := (List.range 2).foldl (fun s i => if s.feedSt i = 7 then s else s.wr F.FEED_STAT_STATE i 0) t
    let t := { t with power := { t.power with st := .ship, off := true, longOpen := true, longFlag := true } }
    t.entryShow.wr F.WELL_STAT_VALVE 0 0

/-- Power returns to a device without power: it starts from POR. `pack`: the WAKE island has closed the valve, so that the pack
supplies it (R41, R330). -/
def State.powerUp (s : State) (pack : Bool) : State :=
  let t := s.startPor
  if pack then (t.setPower (fun p => { p with roused := true })).wr F.WELL_STAT_VALVE 0 1 else t

/-- LONG_PRESS_OPEN_END (R330): the valve closes, the feed gates are released, the device restarts from POR. Without a pack it
stays without power, the valve's gate undriven, until a feed is valid (R32, R313; DEDUCED, log 25). -/
def longPressOpenEnd (s : State) : State :=
  if !s.power.longOpen then s
  else
    let s := { s with power := { s.power with longOpen := false } }.entryApply
    if s.pack then s.powerUp true else s

/-- SHIP_WAKE (R41): a valid feed or a press in SHIP, or in the state without power that R323 and R332 leave, is a POR. A press is seen
while the pack or VSYS supplies the WAKE island (R32). -/
def shipWake (button : Bool) (s : State) : State :=
  if s.power.off && s.power.st == .ship && !s.power.longOpen && (button && s.pack || s.anyFeed) then s.powerUp (button && s.pack)
  else s

/-- A press on a device that rests before its first POR with the valve open: the WAKE island closes the valve (R313, R515). -/
def State.rouse (s : State) : State :=
  if s.power.inReset && s.power.kind == .por && s.pack then
    (s.setPower (fun p => { p with roused := true })).wr F.WELL_STAT_VALVE 0 1
  else s

/-- A wake source of DORMANT is enabled (R41, R241, R261, R461): of a monitor its WAKE_SEL comparator too (R262); no alarm acts
on halted time (R456). -/
def State.wakes (s : State) (w : WakeSrc) : Bool :=
  match w with
  | .feed => (List.range 2).any (fun i => s.feedValid i && !bitOf s.power.ignoreFeed i)
  | .button => true
  | .monitor m => m.val != 0 && s.con F.WM_CFG_WAKE_EN (24 + m.val)
    && s.cmpOn (24 + m.val) (if s.con F.WM_CFG_WAKE_SEL (24 + m.val) then .warnHi else .warnLo)
  | .alarm n => s.flag F.ALM_CFG_WAKE n.val && s.alarmMatch n.val && !s.halted

/-- A wake source is recorded (R261, R273, R461): WM_WAKE holds the monitor, an alarm's match sets its ALM bit. -/
def State.wakeRec (s : State) (w : WakeSrc) : State :=
  match w with
  | .monitor m => (s.wr F.WM_WAKE_VALID 0 1).wr F.WM_WAKE_MON 0 m.val
  | .alarm n => s.wr (if n.val = 0 then F.RTC_STAT_ALM0 else F.RTC_STAT_ALM1) 0 1
  | _ => s

/-- DORMANT_WAKE (R41, R261, R273, R504): the sources that hold together make one wake, a chip reset with the AON island powered, and
each enabled one is recorded. WM_WAKE.VALID says whether a monitor was among them (R276). -/
def dormantWake (l : List WakeSrc) (s : State) : State :=
  let by_ := l.filter s.wakes
  if !(s.power.off && s.power.st == .dormant) || by_.isEmpty then s
  else (by_.foldl State.wakeRec (s.wr F.WM_WAKE_VALID 0 0)).startReset .dormant []

/-- BUTTON_PRESS (R330): at least tPRESS. -/
def buttonPress (s : State) : State :=
  if s.power.off then (if s.power.st = .dormant then dormantWake [.button] s else shipWake true s)
  else if s.on then s.raise 0x0B 0x0F {} else s.rouse

/-- The seeded stroke time that a DORMANT sample is stamped with (R96). -/
def State.dormantStamp (s : State) : Nat := s.seed.1

/-- DORMANT_SAMPLE (R35, R96, R323, R349, R354): one estimator sample at rest; its record is kept. A pack below the pack floor
opens the valve (R323); where no feed supplies VSYS that takes all power (R32, `aonFollow`). V_FLOOR_OFS is 150 mV. -/
def dormantSample (r : EstReading) (s : State) : State :=
  if !(s.power.off && s.power.st == .dormant) || !s.pack then s
  else
    let s := ((s.restSample r).bump F.EST_EVT_DORM_SAMPLES 0)
    let s := { s with est := { s.est with kept := some (s.estBytes 0x02 true, s.dormantStamp) } }
    if r.vbat < (s.cf F.WELL_PACK_V_CUT 0 - 150) * s.cf F.WELL_PACK_CELLS 0 then s.wr F.WELL_STAT_VALVE 0 0 else s

end Sys2Proof.Machine
end

