-- ==== Sys2Proof/Machine/Vote.lean ====
section
/-! DEFINITION. Voted fields and the scrubber (R57 to R59). A disagreement among the three copies of a field comes with the
command that finds it, so that between two commands the copies agree (DESIGN CHOICE, log 26). -/

namespace Sys2Proof.Machine

open Sys2Proof

/-- The voted field of a bank at a register and its lowest bit. -/
def votedFld (reg lo : Nat) : Option (RegSpec × Fld) :=
  match specAt reg with
  | none => none
  | some r => (r.flds.find? (fun f => f.lo == lo && f.typ == .rwv && f.banked)).map (fun f => (r, f))

/-- Write a banked field in one of the banks. -/
def State.bankPut (s : State) (act : Bool) (f : Fld) (i v : Nat) : State :=
  if act then { s with act := s.act.wr f i v } else { s with stag := s.stag.wr f i v }

/-- The registers of a loss: its flag and the address of the field last lost (R59, R83). -/
def State.voteLost (s : State) (f : Fld) (addr : Nat) : State := ((s.note f 0).wr f 0 1).wr F.VOTE_STAT_ADDR 0 addr

/-- All three copies of a field of the active bank differ (R59): the field takes its Reset value, ACTIVE_CRC is recomputed,
the control plane acts on the new value. -/
def State.loseActive (s : State) (f : Fld) (i addr : Nat) : State :=
  let t := State.applyBank s { s with act := s.act.wr f i (f.resetAt i) }
  (t.voteLost F.VOTE_STAT_ACTIVE_VOTE_LOST addr).raise 0x01 0x02

/-- All three copies of a field of the staging bank differ (R59): the bank is reloaded and ownership released. -/
def State.loseStaging (s : State) (addr : Nat) : State :=
  (s.reloadStaging.voteLost F.VOTE_STAT_STAGE_VOTE_LOST addr).raise 0x01 0x01

/-- One field is voted as it is found (R57, R59): a single differing copy is rewritten from the majority and counted. -/
def State.voteField (s : State) (x : Found) : State :=
  match votedFld x.reg x.lo with
  | none => s
  | some (r, f) =>
    let w (v : Nat) : Nat := v % 2 ^ f.width
    if !r.instances.contains x.inst || (w x.a == w x.b && w x.b == w x.c) then s
    else match majority (w x.a) (w x.b) (w x.c) with
      | some v => ((s.bankPut x.act f x.inst v).note F.SCRUB_FIX_COUNT 0).bump F.SCRUB_FIX_COUNT 0
      | none =>
        let addr := r.addrOf x.inst
        if x.act then s.loseActive f x.inst addr else s.loseStaging addr

/-- SCRUB_PASS (R58): a full pass over both banks, with the disagreements it finds in the order it meets them. -/
def scrubPass (found : List Found) (s : State) : State :=
  if !s.on then s
  else
    let t := found.foldl State.voteField s
    t.wr F.SCRUB_PASS_COUNT 0 (t.rd F.SCRUB_PASS_COUNT 0 + 1)

end Sys2Proof.Machine
end

