-- ==== Sys2Proof/Machine/RegWrite.lean ====
section
/-! DEFINITION. Writing the register file (R48 to R56): the nine checks in their order, the fields that a write sets with what
follows at once, and the commands that WO bits give. -/

namespace Sys2Proof.Machine

open Sys2Proof

/-- A master's refusal is kept in its LAST_ERR (R56, R83). -/
def State.refused (s : State) (m : Master) (err addr : Nat) : State :=
  (s.wr F.LAST_ERR_CODE m.idx err).bump F.LAST_ERR_COUNT m.idx |>.wr F.LAST_ERR_ADDR m.idx addr

-- The checks

/-- The register holds banked fields. -/
def RegSpec.isBanked (r : RegSpec) : Bool := r.flds.any (·.banked)

/-- A setting of the perturbation block (R304). -/
def pertSetting (a : Nat) : Bool := decide (0x3E10 ≤ a) && decide (a ≤ 0x3E24)

/-- The conditions that the blocks add to a write of set-up (R56 check 9): the perturbation session (R304), a follower's
set-up (R173, R277), an enabled ring (R408), a running calendar (R456). -/
def State.blockErr (s : State) (m : Master) (r : RegSpec) (i : Nat) : Nat :=
  if pertSetting r.base then s.pertGate m
  else if s.followerWrite r i || s.ringBusy r i || s.calendarRuns r then errState
  else errOk

/-- Checks 3 to 9 of R56 on the word `w` that a write would leave in a register; the first that fails. -/
def State.writeErr (s : State) (m : Master) (r : RegSpec) (i w : Nat) : Nat :=
  if s.barred m && s.changesSetup r i w then errPrivilege
  else if r.base != 0x2C04 && reservedSet r w then errReserved
  else if r.base == 0x2600 && s.rd F.MET_STAT_LIFE 0 == 2 then errSealed
  else if s.fieldLocked r i w || (r.isBanked && s.ownedByOther m) then errLocked
  else if r.isBanked && (s.committing || s.commit.copying) then errBusy
  else if !fieldsInRange (fun f k => s.sf f k) r i w then errRange
  else s.blockErr m r i

-- What a write sets

/-- An accepted write of the staging bank takes its ownership while none has it, and restarts the owner's idle count (R69). -/
def State.stagingWritten (s : State) (m : Master) : State :=
  (if s.owner = 0 then s.wr F.COMMIT_STAT_OWNER 0 (masterCode m) else s).ownerAccess m

/-- The fields of a register take the values of a word: banked ones in the staging bank (R54, R68). -/
def State.putWord (s : State) (r : RegSpec) (i w : Nat) : State :=
  r.flds.foldl (fun s f =>
    if !f.isCtl then s
    else if f.banked then { s with stag := s.stag.wr f i (f.ofWord w) }
    else s.wr f i (f.ofWord w)) s

/-- What an accepted write of Immediate set-up brings about at once: the calendar (R456), a perturbation (R305). -/
def State.written (s : State) (a : Nat) : State :=
  match a with
  | 0x2814 => s.calendarWritten
  | 0x2818 => s.calendarWritten
  | 0x3E14 => s.kindWritten 1
  | 0x3E18 => s.kindWritten 2
  | 0x3E1C => s.kindWritten 3
  | 0x3E20 => if s.kindZero 4 then s else s.kindWritten 4
  | 0x3E24 => s.kindWritten 4
  | _ => s

-- Command bits

/-- How many of the bits [hi:lo] of a word are set. -/
def bitsSet (w hi lo : Nat) : Nat := ((List.range (hi - lo + 1)).filter (fun k => bitOf w (lo + k))).length

/-- PE_CTL (R133): each feed named must be LATCHED. -/
def State.askPe (s : State) (w : Nat) : Nat × State :=
  let bad (i : Nat) : Bool := bitOf w i && s.feedSt i != 5
  if bad 0 || bad 1 then (errState, s)
  else
    let t := if bitOf w 0 then s.peClear 0 else s
    (errOk, if bitOf w 1 then t.peClear 1 else t)

/-- CA_CTL on what the master's CA_SEL names (R165). -/
def State.askCa (s : State) (m : Master) (w : Nat) (o : WriteObs) : Nat × State :=
  let c := s.rd F.CA_SEL_CH m.idx
  let a := arrOf (s.rd F.CA_SEL_ARRAY m.idx)
  let g := s.rd F.CA_SEL_SEG m.idx
  if 1 < bitsSet w 3 0 ∨ (bitOf w 3 = true ∧ bitsOf w 31 24 ≠ 0x5A) then (errRange, s)
  else if s.caErr c ≠ errOk then (s.caErr c, s)
  else if bitOf w 3 then s.askRetire c a g
  else if bitOf w 2 then s.askRotate c
  else if bitOf w 1 then (errOk, s.scan c o.opened 5 true)
  else if bitOf w 0 then s.askProbe c a g
  else (errOk, s)

/-- HDR_CTL.PH_RETRY (R208, R209). -/
def State.askHdr (s : State) (w : Nat) : Nat × State :=
  if 1 < bitsSet w 2 0 then (errRange, s)
  else if bitOf w 0 then s.askPhRetry 0
  else if bitOf w 1 then s.askPhRetry 1
  else if bitOf w 2 then s.askPhRetry 2
  else (errOk, s)

/-- WELL_CTL (R335). -/
def State.askWell (s : State) (w : Nat) : Nat × State :=
  if 1 < bitsSet w 6 1 ∨ ((bitOf w 1 = true ∨ bitOf w 2 = true) ∧ bitsOf w 31 24 ≠ 0x5C) then (errRange, s)
  else if bitOf w 1 then s.askPowerState false
  else if bitOf w 2 then s.askPowerState true
  else if bitOf w 3 then s.askLendStart
  else if bitOf w 4 then s.askLendStop false
  else if bitOf w 5 then s.askClrChg
  else if bitOf w 6 then s.askChgRestart
  else (errOk, s)

/-- EST_CTL (R356). -/
def State.askEst (s : State) (w : Nat) : Nat × State :=
  if 1 < bitsSet w 3 0 ∨ (bitOf w 3 = true ∧ bitsOf w 31 24 ≠ 0x3B) then (errRange, s)
  else if bitOf w 0 then s.askLearnStart
  else if bitOf w 1 then s.askLearnStop
  else if bitOf w 2 then s.askResync
  else if bitOf w 3 then s.askNewPack
  else (errOk, s)

/-- ALIGN_CTL (R99, R113): the step takes the STEP_STROKES of the same write. -/
def State.askAlign (s : State) (w : Nat) : Nat × State :=
  let n := ofField 24 (bitsOf w 31 8)
  match s.alignCtlErr (bitOf w 0) (bitOf w 1) n with
  | 0 => (errOk, if bitOf w 0 then s.alignArmNow else if bitOf w 1 then s.alignStepNow n else s)
  | e => (e, s)

-- The mailbox request

/-- The number of words of a wide value, less one, by its home (R64). -/
def homeLen (a : Nat) : Option Nat :=
  match a with
  | 0x218 => some 1 | 0x418 => some 1 | 0x420 => some 1 | 0x428 => some 1 | 0x620 => some 1 | 0x3230 => some 1
  | 0x3018 => some 1
  | 0x2620 => some 1 | 0x2628 => some 1 | 0x2630 => some 1 | 0x2638 => some 1 | 0x2640 => some 1
  | 0x2650 => some 3 | 0x2660 => some 3
  | _ => if 0x3240 ≤ a ∧ a < 0x32C0 ∧ a % 16 = 0 then some 3 else none

/-- The instance that a master's select names for a wide value (R102, R287). -/
def State.homeInst (s : State) (m : Master) (a : Nat) : Nat :=
  if a = 0x620 then s.rd F.CTX_SEL_INDEX m.idx else if 0x3240 ≤ a then s.rd F.FH_SEL_BLOCK m.idx else 0

/-- A master's MBX_STAT (R84). -/
def State.mbxStat (s : State) (m : Master) (err len : Nat) (busy valid : Bool) : State :=
  s.wr F.MBX_STAT_ERR m.idx err |>.wr F.MBX_STAT_LEN m.idx len |>.wr F.MBX_STAT_BUSY m.idx (b2n busy)
    |>.wr F.MBX_STAT_VALID m.idx (b2n valid)

/-- A master's request in progress. -/
def State.setMbx (s : State) (m : Master) (q : Option (Bool × Nat × Nat)) : State :=
  { s with mbx := s.mbx.put m.idx { req := q } }

/-- MBX_REQ (R64, R65, R84): a new request replaces one still open. -/
def State.askMbx (s : State) (m : Master) (op a : Nat) : Nat × State :=
  if op = 0 ∨ op = 3 then (errRange, s)
  else if inMetWindow a && !s.flag F.ID_MET_FITTED 0 then (errNotFitted, (s.setMbx m none).mbxStat m errNotFitted 0 false false)
  else match homeLen a with
    | none => (errRange, (s.setMbx m none).mbxStat m errRange 0 false false)
    | some n => (errOk, (s.setMbx m (some (op == 2, a, s.homeInst m a))).mbxStat m errOk n true false)

-- Dispatch of command bits

/-- The command bits of the blocks up to 0x1FFF. -/
def State.commandLow (s : State) (m : Master) (a i w : Nat) (o : WriteObs) : Nat × State :=
  match a with
  | 0x200 => s.askCommit m (bitOf w 0) (bitOf w 1) (bitOf w 2)
  | 0x430 => s.askAlign w
  | 0x808 => s.askPe w
  | 0xA18 => s.askHdr w
  | 0xC38 => if bitOf w 0 then s.askSnsRetry i else (errOk, s)
  | 0x123C => s.askCa m w o
  | 0x1408 => if bitOf w 0 then s.unlatch else (errOk, s)
  | 0x1810 => if bitOf w 31 then s.askReadback (bitsOf w 7 0) else (errOk, s)
  | 0x1C30 => s.askWell w
  | 0x1E38 => s.askEst w
  | _ => (errOk, s)

/-- The command bits of the blocks from 0x2000 on. -/
def State.commandHigh (s : State) (m : Master) (a i w : Nat) (o : WriteObs) : Nat × State :=
  match a with
  | 0x2030 => s.askTwCtl (bitOf w 2) (bitOf w 1) (bitOf w 0)
  | 0x2204 => s.askRing (bitsOf w 9 8) (bitsOf w 4 0)
  | 0x2800 => s.askRtcCtl (bitsOf w 31 24) (bitOf w 0) (bitOf w 1)
  | 0x280C => s.askRtcShift (bitsOf w 15 0)
  | 0x2A00 => s.askTmGctl (bitsOf w 7 0) (bitsOf w 15 8)
  | 0x2A5C => s.askTmCtl i (bitOf w 0) (bitOf w 1)
  | 0x2C04 => s.askServe w
  | 0x2C08 => s.askWdtCtl (bitsOf w 31 24) (bitOf w 0) (bitOf w 1)
  | 0x2E0C => s.askOtp (bitsOf w 2 0) (bitsOf w 31 24) (bitsOf w 9 8) o.supply o.temp
  | 0x3010 => s.askFlush (bitsOf w 31 24) (bitOf w 0)
  | 0x3224 => s.askHistory m.idx (bitOf w 1) (bitOf w 0)
  | 0x3E00 => s.askKey m (bitsOf w 15 0)
  | 0x3E04 => s.askPtCtl m (bitOf w 1) (bitOf w 0)
  | 0x3F00 => s.askMbx m (bitsOf w 31 30) (bitsOf w 13 0)
  | _ => (errOk, s)

/-- The commands that the WO bits of a word give. -/
def State.command (s : State) (m : Master) (a i w : Nat) (o : WriteObs) : Nat × State :=
  if a < 0x2000 then s.commandLow m a i w o else s.commandHigh m a i w o

-- The write

/-- A write of the word `w` to an instance of a register: checks 3 to 9, then the set-up fields, then the command bits (R56).
A refused command discards the whole write. -/
def State.writeWord (s : State) (m : Master) (r : RegSpec) (i w : Nat) (o : WriteObs) : Nat × State :=
  match s.writeErr m r i w with
  | 0 =>
    let t := (s.putWord r i w).written r.base
    let t := if r.isBanked then t.stagingWritten m else t
    match t.command m r.base i w o with
    | (0, u) => (errOk, u)
    | (e, u) => (e, if r.flds.any Fld.isCtl then s else u)
  | e => (e, if e = errSealed then s.sendConfig (w % 16) else s)

/-- A write reaches the register file at an address: checks 1 and 2, the merge with the present value, then the rest (R52, R54 to
R56). -/
def State.tryWrite (s : State) (m : Master) (addr val be : Nat) (o : WriteObs) : Nat × State :=
  let a := baseOf addr
  if inMetWindow a && !s.flag F.ID_MET_FITTED 0 then (errNotFitted, s)
  else match findReg a with
    | none => (errRange, s)
    | some (r, k) =>
      if aliasOf addr ≠ 0 ∧ r.isControl = false then (errAlias, s)
      else
        let i := instOf (selOf s m.idx) m.idx r k
        s.writeWord m r i (merged (aliasOf addr) (s.wordNow r i) val be) o

/-- A register write by a master (R56), its result given as the access's code and, where refused, in LAST_ERR. An access to
COMMIT_CTL restarts the owner's idle count (R69). -/
def writeReg (m : Master) (addr val be : Nat) (o : WriteObs) (s : State) : State :=
  if !s.on then s
  else
    let x := s.tryWrite m addr val be o
    let t := if x.1 = errOk then x.2 else x.2.refused m x.1 (baseOf addr)
    let t := if baseOf addr = 0x200 then t.ownerAccess m else t
    { t with out := { t.out with err := some x.1 } }

end Sys2Proof.Machine
end

