-- ==== Sys2Proof/Machine/RegRead.lean ====
section
/-! DEFINITION. Reading the register file (R50, R54, R55, R57, R60, R68): the word that a master reads, what a read clears, the
calendar's shadows (R460), and the end of a mailbox request (R64, R65). -/

namespace Sys2Proof.Machine

open Sys2Proof

-- Words

/-- A status field as it reads, with what the device measures or counts without a command. -/
def State.look (s : State) (f : Fld) (i : Nat) : Nat :=
  match f.reg with
  | 0x824 => if s.on then Config.measured (f.key i) s.now % 2 ^ f.width else s.show f i
  | 0x850 => if s.on then Config.measured (f.key i) s.now % 2 ^ f.width else s.show f i
  | 0x1A40 => if f.lo = 5 then b2n (s.tripArmed i) * (Config.measured (f.key i) s.now % 2) else s.show f i
  | 0x1C50 => if f.lo = 0 ∧ s.well.lend = true then Config.measured (f.key i) s.now % 2 ^ f.width else s.show f i
  | 0x2A58 => if f.lo = 0 then b2n (s.gate i) else s.show f i
  | 0x2D80 => s.slotCount i % 2 ^ 24
  | _ => s.show f i

/-- A master reads the active copies of banked fields (R68). -/
def State.viewsActive (s : State) (m : Master) : Bool := s.flag F.VIEW_ACTIVE m.idx

/-- A field as a master reads it: WO as 0 (R10), a banked field from the bank of its VIEW (R68), the mailbox data as 0 while
VALID = 0 (R65). -/
def State.fieldRead (s : State) (m : Master) (f : Fld) (i : Nat) : Nat :=
  if f.typ = .wo then 0
  else if f.banked then (if s.viewsActive m then s.cf f i else s.sf f i)
  else if 0x3F10 ≤ f.reg ∧ s.flag F.MBX_STAT_VALID m.idx = false then 0
  else s.look f i

/-- The word that a master reads of a register. -/
def State.wordRead (s : State) (m : Master) (r : RegSpec) (i : Nat) : Nat := wordOf r.flds (fun f => s.fieldRead m f i)

-- Effects of a read

/-- An RC field clears at the capture of its value (R60); FB_STAT.PEND stays while a standing fault holds it (R288). -/
def State.clearField (s : State) (f : Fld) (i : Nat) : State :=
  if f.typ = .rc ∧ ¬(f.reg = 0x3300 ∧ f.lo = 0 ∧ s.standing i = true) then s.wr f i (f.resetAt i) else s

/-- What a read of a register clears; HOST 0x03 may be raised anew after a read of RG_EVT, and a first drop before it that has
not been reported yet is reported now (R401). -/
def State.readClears (s : State) (r : RegSpec) (i : Nat) : State :=
  let t := r.flds.foldl (fun s f => s.clearField f i) s
  if r.base = 0x2260 then
    let t := t.setRing (fun x => { x with dropSaid := clrBit x.dropSaid i, dropDue := clrBit x.dropDue i })
    if bitOf s.ring.dropDue i then t.raise 0x0E 0x03 { unit := i, cnt := s.rd F.RG_EVT_DROPS i } else t
  else t

/-- A read of the owner's restarts its idle count where it is an access to the staging bank or to COMMIT_CTL (R69). -/
def State.readTouches (s : State) (m : Master) (r : RegSpec) : State :=
  if r.base = 0x200 ∨ (r.isBanked = true ∧ s.viewsActive m = false) then s.ownerAccess m else s

/-- The captured word of a register and what the capture changes. -/
def State.capture (s : State) (m : Master) (r : RegSpec) (i : Nat) : Nat × State :=
  if r.base = 0x2810 then s.readSubsec m.idx
  else if r.base = 0x2814 then s.readTime m.idx
  else if r.base = 0x2818 then s.readDate m.idx
  else
    let s := if inMetWindow r.base then s.metRefresh r.base else s
    (s.wordRead m r i, (s.readClears r i).readTouches m r)

/-- A register of the metrology window that is read across the channel (R453). -/
def metCrosses (a : Nat) : Bool := inMetWindow a && a != 0x2600 && a != 0x2608

/-- The voted fields of the register in the bank that is read are voted as they are found (R57, R59). -/
def State.voteRead (s : State) (m : Master) (r : RegSpec) (i : Nat) (found : List Found) : State :=
  found.foldl (fun s x => s.voteField { x with act := s.viewsActive m, reg := r.base, inst := i }) s

/-- A read reaches the register file at an address: its code, its word, and the state after it (R50, R55, R432, R433). -/
def State.tryRead (s : State) (m : Master) (addr : Nat) (found : List Found) : Nat × Nat × State :=
  let a := baseOf addr
  if inMetWindow a && !s.flag F.ID_MET_FITTED 0 then (errNotFitted, 0, s)
  else match findReg a with
    | none => (errOk, 0, s)
    | some (r, k) =>
      let i := instOf (selOf s m.idx) m.idx r k
      if aliasOf addr ≠ 0 ∧ r.isControl = false then (errAlias, 0, s)
      else if metCrosses a && !s.flag F.MET_STAT_LINK 0 then (errBusy, 0, s)
      else if !reached r i then (errOk, 0, s)
      else
        let x := (s.voteRead m r i found).capture m r i
        (errOk, x.1, x.2)

/-- A register read by a master. A refused read is no refused write, so LAST_ERR keeps its value (R83; DEDUCED, log 27). -/
def readReg (m : Master) (addr : Nat) (found : List Found) (s : State) : State :=
  if !s.on then s
  else
    let x := s.tryRead m addr found
    let t := x.2.2
    { t with out := { t.out with err := some x.1, rdata := some (BitVec.ofNat 32 x.2.1) } }

-- The end of a mailbox request

/-- A history entry has been read through the mailbox (R287). -/
def State.markRead (s : State) (b e : Nat) : State :=
  let l := s.faults.hist.at b
  match l[e]? with
  | none => s
  | some x => { s with faults := { s.faults with hist := s.faults.hist.put b (l.set e { x with read := true }) } }

/-- A wide value by its home (R64, R83, R113, R114, R309, R453, R511), and what its read changes. -/
def State.homeRead (s : State) (m : Master) (a i : Nat) : Nat × State :=
  match a with
  | 0x218 => (s.rd F.SWAP_TIME_TIME 0, s)
  | 0x418 => (s.tb.now, s)
  | 0x420 => (s.rd F.PPS_CAPT_TIME 0, s)
  | 0x428 => (s.rd F.ALIGN_TIME_TIME 0, s)
  | 0x620 => (s.fieldRead m F.CTX_LAUNCH_TIME i, if s.viewsActive m then s else s.ownerAccess m)
  | 0x3230 => (s.rd F.SAFE_TIME_TIME 0, s)
  | 0x3018 => (s.rd F.LOG_WRITES_COUNT 0, s)
  | _ =>
    if inMetWindow a then (((s.met.wide a).map (·.1)).getD 0, s)
    else
      let e := (a - 0x3240) / 16
      ((((s.faults.hist.at i)[e]?).map (·.bits)).getD 0, s.markRead i e)

/-- The register that stands for a wide value under the checks of R56. -/
def homeSpec (a : Nat) : RegSpec :=
  ⟨a, .one, if a = 0x428 then [F.ALIGN_TIME_TIME] else if a = 0x620 then [F.CTX_LAUNCH_TIME] else []⟩

/-- The checks of R56 on a mailbox write; no value of the metrology die is writable (R453). -/
def State.homeErr (s : State) (m : Master) (a i v : Nat) : Nat :=
  let r := homeSpec a
  if inMetWindow a then (if s.rd F.MET_STAT_LIFE 0 = 2 then errSealed else errRange)
  else if s.barred m && s.changesSetup r i v then errPrivilege
  else if r.isBanked && s.ownedByOther m then errLocked
  else if r.isBanked && (s.committing || s.commit.copying) then errBusy
  else errOk

/-- The words of a master's mailbox. -/
def mbxFlds : List Fld := [F.MBX_DATA0_DATA, F.MBX_DATA1_DATA, F.MBX_DATA2_DATA, F.MBX_DATA3_DATA]

/-- The value that a master has loaded, of `n + 1` words. -/
def State.mbxValue (s : State) (m : Master) (n : Nat) : Nat :=
  (((mbxFlds.take (n + 1)).map (fun f => s.rd f m.idx)).reverse).foldl (fun a w => a * 2 ^ 32 + w) 0

/-- A value as the words of a master's mailbox. -/
def State.mbxLoad (s : State) (m : Master) (v : Nat) : State :=
  (List.range 4).foldl (fun s k => s.wr (mbxFlds.getD k F.MBX_DATA0_DATA) m.idx (v / 2 ^ (32 * k) % 2 ^ 32)) s

/-- A mailbox read completes (R64); BUSY where the metrology die cannot be reached (R432). -/
def State.mbxRead (s : State) (m : Master) (a i n : Nat) : State :=
  if inMetWindow a && !s.flag F.MET_STAT_LINK 0 then ((s.mbxLoad m 0).mbxStat m errBusy n false true).refused m errBusy a
  else
    let x := s.homeRead m a i
    (x.2.mbxLoad m x.1).mbxStat m errOk n false true

/-- A mailbox write completes: the value takes effect as one write under the checks of R56 (R64). -/
def State.mbxWrite (s : State) (m : Master) (a i n : Nat) : State :=
  let v := s.mbxValue m n
  match s.homeErr m a i v with
  | 0 =>
    let r := homeSpec a
    let t := s.putWord r i v
    (if r.isBanked then t.stagingWritten m else t).mbxStat m errOk n false true
  | e => (s.mbxStat m e n false true).refused m e a

/-- MBX_COMPLETE (R64). -/
def mbxComplete (m : Master) (s : State) : State :=
  match (s.mbx.at m.idx).req with
  | none => s
  | some (write, a, i) =>
    let n := (homeLen a).getD 0
    let t := s.setMbx m none
    if !s.on then s else if write then t.mbxWrite m a i n else t.mbxRead m a i n

end Sys2Proof.Machine
end

