-- ==== Sys2Proof/Machine/TwoWire.lean ====
section
/-! DEFINITION. The two-wire management bus (R62, R63, R76 to R81): address, pointer and data bytes, the assembly word, snapshots
and read-ahead, and the bus errors. -/

namespace Sys2Proof.Machine

open Sys2Proof

/-- Change the two-wire interface. -/
def State.setTw (s : State) (f : TwoWire → TwoWire) : State := { s with tw := f s.tw }

/-- The interface answers a byte. -/
def State.acks (s : State) (a : Bool) : State := { s with out := { s.out with ack := some a } }

/-- A byte that the interface gives. -/
def State.gives (s : State) (b : Nat) : State := { s with out := { s.out with byte := some (BitVec.ofNat 8 b) } }

-- Domains

/-- The register lies outside the management domain (R62): not the set-up fields, the commit, OTP and logbook blocks, the
mailbox; the calendar and A-class fields are always-on (DEDUCED, log 28). -/
def outside (r : RegSpec) : Bool :=
  let b := r.base / 0x200
  if b = 0x01 ∨ b = 0x17 ∨ b = 0x18 ∨ 0x3F00 ≤ r.base then false
  else b == 0x14 || !r.isControl || r.flds.any (fun f => f.keep == .A)

/-- How long a crossing to a register keeps the bus busy at most, in µs (R62, R82): tXING_AON, tXING_MET or tXING_CTL; 0 within the
management domain. -/
def crossTime (r : RegSpec) : Nat :=
  if !outside r then 0
  else if r.base / 0x200 = 0x14 ∨ r.flds.any (fun f => f.keep == .A) then 70
  else if inMetWindow r.base then 40 else 1

/-- The bus is busy with a crossing that it has started (R63). -/
def State.crossing (s : State) : Bool := s.tw.crossing.isSome || decide (s.now < s.tw.busyTill)

/-- The word address that page and pointer name. -/
def TwoWire.addr (t : TwoWire) : Nat := t.page.toNat * 256 + t.ptr.toNat / 4 * 4

/-- The word at an address lies outside the management domain. -/
def outsideAt (addr : Nat) : Bool := match findReg (baseOf addr) with | some (r, _) => outside r | none => false

/-- The register at an address holds an RC field. -/
def rcAt (addr : Nat) : Bool :=
  match findReg (baseOf addr) with | some (r, _) => r.flds.any (fun f => f.typ == .rc) | none => false

-- Transactions

/-- The transaction ends, and what served it. -/
def State.twIdle (s : State) : State :=
  s.setTw (fun t => { t with active := false, reading := false, wantPtr := false, asm := none, dead := false, released := false, snaps := [] })

/-- An address byte is taken: a transaction starts. -/
def State.twBegin (s : State) (read : Bool) (snaps : List (Nat × Nat)) : State :=
  (s.twIdle.setTw (fun t => { t with active := true, reading := read, wantPtr := !read, snaps })).acks true

/-- The device does not take its address byte while a crossing runs (R63). -/
def State.twBusy (s : State) : State := ((s.bump F.TWB_STAT_BUSY_NACKS 0).twIdle).acks false

/-- The page and pointer that a read-ahead belongs to. -/
def TwoWire.place (t : TwoWire) : Nat := t.page.toNat * 256 + t.ptr.toNat

/-- TW_ADDRESS_BYTE (R63, R80): the device's own address, with R/W. -/
def twAddressByte (read : Bool) (s : State) : State :=
  if !s.on then s
  else if s.crossing then s.twBusy
  else if !read || 0xFC ≤ s.tw.ptr.toNat || !outsideAt s.tw.addr then s.twBegin read []
  else match s.tw.kept with
    | some (p, w) =>
      let t := s.setTw (fun t => { t with kept := none })
      if p = s.tw.place then t.twBegin true w
      else (t.setTw (fun x => { x with crossing := some s.tw.place })).twBusy
    | none => (s.setTw (fun t => { t with crossing := some t.place })).twBusy

/-- Move the pointer; a change of page or pointer discards a kept capture (R80). -/
def TwoWire.moved (t : TwoWire) (page ptr : Byte) : TwoWire :=
  { t with page, ptr, kept := if page = t.page ∧ ptr = t.ptr then t.kept else none }

/-- The pointer after a data byte: from 0xFB it wraps to 0x00, at 0xFF it stays (R77). Snapshots serve one pass. -/
def TwoWire.next (t : TwoWire) : TwoWire :=
  if t.ptr = 0xFF then t
  else if t.ptr = 0xFB then { t.moved t.page 0 with snaps := [] }
  else t.moved t.page (t.ptr + 1)

/-- TW_POINTER_BYTE (R77). -/
def twPointerByte (b : Byte) (s : State) : State :=
  if !s.on || !s.tw.active || !s.tw.wantPtr then s
  else (s.setTw (fun t => { t.moved t.page b with wantPtr := false })).acks true

-- Written bytes

/-- The word that an assembly starts from: the register's present value (R78). -/
def State.asmStart (s : State) (addr : Nat) : Nat :=
  match findReg (baseOf addr) with
  | some (r, k) => s.wordNow r (instOf (selOf s 1) 1 r k)
  | none => 0

/-- Put byte `k` into a word. -/
def putByte (w k : Nat) (b : Byte) : Nat := w - bitsOf w (8 * k + 7) (8 * k) * 2 ^ (8 * k) + b.toNat * 2 ^ (8 * k)

/-- An accepted write to a register outside the management domain crosses: until then the device does not take its address byte
(R62, R63). -/
def State.twWriteCross (s : State) (addr : Nat) : State :=
  match findReg (baseOf addr) with
  | some (r, _) => if crossTime r = 0 then s else s.setTw (fun t => { t with busyTill := s.now + crossTime r })
  | none => s

/-- A byte goes into the assembly word; with byte +3 the register is written (R78). -/
def State.twAssemble (s : State) (b : Byte) (o : WriteObs) : State :=
  let addr := s.tw.addr
  let k := s.tw.ptr.toNat % 4
  let w := putByte (match s.tw.asm with | some (a, w) => if a = addr then w else s.asmStart addr | none => s.asmStart addr) k b
  let s := s.setTw (fun t => { t.next with kept := none, asm := if k = 3 then none else some (addr, w) })
  if k = 3 then
    let t := writeReg .twoWire addr w 0xF o s
    let ok := t.out.err == some errOk
    let t := if ok then t.twWriteCross addr else t
    (t.setTw (fun x => { x with dead := !ok })).acks ok
  else s.acks true

/-- TW_DATA_BYTE_WRITE (R77, R78). -/
def twDataByteWrite (b : Byte) (o : WriteObs) (s : State) : State :=
  if !s.on || !s.tw.active || s.tw.reading || s.tw.wantPtr then s
  else if s.tw.dead then s.acks false
  else if s.tw.ptr = 0xFF then (s.setTw (fun t => t.moved b t.ptr)).acks true
  else if 0xFC ≤ s.tw.ptr.toNat then
    ((s.refused .twoWire errRange (baseOf s.tw.addr)).setTw (fun t => { t.next with dead := true, kept := none })).acks false
  else s.twAssemble b o

-- Read bytes

/-- A captured word of a register for the two-wire master: refused reads give 0. -/
def State.twCapture (s : State) (addr : Nat) : Nat × State :=
  let x := s.tryRead .twoWire addr []
  (x.2.1, x.2.2)

/-- The byte at a pointer out of a word. -/
def byteOf (w p : Nat) : Nat := w / 2 ^ (8 * (p % 4)) % 256

/-- A byte of a register is read from its snapshot, captured now for the management domain; beyond the read-ahead it is 0xFF
(R79, R80). -/
def State.twRegByte (s : State) : State :=
  let addr := s.tw.addr
  match s.tw.snaps.find? (fun x => x.1 == addr) with
  | some (_, w) => (s.gives (byteOf w s.tw.ptr.toNat)).setTw TwoWire.next
  | none =>
    if outsideAt addr then ((s.wr F.TWB_STAT_RA_END 0 1).gives 0xFF).setTw (fun t => { t.next with dead := true })
    else
      let x := s.twCapture addr
      (x.2.gives (byteOf x.1 s.tw.ptr.toNat)).setTw (fun t => { t with snaps := (addr, x.1) :: t.snaps }.next)

/-- TW_DATA_BYTE_READ (R77, R79 to R81). -/
def twDataByteRead (s : State) : State :=
  if !s.on || !s.tw.active || !s.tw.reading then s
  else if s.tw.released || s.tw.dead then (s.gives 0xFF).setTw TwoWire.next
  else if s.tw.ptr = 0xFF then s.gives s.tw.page.toNat
  else if 0xFC ≤ s.tw.ptr.toNat then (s.gives 0).setTw TwoWire.next
  else s.twRegByte

-- Read-ahead

/-- The words of a read-ahead: from the register at the pointer to the end of its aligned 16-byte group, stopping before the
first later register that holds an RC field (R80). -/
def raWords (addr : Nat) : List Nat :=
  let later := (List.range ((addr / 16 * 16 + 16 - addr) / 4 - 1)).map (fun k => addr + 4 * (k + 1))
  addr :: (later.takeWhile (fun a => !rcAt a)).filter (fun a => (findReg (baseOf a)).isSome)

/-- The registers of a read-ahead are captured from one moment, lowest first (R80, R460). -/
def State.raCapture (s : State) (addr : Nat) : List (Nat × Nat) × State :=
  (raWords addr).foldl (fun x a => let y := x.2.twCapture a; (x.1 ++ [(a, y.1)], y.2)) ([], s)

/-- TW_READAHEAD_DONE (R80); with no read-ahead on its way, a write's crossing ends before its longest time (DESIGN CHOICE,
log 28). -/
def twReadaheadDone (s : State) : State :=
  match s.tw.crossing with
  | none => s.setTw (fun t => { t with busyTill := 0 })
  | some p =>
    let x := s.raCapture (p / 4 * 4)
    x.2.setTw (fun t => { t with crossing := none, kept := some (p, x.1) })

/-- TW_READAHEAD_EXPIRED (R80). -/
def twReadaheadExpired (s : State) : State := s.setTw (fun t => { t with kept := none })

-- Ends and errors

/-- TW_STOP: STOP or repeated START (R78). -/
def twStop (s : State) : State := (if s.tw.asm.isSome then s.wr F.TWB_STAT_PARTIAL 0 1 else s).twIdle

/-- TW_MISPLACED (R81). -/
def twMisplaced (s : State) : State := if s.on then (s.wr F.TWB_STAT_MISPLACED 0 1).twIdle else s

/-- TW_TX_CONFLICT (R81). -/
def twTxConflict (s : State) : State :=
  if s.tw.active && s.tw.reading then (s.wr F.TWB_STAT_TX_CONFLICT 0 1).setTw (fun t => { t with released := true }) else s

/-- TW_BUS_TIMEOUT (R81): the page is kept. -/
def twBusTimeout (s : State) : State := if s.on then (s.wr F.TWB_STAT_TIMEOUT 0 1).twIdle else s

end Sys2Proof.Machine
end

