-- ==== Sys2Proof/Machine/Effect.lean ====
section
/-! DEFINITION. What surrounds the effect of every command: its outputs start empty; after the effect come standing faults, the
reactions that its events ask for, and the status-change copies. Then what happens while no command waits. -/

namespace Sys2Proof.Machine

open Sys2Proof

/-- A command starts: nothing has been put out and no reaction asked for. -/
def begin (s : State) : State := { s with out := {}, due := [], mids := [] }

/-- The charger follows a floor command that a command has held at 0 or let go (R315). -/
def floorFollow (s0 s : State) : State := if s0.well.floorOff = s.well.floorOff then s else s.chgSettle

/-- The control plane has lost its power in a command that took `s0` to `s` (R32): streams, the host link and the remaining time end
with their islands (R343, R404, R424), and the SIG outputs go low (R522). -/
def planeFollow (s0 s : State) : State :=
  if s0.on && s.power.off then
    let t := s.measLost.measShow.loseLink.wr F.EST_REMAIN_REMAIN 0 0xFFFF
    { t with sched := { t.sched with sig := 0 } }
  else s

/-- What follows a command's own effect: standing faults hold their blocks pending (R288), reactions are carried out (R283), and
changed status registers are copied into records (R61). Without the control plane none of it happens; what the release of a chip
reset loads forms no copies (DESIGN CHOICE, log 4). In DORMANT nothing but the loss of all power (R32) and a SAFE-class reaction can
follow (R41). The entry logic follows its supply in every state (R116). -/
def settle (cause : CopyCause) (s0 s : State) : State :=
  let s1 := entryFollow s0 s
  if s1.on then
    let t := leaveFollow s0 (floorFollow s0 (standUp s0 s1).logShow.react)
    if s0.on then copies cause s0 t else t
  else
    let t := aonFollow s0 (planeFollow s0 s1)
    if t.dormant then t.react else t

/-- Run a command's effect. -/
def run (cause : CopyCause) (f : State → State) (s : State) : Host.Outcome State Fault Refusal :=
  .next (settle cause (begin s) (f (begin s)))

/-- Run a command's effect on the control plane; without it nothing happens. -/
def runOn (cause : CopyCause) (f : State → State) (s : State) : Host.Outcome State Fault Refusal :=
  if s.on then run cause f s else .next (begin s)

-- Effects over several blocks

/-- REFERENCE_DEVIATION (R34, R298): with fewer than two references left a brown-out reset follows. -/
def referenceDeviation (i : Nat) (s : State) : State :=
  match s.refLost i with | (true, t) => brownOutReset true t | (false, t) => t

/-- OSCILLATOR_LOSS (R34, R91, R299): with no oscillator left a brown-out reset follows. -/
def oscillatorLoss (primary : Bool) (s : State) : State :=
  match s.oscLost primary with | (true, t) => brownOutReset true t | (false, t) => t

/-- ADC_TRIG_EDGE (R412): the pin's level, and what the edge starts. -/
def adcTrigPin (rising : Bool) (s : State) : State :=
  adcTrigEdge rising { s with timers := { s.timers with adcTrig := rising } }

-- The idle microsecond

/-- The angle advances inside the present slot (R86): the next slot begins with ANGLE_SLOT_START. -/
def State.angleMicro (s : State) : State :=
  let k := s.freqNow * 0x10000
  let adv := min (s.now * k / 1000000000 - (s.now - 1) * k / 1000000000) (255 - s.tb.now % 256)
  if adv = 0 then s else (s.clockTicks 3 adv).setTb (fun t => { t with now := t.now + adv })

/-- A 1 ms period of record back-pressure begins (R302). -/
def State.holdRecords (s : State) : State :=
  if s.now % 1000 = 0 ∧ s.pert.kindEnd.at 2 ≠ 0 then s.setRing (fun r => { r with bpHold := true }) else s

/-- One microsecond of the control plane. -/
def State.planeMicro (s : State) : State :=
  ((((s.lateCrossings s.now).chgTick.clockTicks 0 100).clockTicks 1 1).angleMicro.holdRecords).rotationsEnd.regulate.sendFrame.sayDrops

/-- While no command waits, one microsecond of the selected reference passes (DESIGN CHOICE, log 1): the calendar's oscillator
runs while the AON island is powered, and with the control plane the timers, the charger's timers, the angle and the loops. -/
def idle (s : State) : State :=
  let b := begin s
  let t : State := { b with now := b.now + 1 }
  let t := if t.power.off && t.power.st == .ship then t else t.rtcMicro
  if t.on then settle .hardware b t.planeMicro else t

end Sys2Proof.Machine
end

