-- ==== Sys2Proof/Machine/ExecClock.lean ====
section
/-! DEFINITION. The real-time clock and the timers (chapter 17): the meaning of each command, over the operations of the block's own file.
-/

namespace Sys2Proof.Machine

open Sys2Proof

/-- XTAL_FAIL (R454). -/
def execXtalFail (s : State) : Host.Outcome State Fault Refusal :=
  run .hardware (fun s => xtalFail s) s

/-- XTAL_QUALIFIED (R454). -/
def execXtalQualified (s : State) : Host.Outcome State Fault Refusal :=
  run .hardware (fun s => xtalQualified s) s

/-- RTC_SECOND (R461). -/
def execRtcSecond (s : State) : Host.Outcome State Fault Refusal :=
  run .hardware (fun s => rtcSecond s) s

/-- HALT_SET (R456). -/
def execHaltSet (m : Master) (w : Word) (s : State) : Host.Outcome State Fault Refusal :=
  runOn .hardware (fun s => writeReg m 0x2800 (mOr w.toNat 1) 0xF {} s) s

/-- HALT_CLR (R456). -/
def execHaltClr (m : Master) (w : Word) (s : State) : Host.Outcome State Fault Refusal :=
  runOn .hardware (fun s => writeReg m 0x2800 (mOr w.toNat 2) 0xF {} s) s

/-- RTC_CALENDAR_WRITE (R456). -/
def execRtcCalendarWrite (m : Master) (date : Bool) (w : Word) (s : State) : Host.Outcome State Fault Refusal :=
  runOn .hardware (fun s => writeReg m (if date then 0x2818 else 0x2814) w.toNat 0xF {} s) s

/-- RTC_SHIFT (R458). -/
def execRtcShift (m : Master) (w : Word) (s : State) : Host.Outcome State Fault Refusal :=
  runOn .hardware (fun s => writeReg m 0x280C (w.toNat) 0xF {} s) s

/-- SHIFT_COMPLETE (R458). -/
def execShiftComplete (s : State) : Host.Outcome State Fault Refusal :=
  run .hardware (fun s => shiftComplete s) s

/-- RTC_SUBSEC_READ (R460). -/
def execRtcSubsecRead (m : Master) (s : State) : Host.Outcome State Fault Refusal :=
  runOn (.ofMaster m) (fun s => readReg m 0x2810 [] s) s

/-- RTC_DATE_READ (R460). -/
def execRtcDateRead (m : Master) (s : State) : Host.Outcome State Fault Refusal :=
  runOn (.ofMaster m) (fun s => readReg m 0x2818 [] s) s

/-- SHADOW_EXPIRY (R460). -/
def execShadowExpiry (m : Master) (s : State) : Host.Outcome State Fault Refusal :=
  runOn .hardware (fun s => shadowExpiry m s) s

/-- TIMER_START (R466). -/
def execTimerStart (m : Master) (w : Word) (s : State) : Host.Outcome State Fault Refusal :=
  runOn .hardware (fun s => writeReg m 0x2A00 (w.toNat) 0xF {} s) s

/-- TIMER_STOP (R466). -/
def execTimerStop (m : Master) (w : Word) (s : State) : Host.Outcome State Fault Refusal :=
  runOn .hardware (fun s => writeReg m 0x2A00 (w.toNat) 0xF {} s) s

/-- TIMER_CLR (R466). -/
def execTimerClr (m : Master) (t : Fin 8) (w : Word) (s : State) : Host.Outcome State Fault Refusal :=
  runOn .hardware (fun s => writeReg m (0x2A5C + 0x20 * t.val) (mOr w.toNat 1) 0xF {} s) s

/-- TIMER_LOAD (R466). -/
def execTimerLoad (m : Master) (t : Fin 8) (w : Word) (s : State) : Host.Outcome State Fault Refusal :=
  runOn .hardware (fun s => writeReg m (0x2A5C + 0x20 * t.val) (mOr w.toNat 2) 0xF {} s) s

/-- TIMER_WRAP (R465). -/
def execTimerWrap (t : Fin 8) (s : State) : Host.Outcome State Fault Refusal :=
  runOn .hardware (fun s => timerWrap t s) s

/-- TIMER_COMPARE (R465). -/
def execTimerCompare (t : Fin 8) (s : State) : Host.Outcome State Fault Refusal :=
  runOn .hardware (fun s => timerCompare t s) s

/-- TIMER_CAPTURE (R467). -/
def execTimerCapture (t : Fin 8) (s : State) : Host.Outcome State Fault Refusal :=
  runOn .hardware (fun s => timerCapture t s) s

/-- TIMER_GATE_ACTIVE (R465). -/
def execTimerGateActive (t : Fin 8) (rising : Bool) (s : State) : Host.Outcome State Fault Refusal :=
  runOn .hardware (fun s => timerGateActive t rising s) s

/-- RTC_TIME_READ (R460). -/
def execRtcTimeRead (m : Master) (s : State) : Host.Outcome State Fault Refusal :=
  runOn (.ofMaster m) (fun s => readReg m 0x2814 [] s) s

end Sys2Proof.Machine
end

