-- ==== Sys2Proof/Machine/ExecEntry.lean ====
section
/-! DEFINITION. The feeds (chapter 4): the meaning of each command, over the operations of the block's own file. -/

namespace Sys2Proof.Machine

open Sys2Proof

/-- FEED_IN_WINDOW (R118). -/
def execFeedInWindow (f : FeedId) (inside : Bool) (s : State) : Host.Outcome State Fault Refusal :=
  run .hardware (fun s => feedInWindow f inside s) s

/-- FEED_QUALIFIED (R119). -/
def execFeedQualified (q : Qualified) (s : State) : Host.Outcome State Fault Refusal :=
  run .hardware (fun s => feedQualified q s) s

/-- FEED_INRUSH_DONE (R118). -/
def execFeedInrushDone (f : FeedId) (s : State) : Host.Outcome State Fault Refusal :=
  run .hardware (fun s => feedInrushDone f s) s

/-- FEED_INRUSH_TIMEOUT (R118). -/
def execFeedInrushTimeout (f : FeedId) (s : State) : Host.Outcome State Fault Refusal :=
  run .hardware (fun s => feedInrushTimeout f s) s

/-- BREAKER_SLOW_TRIP (R120). -/
def execBreakerSlowTrip (f : FeedId) (mv : Int) (s : State) : Host.Outcome State Fault Refusal :=
  run .hardware (fun s => breakerSlowTrip f mv s) s

/-- BREAKER_FAST_TRIP (R120). -/
def execBreakerFastTrip (f : FeedId) (mv : Int) (s : State) : Host.Outcome State Fault Refusal :=
  run .hardware (fun s => breakerFastTrip f mv s) s

/-- FEED_RETRY_END (R118). -/
def execFeedRetryEnd (f : FeedId) (s : State) : Host.Outcome State Fault Refusal :=
  run .hardware (fun s => feedRetryEnd f s) s

/-- FEED_UNDER_VOLTAGE (R121). -/
def execFeedUnderVoltage (f : FeedId) (s : State) : Host.Outcome State Fault Refusal :=
  run .hardware (fun s => feedUnderVoltage f s) s

/-- FEED_OVER_VOLTAGE (R121). -/
def execFeedOverVoltage (f : FeedId) (mv : Int) (s : State) : Host.Outcome State Fault Refusal :=
  run .hardware (fun s => feedOverVoltage f mv s) s

/-- FEED_OV_CLEARED (R118). -/
def execFeedOvCleared (f : FeedId) (s : State) : Host.Outcome State Fault Refusal :=
  run .hardware (fun s => feedOvCleared f s) s

/-- HOTSWAP_FET_FAULT (R124). -/
def execHotswapFetFault (f : FeedId) (s : State) : Host.Outcome State Fault Refusal :=
  run .hardware (fun s => hotswapFetFault f s) s

/-- FEED_REVERSE_CURRENT (R123). -/
def execFeedReverseCurrent (f : FeedId) (s : State) : Host.Outcome State Fault Refusal :=
  run .hardware (fun s => feedReverseCurrent f s) s

/-- OR_REVERSE_BLOCK (R122). -/
def execOrReverseBlock (f : FeedId) (s : State) : Host.Outcome State Fault Refusal :=
  run .hardware (fun s => orReverseBlock f s) s

/-- FEED_STABLE (R125). -/
def execFeedStable (f : FeedId) (s : State) : Host.Outcome State Fault Refusal :=
  run .hardware (fun s => feedStable f s) s

/-- FEED_ABSENT (R118). -/
def execFeedAbsent (f : FeedId) (s : State) : Host.Outcome State Fault Refusal :=
  run .hardware (fun s => feedAbsent f s) s

/-- FEED_LATCH_CLEAR (R133). -/
def execFeedLatchClear (m : Master) (f : FeedId) (s : State) : Host.Outcome State Fault Refusal :=
  runOn .hardware (fun s => writeReg m 0x808 (2 ^ f.idx) 0xF {} s) s

/-- MATE_DEBOUNCED (R127). -/
def execMateDebounced (s : State) : Host.Outcome State Fault Refusal :=
  run .hardware (fun s => mateDebounced s) s

/-- MATE_BREAK (R128). -/
def execMateBreak (s : State) : Host.Outcome State Fault Refusal :=
  run .hardware (fun s => s.mateBreak.mateGates) s

/-- FEED_PRESENT (R133). -/
def execFeedPresent (f : FeedId) (s : State) : Host.Outcome State Fault Refusal :=
  run .hardware (fun s => feedPresent f s) s

/-- MATE_N_LEVEL_CHANGE (R127). -/
def execMateNLevelChange (low : Bool) (s : State) : Host.Outcome State Fault Refusal :=
  run .hardware (fun s => mateNLevelChange low s) s

end Sys2Proof.Machine
end

