-- ==== Sys2Proof/Machine/ExecHost.lean ====
section
/-! DEFINITION. The host link and its rings (chapter 14): the meaning of each command, over the operations of the block's own file. -/

namespace Sys2Proof.Machine

open Sys2Proof

/-- CMD_DOORBELL (R387). -/
def execCmdDoorbell (ring : Fin 8) (w : Word) (be : BitVec 4) (s : State) : Host.Outcome State Fault Refusal :=
  runOn .hardware (fun s => cmdDoorbell ring w.toNat be.toNat s) s

/-- REC_DOORBELL (R387). -/
def execRecDoorbell (ring : Fin 16) (w : Word) (be : BitVec 4) (s : State) : Host.Outcome State Fault Refusal :=
  runOn .hardware (fun s => recDoorbell ring w.toNat be.toNat s) s

/-- DESCRIPTOR_RECEIVED (R392). -/
def execDescriptorReceived (ring : Fin 8) (bytes : List Byte) (s : State) : Host.Outcome State Fault Refusal :=
  runOn .hardware (fun s => descriptorReceived ring bytes s) s

/-- DMA_READ_ERROR (R388). -/
def execDmaReadError (ring : Fin 8) (s : State) : Host.Outcome State Fault Refusal :=
  runOn .hardware (fun s => dmaReadError ring s) s

/-- CMD_NOP (R391). -/
def execCmdNop (ring : Fin 8) (crcOk : Bool) (s : State) : Host.Outcome State Fault Refusal :=
  runOn .hardware (fun s => commandDispatched 1 ring crcOk s) s

/-- CMD_STEP (R391). -/
def execCmdStep (ring : Fin 8) (crcOk : Bool) (s : State) : Host.Outcome State Fault Refusal :=
  runOn .hardware (fun s => commandDispatched 2 ring crcOk s) s

/-- CMD_CTX_ARM (R110). -/
def execCmdCtxArm (ring : Fin 8) (crcOk : Bool) (s : State) : Host.Outcome State Fault Refusal :=
  runOn .hardware (fun s => commandDispatched 3 ring crcOk s) s

/-- CMD_POWER_STATE (R42). -/
def execCmdPowerState (ring : Fin 8) (crcOk : Bool) (s : State) : Host.Outcome State Fault Refusal :=
  runOn .hardware (fun s => commandDispatched 4 ring crcOk s) s

/-- CMD_CHIP_RESET (R242). -/
def execCmdChipReset (ring : Fin 8) (crcOk : Bool) (s : State) : Host.Outcome State Fault Refusal :=
  runOn .hardware (fun s => commandDispatched 5 ring crcOk s) s

/-- CMD_TWIN_LEAVE (R373). -/
def execCmdTwinLeave (ring : Fin 8) (crcOk : Bool) (s : State) : Host.Outcome State Fault Refusal :=
  runOn .hardware (fun s => commandDispatched 6 ring crcOk s) s

/-- CMD_LEND (R329). -/
def execCmdLend (ring : Fin 8) (crcOk : Bool) (s : State) : Host.Outcome State Fault Refusal :=
  runOn .hardware (fun s => commandDispatched 7 ring crcOk s) s

/-- TIMED_COMMAND_DUE (R394). -/
def execTimedCommandDue (crcOk : Bool) (s : State) : Host.Outcome State Fault Refusal :=
  runOn .hardware (fun s => timedCommandDue crcOk s.swapFirst) s

/-- DOORBELL_DELAY_END (R302). -/
def execDoorbellDelayEnd (ring : Fin 8) (s : State) : Host.Outcome State Fault Refusal :=
  runOn .hardware (fun s => doorbellDelayEnd ring s) s

/-- RING_ENABLE (R388). -/
def execRingEnable (m : Master) (ring : BitVec 5) (s : State) : Host.Outcome State Fault Refusal :=
  runOn .hardware (fun s => writeReg m 0x2204 (0x100 + ring.toNat) 0xF {} s) s

/-- RING_DISABLE (R388). -/
def execRingDisable (m : Master) (ring : BitVec 5) (s : State) : Host.Outcome State Fault Refusal :=
  runOn .hardware (fun s => writeReg m 0x2204 (0x200 + ring.toNat) 0xF {} s) s

/-- RECORD_DMA_WRITE (R399). -/
def execRecordDmaWrite (ring : Fin 16) (s : State) : Host.Outcome State Fault Refusal :=
  runOn .hardware (fun s => recordDmaWrite ring s) s

/-- RING_IRQ_TIMEOUT (R400). -/
def execRingIrqTimeout (ring : Fin 16) (s : State) : Host.Outcome State Fault Refusal :=
  runOn .hardware (fun s => ringIrqTimeout ring s) s

/-- LINK_DOWN (R404). -/
def execLinkDown (s : State) : Host.Outcome State Fault Refusal :=
  runOn .hardware (fun s => linkDown s) s

/-- HOT_RESET (R404). -/
def execHotReset (flr : Bool) (s : State) : Host.Outcome State Fault Refusal :=
  runOn .hardware (fun s => hotReset flr s) s

/-- LINK_UP (R404). -/
def execLinkUp (x : LinkCfg) (s : State) : Host.Outcome State Fault Refusal :=
  runOn .hardware (fun s => linkUp x s) s

/-- D3HOT_ENTRY (R404). -/
def execD3hotEntry (s : State) : Host.Outcome State Fault Refusal :=
  runOn .hardware (fun s => d3hotEntry s) s

/-- BUS_MASTER_CLEARED (R404). -/
def execBusMasterCleared (s : State) : Host.Outcome State Fault Refusal :=
  runOn .hardware (fun s => busMasterCleared s) s

/-- MSIX_ENABLED (R289). -/
def execMsixEnabled (enable fmask : Bool) (s : State) : Host.Outcome State Fault Refusal :=
  runOn .hardware (fun s => msixEnabled enable fmask s) s

/-- D0_ENTRY (R404). -/
def execD0Entry (s : State) : Host.Outcome State Fault Refusal :=
  runOn .hardware (fun s => d0Entry s) s

/-- MSIX_VECTOR_UNMASKED (R289). -/
def execMsixVectorUnmasked (x : MsixWrite) (s : State) : Host.Outcome State Fault Refusal :=
  runOn .hardware (fun s => msixVectorUnmasked x s) s

/-- RECORD_BACK_PRESSURE_END (R302). -/
def execRecordBackPressureEnd (s : State) : Host.Outcome State Fault Refusal :=
  runOn .hardware (fun s => recordBackPressureEnd s) s

end Sys2Proof.Machine
end

