-- ==== Sys2Proof/Machine/ExecKeep.lean ====
section
/-! DEFINITION. The watchdog, the OTP memory and the logbook (chapters 18 and 19): the meaning of each command, over the operations of the
block's own file. -/

namespace Sys2Proof.Machine

open Sys2Proof

/-- WDT_SERVE (R477). -/
def execWdtServe (m : Master) (w : Word) (s : State) : Host.Outcome State Fault Refusal :=
  runOn .hardware (fun s => writeReg m 0x2C04 (w.toNat) 0xF {} s) s

/-- WDT_START (R475). -/
def execWdtStart (m : Master) (w : Word) (s : State) : Host.Outcome State Fault Refusal :=
  runOn .hardware (fun s => writeReg m 0x2C08 (mOr w.toNat 1) 0xF {} s) s

/-- WDT_STOP (R475). -/
def execWdtStop (m : Master) (w : Word) (s : State) : Host.Outcome State Fault Refusal :=
  runOn .hardware (fun s => writeReg m 0x2C08 (mOr w.toNat 2) 0xF {} s) s

/-- WDT_SLOT_EXPIRED (R478). -/
def execWdtSlotExpired (slots : BitVec 16) (s : State) : Host.Outcome State Fault Refusal :=
  runOn .hardware (fun s => wdtSlotExpired slots.toNat s) s

/-- HOST_RESET_PULSE_END (R481). -/
def execHostResetPulseEnd (s : State) : Host.Outcome State Fault Refusal :=
  runOn .hardware (fun s => hostResetPulseEnd s) s

/-- LADDER_RETURN (R480). -/
def execLadderReturn (s : State) : Host.Outcome State Fault Refusal :=
  runOn .hardware (fun s => ladderReturn s) s

/-- ATTEMPTS_CLEAR (R482). -/
def execAttemptsClear (s : State) : Host.Outcome State Fault Refusal :=
  runOn .hardware (fun s => attemptsClear s) s

/-- OTP_READ (R497). -/
def execOtpRead (m : Master) (w : Word) (s : State) : Host.Outcome State Fault Refusal :=
  runOn .hardware (fun s => writeReg m 0x2E0C (w.toNat / 8 * 8 + 1) 0xF {} s) s

/-- OTP_PROGRAM (R498). -/
def execOtpProgram (m : Master) (w : Word) (o : WriteObs) (s : State) : Host.Outcome State Fault Refusal :=
  runOn .hardware (fun s => writeReg m 0x2E0C (w.toNat / 8 * 8 + 2) 0xF o s) s

/-- OTP_FINALISE (R498). -/
def execOtpFinalise (m : Master) (w : Word) (o : WriteObs) (s : State) : Host.Outcome State Fault Refusal :=
  runOn .hardware (fun s => writeReg m 0x2E0C (w.toNat / 8 * 8 + 3) 0xF o s) s

/-- OTP_CHECK (R498). -/
def execOtpCheck (m : Master) (w : Word) (s : State) : Host.Outcome State Fault Refusal :=
  runOn .hardware (fun s => writeReg m 0x2E0C (w.toNat / 8 * 8 + 4) 0xF {} s) s

/-- OTP_COMMAND_DONE (R497). -/
def execOtpCommandDone (ecc : Ecc) (s : State) : Host.Outcome State Fault Refusal :=
  runOn .hardware (fun s => otpCommandDone ecc s) s

/-- LOGBOOK_SAVE_START (R500). -/
def execLogbookSaveStart (reserve : Bool) (s : State) : Host.Outcome State Fault Refusal :=
  runOn .hardware (fun s => logbookSaveStart reserve s) s

/-- LOGBOOK_SAVE_DONE (R500). -/
def execLogbookSaveDone (lost : Bool) (s : State) : Host.Outcome State Fault Refusal :=
  runOn .hardware (fun s => logbookSaveDone lost s) s

/-- TOKEN_ACCRUAL (R502). -/
def execTokenAccrual (s : State) : Host.Outcome State Fault Refusal :=
  runOn .hardware (fun s => tokenAccrual s) s

/-- LOG_FLUSH (R503). -/
def execLogFlush (m : Master) (w : Word) (s : State) : Host.Outcome State Fault Refusal :=
  runOn .hardware (fun s => writeReg m 0x3010 (mOr w.toNat 1) 0xF {} s) s

/-- ISLAND_POWER_RETURN (R424). -/
def execIslandPowerReturn (isl : Island) (s : State) : Host.Outcome State Fault Refusal :=
  runOn .hardware (fun s => islandPowerReturn isl s) s

end Sys2Proof.Machine
end

