-- ==== Sys2Proof/Machine/ExecMeas.lean ====
section
/-! DEFINITION. Measurement and metrology (chapters 15 and 16): the meaning of each command, over the operations of the block's own file. -/

namespace Sys2Proof.Machine

open Sys2Proof

/-- ADC_TRIG_EDGE (R412). -/
def execAdcTrigEdge (rising : Bool) (s : State) : Host.Outcome State Fault Refusal :=
  run .hardware (fun s => adcTrigPin rising s) s

/-- ADC_CONVERSION_DONE (R413). -/
def execAdcConversionDone (mc : Fin 2) (at_ : ConvSlot) (code : BitVec 16) (openWire : Bool) (asks : List Service) (s : State) :
    Host.Outcome State Fault Refusal :=
  runOn .hardware (fun s => adcConversionDone mc at_ code.toNat openWire asks s) s

/-- OPEN_WIRE_CHECK (R418). -/
def execOpenWireCheck (n : Fin 16) (up : Nat) (dn : Nat) (s : State) : Host.Outcome State Fault Refusal :=
  runOn .hardware (fun s => openWireCheck n up dn s) s

/-- MET_RECORD_RECEIVED (R430). -/
def execMetRecordReceived (bad : Option (List Byte)) (s : State) : Host.Outcome State Fault Refusal :=
  run .hardware (fun s => metRecordReceived bad s) s

/-- MET_LINK_LOSS (R432). -/
def execMetLinkLoss (s : State) : Host.Outcome State Fault Refusal :=
  runOn .hardware (fun s => metLinkLoss s) s

/-- MET_PROBE_END (R433). -/
def execMetProbeEnd (s : State) : Host.Outcome State Fault Refusal :=
  runOn .hardware (fun s => metProbeEnd s) s

/-- MET_TIME (R431). -/
def execMetTime (crcOk : Bool) (s : State) : Host.Outcome State Fault Refusal :=
  run .hardware (fun s => metTime crcOk s) s

/-- MET_CONFIG (R431). -/
def execMetConfig (crcOk : Bool) (s : State) : Host.Outcome State Fault Refusal :=
  run .hardware (fun s => metConfig crcOk s) s

/-- MET_READ (R431). -/
def execMetRead (home : BitVec 14) (crcOk : Bool) (l : List MetSample) (s : State) : Host.Outcome State Fault Refusal :=
  run .hardware (fun s => metRead home.toNat crcOk l s) s

/-- MET_GROUP_BOUNDARY (R445). -/
def execMetGroupBoundary (ext : BitVec 64) (l : List MetSample) (s : State) : Host.Outcome State Fault Refusal :=
  run .hardware (fun s => metGroupBoundary ext.toNat l s) s

/-- MET_STORE_SAVE (R438). -/
def execMetStoreSave (falling : Bool) (l : List MetSample) (s : State) : Host.Outcome State Fault Refusal :=
  run .hardware (fun s => metStoreSave falling l s) s

/-- MVDD_START (R438). -/
def execMvddStart (newerOk : Bool) (olderOk : Bool) (digestOk : Bool) (s : State) : Host.Outcome State Fault Refusal :=
  run .hardware (fun s => mvddStart newerOk olderOk digestOk s) s

/-- MET_CHECK_DISAGREE (R436). -/
def execMetCheckDisagree (on : Bool) (s : State) : Host.Outcome State Fault Refusal :=
  run .hardware (fun s => metCheckDisagree on s) s

/-- MET_TIME_LOSS (R445). -/
def execMetTimeLoss (s : State) : Host.Outcome State Fault Refusal :=
  run .hardware (fun s => metTimeLoss s) s

/-- CAL_PORT_WRITE (R441). -/
def execCalPortWrite (en : Bool) (ptr : Byte) (v : Word) (supply : Bool) (s : State) : Host.Outcome State Fault Refusal :=
  run .hardware (fun s => calPortWrite en ptr.toNat v.toNat supply s) s

/-- CAL_PORT_READ (R441). -/
def execCalPortRead (en : Bool) (ptr : Byte) (n : Nat) (s : State) : Host.Outcome State Fault Refusal :=
  run .hardware (fun s => calPortRead en ptr.toNat n s) s

/-- SEAL (R442). -/
def execSeal (en : Bool) (v : Word) (supply : Bool) (s : State) : Host.Outcome State Fault Refusal :=
  run .hardware (fun s => sealWrite en v.toNat supply s) s

/-- SEAL_DONE (R442). -/
def execSealDone (s : State) : Host.Outcome State Fault Refusal :=
  run .hardware (fun s => sealDone s) s

end Sys2Proof.Machine
end

