-- ==== Sys2Proof/Machine/ExecRegs.lean ====
section
/-! DEFINITION. Commit, the register file, the mailbox and the two-wire bus (chapter 2): the meaning of each command, over the operations of
the block's own file. -/

namespace Sys2Proof.Machine

open Sys2Proof

/-- COMMIT_GO (R70). -/
def execCommitGo (m : Master) (w : Word) (s : State) : Host.Outcome State Fault Refusal :=
  runOn .hardware (fun s => writeReg m 0x200 (mOr w.toNat 1) 0xF {} s) s

/-- COMMIT_ABORT (R74). -/
def execCommitAbort (m : Master) (w : Word) (s : State) : Host.Outcome State Fault Refusal :=
  runOn .hardware (fun s => writeReg m 0x200 (mOr w.toNat 2) 0xF {} s) s

/-- COMMIT_DISCARD (R69). -/
def execCommitDiscard (m : Master) (w : Word) (s : State) : Host.Outcome State Fault Refusal :=
  runOn .hardware (fun s => writeReg m 0x200 (mOr w.toNat 4) 0xF {} s) s

/-- VALIDATION_END (R71). -/
def execValidationEnd (s : State) : Host.Outcome State Fault Refusal :=
  runOn .commit (fun s => validationEnd s) s

/-- COMMIT_SWAP (R70). -/
def execCommitSwap (s : State) : Host.Outcome State Fault Refusal :=
  runOn .commit (fun s => commitSwap s) s

/-- COMMIT_COPY_DONE (R70). -/
def execCommitCopyDone (s : State) : Host.Outcome State Fault Refusal :=
  runOn .commit (fun s => commitCopyDone s) s

/-- OWNERSHIP_IDLE_RELEASE (R69). -/
def execOwnershipIdleRelease (s : State) : Host.Outcome State Fault Refusal :=
  runOn .hardware (fun s => ownershipIdleRelease s) s

/-- REGISTER_WRITE (R56). -/
def execRegisterWrite (m : Master) (addr : BitVec 16) (w : Word) (be : BitVec 4) (o : WriteObs) (s : State) : Host.Outcome State Fault Refusal :=
  runOn .hardware (fun s => writeReg m addr.toNat w.toNat be.toNat o s) s

/-- ALIAS_STATUS_READ (R55). -/
def execAliasStatusRead (m : Master) (addr : BitVec 16) (s : State) : Host.Outcome State Fault Refusal :=
  runOn (.ofMaster m) (fun s => readReg m addr.toNat [] s) s

/-- RC_FIELD_READ (R60). -/
def execRcFieldRead (m : Master) (addr : BitVec 16) (s : State) : Host.Outcome State Fault Refusal :=
  runOn (.ofMaster m) (fun s => readReg m addr.toNat [] s) s

/-- FB_STAT_READ (R288). -/
def execFbStatRead (m : Master) (b : Fin 23) (s : State) : Host.Outcome State Fault Refusal :=
  runOn (.ofMaster m) (fun s => readReg m (0x3300 + 4 * b.val) [] s) s

/-- MBX_READ_REQUEST (R64). -/
def execMbxReadRequest (m : Master) (home : BitVec 14) (s : State) : Host.Outcome State Fault Refusal :=
  runOn .hardware (fun s => writeReg m 0x3F00 (0x40000000 + home.toNat) 0xF {} s) s

/-- MBX_WRITE_REQUEST (R64). -/
def execMbxWriteRequest (m : Master) (home : BitVec 14) (s : State) : Host.Outcome State Fault Refusal :=
  runOn .hardware (fun s => writeReg m 0x3F00 (0x80000000 + home.toNat) 0xF {} s) s

/-- MBX_COMPLETE (R64). -/
def execMbxComplete (m : Master) (s : State) : Host.Outcome State Fault Refusal :=
  runOn .hardware (fun s => mbxComplete m s) s

/-- SCRUB_PASS (R58). -/
def execScrubPass (found : List Found) (s : State) : Host.Outcome State Fault Refusal :=
  runOn .hardware (fun s => scrubPass found s) s

/-- TW_ADDRESS_BYTE (R80). -/
def execTwAddressByte (read : Bool) (s : State) : Host.Outcome State Fault Refusal :=
  runOn .hardware (fun s => twAddressByte read s) s

/-- TW_POINTER_BYTE (R77). -/
def execTwPointerByte (b : Byte) (s : State) : Host.Outcome State Fault Refusal :=
  runOn .hardware (fun s => twPointerByte b s) s

/-- TW_DATA_BYTE_WRITE (R78). -/
def execTwDataByteWrite (b : Byte) (o : WriteObs) (s : State) : Host.Outcome State Fault Refusal :=
  runOn .hardware (fun s => twDataByteWrite b o s) s

/-- TW_DATA_BYTE_READ (R79). -/
def execTwDataByteRead (s : State) : Host.Outcome State Fault Refusal :=
  runOn .twoWireRead (fun s => twDataByteRead s) s

/-- TW_STOP (R78). -/
def execTwStop (s : State) : Host.Outcome State Fault Refusal :=
  runOn .hardware (fun s => twStop s) s

/-- TW_READAHEAD_DONE (R80). -/
def execTwReadaheadDone (s : State) : Host.Outcome State Fault Refusal :=
  runOn .twoWireRead (fun s => twReadaheadDone s) s

/-- TW_READAHEAD_EXPIRED (R80). -/
def execTwReadaheadExpired (s : State) : Host.Outcome State Fault Refusal :=
  runOn .hardware (fun s => twReadaheadExpired s) s

/-- TW_MISPLACED (R81). -/
def execTwMisplaced (s : State) : Host.Outcome State Fault Refusal :=
  runOn .hardware (fun s => twMisplaced s) s

/-- TW_TX_CONFLICT (R81). -/
def execTwTxConflict (s : State) : Host.Outcome State Fault Refusal :=
  runOn .hardware (fun s => twTxConflict s) s

/-- TW_BUS_TIMEOUT (R81). -/
def execTwBusTimeout (s : State) : Host.Outcome State Fault Refusal :=
  runOn .hardware (fun s => twBusTimeout s) s

/-- VOTED_FIELD_READ (R57). -/
def execVotedFieldRead (m : Master) (addr : BitVec 16) (found : List Found) (s : State) : Host.Outcome State Fault Refusal :=
  runOn .hardware (fun s => readReg m addr.toNat found s) s

end Sys2Proof.Machine
end

