-- ==== Sys2Proof/Machine/ExecReset.lean ====
section
/-! DEFINITION. Resets and power states (R32 to R46, R242, R330, R504): the meaning of each command, over the operations of the block's own
file. -/

namespace Sys2Proof.Machine

open Sys2Proof

/-- POWER_ON_RESET (R504). -/
def execPowerOnReset (s : State) : Host.Outcome State Fault Refusal :=
  run .hardware (fun s => powerOnReset s) s

/-- BROWN_OUT_RESET (R34). -/
def execBrownOutReset (aonUp : Bool) (s : State) : Host.Outcome State Fault Refusal :=
  run .hardware (fun s => brownOutReset aonUp s) s

/-- RESET_N_ASSERTED (R242). -/
def execResetNAsserted (s : State) : Host.Outcome State Fault Refusal :=
  run .hardware (fun s => resetNAsserted s) s

/-- CHIP_RESET (R67). -/
def execChipReset (o : BootObs) (s : State) : Host.Outcome State Fault Refusal :=
  run .commit (fun s => chipReset o s) s

/-- OTP_DIGEST_CHECKS_DONE (R41). -/
def execOtpDigestChecksDone (s : State) : Host.Outcome State Fault Refusal :=
  run .hardware (fun s => otpDigestChecksDone s) s

/-- LONG_PRESS (R330). -/
def execLongPress (s : State) : Host.Outcome State Fault Refusal :=
  run .hardware (fun s => longPress s) s

/-- LONG_PRESS_OPEN_END (R330). -/
def execLongPressOpenEnd (s : State) : Host.Outcome State Fault Refusal :=
  run .hardware (fun s => longPressOpenEnd s) s

/-- BUTTON_PRESS (R330). -/
def execButtonPress (s : State) : Host.Outcome State Fault Refusal :=
  run .hardware (fun s => buttonPress s) s

/-- DORMANT_WAKE (R41). -/
def execDormantWake (w : List WakeSrc) (s : State) : Host.Outcome State Fault Refusal :=
  run .hardware (fun s => dormantWake w s) s

/-- SHIP_WAKE (R41). -/
def execShipWake (button : Bool) (s : State) : Host.Outcome State Fault Refusal :=
  run .hardware (fun s => shipWake button s) s

/-- DORMANT_SAMPLE (R349). -/
def execDormantSample (x : EstReading) (s : State) : Host.Outcome State Fault Refusal :=
  run .hardware (fun s => dormantSample x s) s

/-- ISLAND_POWER_LOSS (R34). -/
def execIslandPowerLoss (isl : Island) (s : State) : Host.Outcome State Fault Refusal :=
  runOn .hardware (fun s => islandPowerLoss isl s) s

end Sys2Proof.Machine
end

