-- ==== Sys2Proof/Machine/ExecSeq.lean ====
section
/-! DEFINITION. The sequencer (chapter 8): the meaning of each command, over the operations of the block's own file. -/

namespace Sys2Proof.Machine

open Sys2Proof

/-- PRIMING_STEP_START (R226). -/
def execPrimingStepStart (r : Rail) (vinOk : Bool) (dead : Bool) (s : State) : Host.Outcome State Fault Refusal :=
  runOn .hardware (fun s => (primingStepStart r vinOk s).deadBus r dead) s

/-- POWER_GOOD (R259). -/
def execPowerGood (r : Rail) (s : State) : Host.Outcome State Fault Refusal :=
  runOn .hardware (fun s => powerGood r s) s

/-- PG_DEADLINE_PASSED (R232). -/
def execPgDeadlinePassed (r : Rail) (s : State) : Host.Outcome State Fault Refusal :=
  runOn .hardware (fun s => pgDeadlinePassed r s) s

/-- START_RETRY (R232). -/
def execStartRetry (r : Rail) (vinOk : Bool) (dead : Bool) (s : State) : Host.Outcome State Fault Refusal :=
  runOn .hardware (fun s => (startRetry r vinOk s).deadBus r dead) s

/-- RUNNING_FAULT (R236). -/
def execRunningFault (r : Rail) (cause : Byte) (s : State) : Host.Outcome State Fault Refusal :=
  runOn .hardware (fun s => s.railFault r cause.toNat) s

/-- PFW_LEAD_END (R231). -/
def execPfwLeadEnd (rails : BitVec 24) (s : State) : Host.Outcome State Fault Refusal :=
  runOn .hardware (fun s => pfwLeadEnd rails.toNat s) s

/-- DRAIN_STEP_START (R227). -/
def execDrainStepStart (r : Rail) (s : State) : Host.Outcome State Fault Refusal :=
  runOn .hardware (fun s => drainStepStart r s) s

/-- DRAIN_STEP_END (R227). -/
def execDrainStepEnd (r : Rail) (s : State) : Host.Outcome State Fault Refusal :=
  runOn .hardware (fun s => drainStepEnd r s) s

/-- DRAIN_TIMEOUT (R239). -/
def execDrainTimeout (r : Rail) (s : State) : Host.Outcome State Fault Refusal :=
  runOn .hardware (fun s => drainTimeout r s) s

/-- DISCHARGE_TIMEOUT (R239). -/
def execDischargeTimeout (r : Rail) (s : State) : Host.Outcome State Fault Refusal :=
  runOn .hardware (fun s => dischargeTimeout r s) s

/-- SEQ_UNLATCH (R234). -/
def execSeqUnlatch (m : Master) (w : Word) (s : State) : Host.Outcome State Fault Refusal :=
  runOn .hardware (fun s => writeReg m 0x1408 (mOr w.toNat 1) 0xF {} s) s

/-- LANE_DIVERGENCE (R229). -/
def execLaneDivergence (lane : Fin 3) (persists : Bool) (s : State) : Host.Outcome State Fault Refusal :=
  runOn .hardware (fun s => laneDivergence lane persists s) s

/-- AUTO_PRIME_START (R242). -/
def execAutoPrimeStart (s : State) : Host.Outcome State Fault Refusal :=
  runOn .hardware (fun s => autoPrimeStart s) s

/-- RESET_DRAIN_DONE (R242). -/
def execResetDrainDone (s : State) : Host.Outcome State Fault Refusal :=
  runOn .hardware (fun s => resetDrainDone s) s

end Sys2Proof.Machine
end

