-- ==== Sys2Proof/Machine/ExecStage.lean ====
section
/-! DEFINITION. Cistern arrays, channels, header, auxiliary and linear rails (chapters 5 to 7): the meaning of each command, over the
operations of the block's own file. -/

namespace Sys2Proof.Machine

open Sys2Proof

/-- CA_BACKGROUND_SCAN (R136). -/
def execCaBackgroundScan (c : Chan) (opened : List (Arr × Nat)) (s : State) : Host.Outcome State Fault Refusal :=
  runOn .hardware (fun s => caBackgroundScan c opened s) s

/-- CA_RETIRE (R138). -/
def execCaRetire (m : Master) (w : Word) (s : State) : Host.Outcome State Fault Refusal :=
  runOn .hardware (fun s => writeReg m 0x123C (mOr w.toNat 8) 0xF {} s) s

/-- CA_ROTATE (R144). -/
def execCaRotate (m : Master) (w : Word) (s : State) : Host.Outcome State Fault Refusal :=
  runOn .hardware (fun s => writeReg m 0x123C (mOr w.toNat 4) 0xF {} s) s

/-- CA_SCAN (R136). -/
def execCaScan (m : Master) (w : Word) (opened : List (Arr × Nat)) (s : State) : Host.Outcome State Fault Refusal :=
  runOn .hardware (fun s => writeReg m 0x123C (mOr w.toNat 2) 0xF { opened } s) s

/-- CA_PROBE (R147). -/
def execCaProbe (m : Master) (w : Word) (s : State) : Host.Outcome State Fault Refusal :=
  runOn .hardware (fun s => writeReg m 0x123C (mOr w.toNat 1) 0xF {} s) s

/-- ADAPT_STEP (R140). -/
def execAdaptStep (c : Chan) (iAvg : Nat) (s : State) : Host.Outcome State Fault Refusal :=
  runOn .hardware (fun s => adaptStep c iAvg s) s

/-- LOAD_STEP_DETECTED (R141). -/
def execLoadStepDetected (c : Chan) (s : State) : Host.Outcome State Fault Refusal :=
  runOn .hardware (fun s => loadStepDetected c s) s

/-- FREEZE_END (R141). -/
def execFreezeEnd (c : Chan) (s : State) : Host.Outcome State Fault Refusal :=
  runOn .hardware (fun s => freezeEnd c s) s

/-- PROBE_START (R147). -/
def execProbeStart (c : Chan) (a : Arr) (s : State) : Host.Outcome State Fault Refusal :=
  runOn .hardware (fun s => probeStart c a s) s

/-- PROBE_DONE (R147). -/
def execProbeDone (c : Chan) (a : Arr) (p : ProbeResult) (s : State) : Host.Outcome State Fault Refusal :=
  runOn .hardware (fun s => probeDone c a p s) s

/-- BANK_DRIVER_LOSS (R149). -/
def execBankDriverLoss (c : Chan) (a : Arr) (bank : Fin 16) (leaking : Bool) (s : State) : Host.Outcome State Fault Refusal :=
  runOn .hardware (fun s => bankDriverLoss c a bank leaking s) s

/-- SHORT_TRIGGER (R151). -/
def execShortTrigger (c : Chan) (k : ShortKind) (confirmed : Bool) (bothStuck : Bool) (vhdrOk : Bool) (s : State) : Host.Outcome State Fault Refusal :=
  runOn .hardware (fun s => shortTrigger c k confirmed bothStuck vhdrOk s) s

/-- FLUSH_END (R153). -/
def execFlushEnd (c : Chan) (x : FlushScan) (s : State) : Host.Outcome State Fault Refusal :=
  runOn .hardware (fun s => flushEnd c x s) s

/-- SECOND_FLUSH (R153). -/
def execSecondFlush (c : Chan) (x : FlushScan) (s : State) : Host.Outcome State Fault Refusal :=
  runOn .hardware (fun s => secondFlush c x s) s

/-- WEAR_SAVE (R146). -/
def execWearSave (s : State) : Host.Outcome State Fault Refusal :=
  runOn .hardware (fun s => wearSave s) s

/-- RAMP_COMPLETE (R175). -/
def execRampComplete (r : Rail) (s : State) : Host.Outcome State Fault Refusal :=
  runOn .hardware (fun s => rampComplete r s) s

/-- RAMP_STALL (R177). -/
def execRampStall (r : Rail) (s : State) : Host.Outcome State Fault Refusal :=
  runOn .hardware (fun s => rampStall r s) s

/-- OVER_CURRENT (R179). -/
def execOverCurrent (r : Rail) (steady : Bool) (s : State) : Host.Outcome State Fault Refusal :=
  runOn .hardware (fun s => overCurrent r steady s) s

/-- HICCUP_END (R179). -/
def execHiccupEnd (r : Rail) (s : State) : Host.Outcome State Fault Refusal :=
  runOn .hardware (fun s => hiccupEnd r s) s

/-- OUTPUT_OVER_VOLTAGE (R180). -/
def execOutputOverVoltage (r : Rail) (mv : Int) (s : State) : Host.Outcome State Fault Refusal :=
  runOn .hardware (fun s => outputOverVoltage r mv s) s

/-- CHANNEL_DRAIN_END (R181). -/
def execChannelDrainEnd (r : Rail) (s : State) : Host.Outcome State Fault Refusal :=
  runOn .hardware (fun s => channelDrainEnd r s) s

/-- SENSE_LOSS (R183). -/
def execSenseLoss (c : Chan) (s : State) : Host.Outcome State Fault Refusal :=
  runOn .hardware (fun s => senseLoss c s) s

/-- SNS_RETRY (R183). -/
def execSnsRetry (m : Master) (c : Chan) (s : State) : Host.Outcome State Fault Refusal :=
  runOn .hardware (fun s => writeReg m (0xC38 + 0x80 * c.val) 1 0xF {} s) s

/-- LOCKSTEP_MISMATCH (R185). -/
def execLockstepMismatch (u : CtlUnit) (s : State) : Host.Outcome State Fault Refusal :=
  runOn .hardware (fun s => lockstepMismatch u s) s

/-- CONTROLLER_BIST_DONE (R186). -/
def execControllerBistDone (u : CtlUnit) (halves : Fin 3) (s : State) : Host.Outcome State Fault Refusal :=
  runOn .hardware (fun s => controllerBistDone u halves s) s

/-- CHANNEL_OVER_TEMP (R188). -/
def execChannelOverTemp (c : Chan) (t : Int) (s : State) : Host.Outcome State Fault Refusal :=
  runOn .hardware (fun s => channelOverTemp c t s) s

/-- TELEMETRY_WINDOW_END (R190). -/
def execTelemetryWindowEnd (r : Rail) (x : TelWindow) (s : State) : Host.Outcome State Fault Refusal :=
  runOn .hardware (fun s => (telemetryWindowEnd r x s).twCurrent r x.iAvg) s

/-- PHASE_LOSS (R208). -/
def execPhaseLoss (p : Fin 3) (cause : Fin 8) (s : State) : Host.Outcome State Fault Refusal :=
  runOn .hardware (fun s => phaseLoss p cause s) s

/-- PH_RETRY (R208). -/
def execPhRetry (m : Master) (w : Word) (s : State) : Host.Outcome State Fault Refusal :=
  runOn .hardware (fun s => writeReg m 0xA18 (w.toNat) 0xF {} s) s

/-- PH_RETRY_DONE (R208). -/
def execPhRetryDone (p : Fin 3) (passed : Bool) (s : State) : Host.Outcome State Fault Refusal :=
  runOn .hardware (fun s => phRetryDone p passed s) s

/-- PUMP_INPUT_LOW (R203). -/
def execPumpInputLow (s : State) : Host.Outcome State Fault Refusal :=
  runOn .hardware (fun s => pumpInputLow s) s

/-- OVERLOAD_SHED (R205). -/
def execOverloadShed (s : State) : Host.Outcome State Fault Refusal :=
  runOn .hardware (fun s => overloadShed s) s

/-- PERSIST_OVERLOAD (R205). -/
def execPersistOverload (s : State) : Host.Outcome State Fault Refusal :=
  runOn .hardware (fun s => persistOverload s) s

/-- LDO_THERMAL_SHUTDOWN (R213). -/
def execLdoThermalShutdown (k : Fin 6) (above : Bool) (s : State) : Host.Outcome State Fault Refusal :=
  runOn .hardware (fun s => ldoThermal k above s) s

/-- SWITCH_LIMIT_EXPIRY (R215). -/
def execSwitchLimitExpiry (j : Fin 3) (s : State) : Host.Outcome State Fault Refusal :=
  runOn .hardware (fun s => switchLimitExpiry j s) s

/-- SWITCH_REVERSE_BLOCK (R215). -/
def execSwitchReverseBlock (j : Fin 3) (on : Bool) (s : State) : Host.Outcome State Fault Refusal :=
  runOn .hardware (fun s => switchReverseBlock j on s) s

/-- SNS_RETRY_DONE (R183). -/
def execSnsRetryDone (c : Chan) (good : Bool) (s : State) : Host.Outcome State Fault Refusal :=
  runOn .hardware (fun s => snsRetryDone c good s) s

end Sys2Proof.Machine
end

