-- ==== Sys2Proof/Machine/ExecTime.lean ====
section
/-! DEFINITION. The stroke time base and the action scheduler (chapter 3): the meaning of each command, over the operations of the block's
own file. -/

namespace Sys2Proof.Machine

open Sys2Proof

/-- MAINS_VALID (R90). -/
def execMainsValid (s : State) : Host.Outcome State Fault Refusal :=
  runOn .hardware (fun s => mainsValid s) s

/-- LOCK_ACQUIRED (R90). -/
def execLockAcquired (mHz : Nat) (theta : BitVec 16) (s : State) : Host.Outcome State Fault Refusal :=
  runOn .hardware (fun s => (lockAcquired mHz theta.toNat s).skipFollow) s

/-- MAINS_LOST (R90). -/
def execMainsLost (ampl : Bool) (s : State) : Host.Outcome State Fault Refusal :=
  runOn .hardware (fun s => mainsLost ampl s) s

/-- PHASE_JUMP (R90). -/
def execPhaseJump (s : State) : Host.Outcome State Fault Refusal :=
  runOn .hardware (fun s => phaseJump s) s

/-- HOLDOVER_AMBIGUOUS (R93). -/
def execHoldoverAmbiguous (s : State) : Host.Outcome State Fault Refusal :=
  runOn .hardware (fun s => holdoverAmbiguous s) s

/-- STROKE_BOUNDARY (R95). -/
def execStrokeBoundary (m : StrokeMeas) (s : State) : Host.Outcome State Fault Refusal :=
  runOn .hardware (fun s => (strokeBoundary m s).skipFollow.twBoundary) s

/-- PPS_EDGE (R98). -/
def execPpsEdge (rising : Bool) (s : State) : Host.Outcome State Fault Refusal :=
  run .hardware (fun s => ppsEdge rising s) s

/-- ALIGN_ARM (R99). -/
def execAlignArm (m : Master) (w : Word) (s : State) : Host.Outcome State Fault Refusal :=
  runOn .hardware (fun s => writeReg m 0x430 (mOr w.toNat 1) 0xF {} s) s

/-- ALIGN_STEP (R99). -/
def execAlignStep (m : Master) (w : Word) (s : State) : Host.Outcome State Fault Refusal :=
  runOn .hardware (fun s => writeReg m 0x430 (mOr w.toNat 2) 0xF {} s) s

/-- ANGLE_SLOT_START (R106). -/
def execAngleSlotStart (s : State) : Host.Outcome State Fault Refusal :=
  runOn .hardware (fun s => angleSlotStart (commitSwap s)) s

/-- DEFERRED_CONTEXT_LAUNCH (R104). -/
def execDeferredContextLaunch (c : CtxId) (s : State) : Host.Outcome State Fault Refusal :=
  runOn .hardware (fun s => deferredContextLaunch c s.swapFirst) s

/-- CONTEXT_DEADLINE_PASSED (R104). -/
def execContextDeadlinePassed (c : CtxId) (s : State) : Host.Outcome State Fault Refusal :=
  runOn .hardware (fun s => contextDeadlinePassed c s) s

/-- STEP_RAIL_EN (R103). -/
def execStepRailEn (c : CtxId) (s : State) : Host.Outcome State Fault Refusal :=
  runOn .hardware (fun s => s.ctxStep c 1) s

/-- STEP_RAIL_SET (R178). -/
def execStepRailSet (c : CtxId) (s : State) : Host.Outcome State Fault Refusal :=
  runOn .hardware (fun s => s.ctxStep c 2) s

/-- STEP_GROUP (R231). -/
def execStepGroup (c : CtxId) (s : State) : Host.Outcome State Fault Refusal :=
  runOn .hardware (fun s => s.ctxStep c 3) s

/-- STEP_ADC_BURST (R422). -/
def execStepAdcBurst (c : CtxId) (s : State) : Host.Outcome State Fault Refusal :=
  runOn .hardware (fun s => s.ctxStep c 4) s

/-- STEP_TIMER (R466). -/
def execStepTimer (c : CtxId) (s : State) : Host.Outcome State Fault Refusal :=
  runOn .hardware (fun s => s.ctxStep c 5) s

/-- STEP_SIG (R103). -/
def execStepSig (c : CtxId) (s : State) : Host.Outcome State Fault Refusal :=
  runOn .hardware (fun s => s.ctxStep c 6) s

/-- STEP_LEARN (R345). -/
def execStepLearn (c : CtxId) (s : State) : Host.Outcome State Fault Refusal :=
  runOn .hardware (fun s => s.ctxStep c 7) s

/-- STEP_ROTATE (R144). -/
def execStepRotate (c : CtxId) (s : State) : Host.Outcome State Fault Refusal :=
  runOn .hardware (fun s => s.ctxStep c 8) s

/-- STEP_WAIT_END (R103). -/
def execStepWaitEnd (c : CtxId) (s : State) : Host.Outcome State Fault Refusal :=
  runOn .hardware (fun s => s.ctxStep c 9) s

/-- PPS_SEEN_TIMEOUT (R113). -/
def execPpsSeenTimeout (s : State) : Host.Outcome State Fault Refusal :=
  runOn .hardware (fun s => ppsSeenTimeout s) s

end Sys2Proof.Machine
end

