-- ==== Sys2Proof/Machine/ExecTwin.lean ====
section
/-! DEFINITION. Twin operation (chapter 13): the meaning of each command, over the operations of the block's own file. -/

namespace Sys2Proof.Machine

open Sys2Proof

/-- PRESENT_DEBOUNCED (R368). -/
def execPresentDebounced (s : State) : Host.Outcome State Fault Refusal :=
  runOn .hardware (fun s => presentDebounced s) s

/-- PARTNER_REMOVAL (R374). -/
def execPartnerRemoval (s : State) : Host.Outcome State Fault Refusal :=
  runOn .hardware (fun s => partnerRemoval s) s

/-- TWIN_LINK_UP (R365). -/
def execTwinLinkUp (s : State) : Host.Outcome State Fault Refusal :=
  runOn .hardware (fun s => twinLinkUp s) s

/-- HEARTBEAT_LOSS (R365). -/
def execHeartbeatLoss (s : State) : Host.Outcome State Fault Refusal :=
  runOn .hardware (fun s => heartbeatLoss s) s

/-- LINK_WAIT_TIMEOUT (R368). -/
def execLinkWaitTimeout (s : State) : Host.Outcome State Fault Refusal :=
  runOn .hardware (fun s => linkWaitTimeout s) s

/-- TWIN_FRAME (R365). -/
def execTwinFrame (bytes : List Byte) (codeErr : Bool) (s : State) : Host.Outcome State Fault Refusal :=
  runOn .hardware (fun s => twinFrame bytes codeErr s) s

/-- MIRROR_PASS (R366). -/
def execMirrorPass (s : State) : Host.Outcome State Fault Refusal :=
  runOn .hardware (fun s => mirrorPass s) s

/-- LEAVE_REQ (R373). -/
def execLeaveReq (s : State) : Host.Outcome State Fault Refusal :=
  runOn .hardware (fun s => leaveReq s) s

/-- LEAVE_ACK (R373). -/
def execLeaveAck (count : BitVec 32) (s : State) : Host.Outcome State Fault Refusal :=
  runOn .hardware (fun s => leaveAck count.toNat s) s

/-- LEAVE_NAK (R373). -/
def execLeaveNak (reason : Byte) (s : State) : Host.Outcome State Fault Refusal :=
  runOn .hardware (fun s => leaveNak reason.toNat s) s

/-- LEND_REQ (R375). -/
def execLendReq (s : State) : Host.Outcome State Fault Refusal :=
  runOn .hardware (fun s => lendReq s) s

/-- TWIN_LEND_STOP (R375). -/
def execTwinLendStop (s : State) : Host.Outcome State Fault Refusal :=
  runOn .hardware (fun s => twinLendStop s) s

/-- TW_LEAVE (R373). -/
def execTwLeave (m : Master) (w : Word) (s : State) : Host.Outcome State Fault Refusal :=
  runOn .hardware (fun s => writeReg m 0x2030 (mOr w.toNat 1) 0xF {} s) s

/-- TW_JOIN (R368). -/
def execTwJoin (m : Master) (w : Word) (s : State) : Host.Outcome State Fault Refusal :=
  runOn .hardware (fun s => writeReg m 0x2030 (mOr w.toNat 2) 0xF {} s) s

/-- TW_REJOIN (R368). -/
def execTwRejoin (m : Master) (w : Word) (s : State) : Host.Outcome State Fault Refusal :=
  runOn .hardware (fun s => writeReg m 0x2030 (mOr w.toNat 4) 0xF {} s) s

/-- EJECT_DEBOUNCED (R373). -/
def execEjectDebounced (s : State) : Host.Outcome State Fault Refusal :=
  runOn .hardware (fun s => ejectDebounced s) s

/-- GATE_MATCH (R362). -/
def execGateMatch (k : Fin 8) (s : State) : Host.Outcome State Fault Refusal :=
  runOn .hardware (fun s => gateMatch k s) s

/-- SHARE_RAMP_END (R372). -/
def execShareRampEnd (k : Fin 8) (s : State) : Host.Outcome State Fault Refusal :=
  runOn .hardware (fun s => shareRampEnd k s) s

/-- LEAVE_BOUNDARY (R373). -/
def execLeaveBoundary (s : State) : Host.Outcome State Fault Refusal :=
  runOn .hardware (fun s => leaveBoundary s) s

/-- TWIN_GATE_REVERSE (R363). -/
def execTwinGateReverse (k : Fin 8) (ma : Int) (s : State) : Host.Outcome State Fault Refusal :=
  runOn .hardware (fun s => twinGateReverse k ma s) s

/-- AUTO_LEND_WAIT_END (R375). -/
def execAutoLendWaitEnd (s : State) : Host.Outcome State Fault Refusal :=
  runOn .hardware (fun s => autoLendWaitEnd s) s

/-- EJECT_N_LEVEL_CHANGE (R381). -/
def execEjectNLevelChange (low : Bool) (s : State) : Host.Outcome State Fault Refusal :=
  run .hardware (fun s => ejectNLevelChange low s) s

end Sys2Proof.Machine
end

