-- ==== Sys2Proof/Machine/ExecWatch.lean ====
section
/-! DEFINITION. Supervision, faults and perturbation (chapters 9 and 10): the meaning of each command, over the operations of the block's
own file. -/

namespace Sys2Proof.Machine

open Sys2Proof

/-- MONITOR_CROSSING (R258). -/
def execMonitorCrossing (mon : Fin 32) (k : MonCmp) (e : MonEdge) (mv : Int) (s : State) : Host.Outcome State Fault Refusal :=
  runOn .hardware (fun s => monitorCrossing mon k e mv s) s

/-- SUPPLY_WARNING (R263). -/
def execSupplyWarning (mv : Int) (s : State) : Host.Outcome State Fault Refusal :=
  runOn .hardware (fun s => supplyWarning mv s) s

/-- SUPPLY_DIP (R263). -/
def execSupplyDip (mv : Int) (s : State) : Host.Outcome State Fault Refusal :=
  runOn .hardware (fun s => supplyDip mv s) s

/-- SUPPLY_LOSS (R263). -/
def execSupplyLoss (mv : Int) (s : State) : Host.Outcome State Fault Refusal :=
  runOn .hardware (fun s => supplyLoss mv s) s

/-- PFW_RELEASE (R264). -/
def execPfwRelease (s : State) : Host.Outcome State Fault Refusal :=
  runOn .hardware (fun s => pfwRelease s) s

/-- TRIP (R267). -/
def execTrip (t : Fin 36) (persistent : Bool) (val : Int) (s : State) : Host.Outcome State Fault Refusal :=
  runOn .hardware (fun s => trip t persistent val s) s

/-- DAC_AUDIT_READING (R269). -/
def execDacAuditReading (d : Fin 164) (off : Nat) (xcheck : Option (Int × Int)) (s : State) : Host.Outcome State Fault Refusal :=
  runOn .hardware (fun s => (dacAuditReading d off s).passCheck xcheck) s

/-- DAC_READBACK_REQUEST (R270). -/
def execDacReadbackRequest (m : Master) (w : Word) (s : State) : Host.Outcome State Fault Refusal :=
  runOn .hardware (fun s => writeReg m 0x1810 (mOr w.toNat 0x80000000) 0xF {} s) s

/-- DAC_READBACK_DONE (R270). -/
def execDacReadbackDone (v : Nat) (s : State) : Host.Outcome State Fault Refusal :=
  runOn .hardware (fun s => dacReadbackDone v s) s

/-- DAC_BLANK_END (R271). -/
def execDacBlankEnd (mon : Fin 32) (b : MonBits) (mv : Int) (s : State) : Host.Outcome State Fault Refusal :=
  runOn .hardware (fun s => dacBlankEnd mon b mv s) s

/-- SEV_CLR (R285). -/
def execSevClr (m : Master) (w : Word) (s : State) : Host.Outcome State Fault Refusal :=
  runOn .hardware (fun s => writeReg m 0x3224 (mOr w.toNat 2) 0xF {} s) s

/-- HIST_CLR (R287). -/
def execHistClr (m : Master) (w : Word) (s : State) : Host.Outcome State Fault Refusal :=
  runOn .hardware (fun s => writeReg m 0x3224 (mOr w.toNat 1) 0xF {} s) s

/-- REFERENCE_DEVIATION (R298). -/
def execReferenceDeviation (n : Fin 3) (s : State) : Host.Outcome State Fault Refusal :=
  runOn .hardware (fun s => referenceDeviation n s) s

/-- OSCILLATOR_LOSS (R299). -/
def execOscillatorLoss (primary : Bool) (s : State) : Host.Outcome State Fault Refusal :=
  runOn .hardware (fun s => oscillatorLoss primary s) s

/-- PT_KEY_WRITE (R304). -/
def execPtKeyWrite (m : Master) (w : Word) (s : State) : Host.Outcome State Fault Refusal :=
  runOn .hardware (fun s => writeReg m 0x3E00 (w.toNat) 0xF {} s) s

/-- PT_LOCK (R305). -/
def execPtLock (m : Master) (w : Word) (s : State) : Host.Outcome State Fault Refusal :=
  runOn .hardware (fun s => writeReg m 0x3E04 (mOr w.toNat 1) 0xF {} s) s

/-- PT_CLEAR_ALL (R310). -/
def execPtClearAll (m : Master) (w : Word) (s : State) : Host.Outcome State Fault Refusal :=
  runOn .hardware (fun s => writeReg m 0x3E04 (mOr w.toNat 2) 0xF {} s) s

/-- PT_DB_WRITE (R305). -/
def execPtDbWrite (m : Master) (w : Word) (s : State) : Host.Outcome State Fault Refusal :=
  runOn .hardware (fun s => writeReg m 0x3E14 (w.toNat) 0xF {} s) s

/-- PT_BP_WRITE (R305). -/
def execPtBpWrite (m : Master) (w : Word) (s : State) : Host.Outcome State Fault Refusal :=
  runOn .hardware (fun s => writeReg m 0x3E18 (w.toNat) 0xF {} s) s

/-- PT_SKEW_WRITE (R305). -/
def execPtSkewWrite (m : Master) (w : Word) (s : State) : Host.Outcome State Fault Refusal :=
  runOn .hardware (fun s => writeReg m 0x3E1C (w.toNat) 0xF {} s) s

/-- PT_WM_DLY_WRITE (R305). -/
def execPtWmDlyWrite (m : Master) (w : Word) (s : State) : Host.Outcome State Fault Refusal :=
  runOn .hardware (fun s => writeReg m 0x3E24 (w.toNat) 0xF {} s) s

/-- PT_KIND_EXPIRY (R305). -/
def execPtKindExpiry (k : Fin 4) (s : State) : Host.Outcome State Fault Refusal :=
  runOn .hardware (fun s => ptKindExpiry (k.val + 1) s) s

/-- PT_SESSION_EXPIRY (R305). -/
def execPtSessionExpiry (s : State) : Host.Outcome State Fault Refusal :=
  runOn .hardware (fun s => ptSessionExpiry s) s

end Sys2Proof.Machine
end

