-- ==== Sys2Proof/Machine/ExecWell.lean ====
section
/-! DEFINITION. The well (chapters 11 and 12): the meaning of each command, over the operations of the block's own file. -/

namespace Sys2Proof.Machine

open Sys2Proof

/-- HANDOVER_DETECT (R318). -/
def execHandoverDetect (s : State) : Host.Outcome State Fault Refusal :=
  runOn .hardware (fun s => handoverDetect s) s

/-- HANDOVER_LEAD_END (R318). -/
def execHandoverLeadEnd (s : State) : Host.Outcome State Fault Refusal :=
  runOn .hardware (fun s => handoverLeadEnd s) s

/-- HANDBACK_START (R322). -/
def execHandbackStart (s : State) : Host.Outcome State Fault Refusal :=
  runOn .hardware (fun s => handbackStart s) s

/-- HANDBACK_RAMP_END (R322). -/
def execHandbackRampEnd (s : State) : Host.Outcome State Fault Refusal :=
  runOn .hardware (fun s => handbackRampEnd s) s

/-- CHG_DWELL_END (R322). -/
def execChgDwellEnd (s : State) : Host.Outcome State Fault Refusal :=
  runOn .hardware (fun s => chgDwellEnd s) s

/-- HOLDUP_CUTOFF (R323). -/
def execHoldupCutoff (s : State) : Host.Outcome State Fault Refusal :=
  runOn .hardware (fun s => holdupCutoff s) s

/-- VALVE_FAULT (R314). -/
def execValveFault (s : State) : Host.Outcome State Fault Refusal :=
  runOn .hardware (fun s => valveFault s) s

/-- PACK_PRESENCE_CHANGE (R314). -/
def execPackPresenceChange (present : Bool) (s : State) : Host.Outcome State Fault Refusal :=
  run .hardware (fun s => packPresenceChange present s) s

/-- WELL_DORMANT (R324). -/
def execWellDormant (m : Master) (w : Word) (s : State) : Host.Outcome State Fault Refusal :=
  runOn .hardware (fun s => writeReg m 0x1C30 (mOr w.toNat 2) 0xF {} s) s

/-- WELL_SHIP (R324). -/
def execWellShip (m : Master) (w : Word) (s : State) : Host.Outcome State Fault Refusal :=
  runOn .hardware (fun s => writeReg m 0x1C30 (mOr w.toNat 4) 0xF {} s) s

/-- LEND_START (R329). -/
def execLendStart (m : Master) (w : Word) (s : State) : Host.Outcome State Fault Refusal :=
  runOn .hardware (fun s => writeReg m 0x1C30 (mOr w.toNat 8) 0xF {} s) s

/-- LEND_STOP (R329). -/
def execLendStop (m : Master) (w : Word) (s : State) : Host.Outcome State Fault Refusal :=
  runOn .hardware (fun s => writeReg m 0x1C30 (mOr w.toNat 16) 0xF {} s) s

/-- LEND_AUTO_STOP (R329). -/
def execLendAutoStop (full : Bool) (s : State) : Host.Outcome State Fault Refusal :=
  runOn .hardware (fun s => lendAutoStop full s) s

/-- CLR_CHG (R325). -/
def execClrChg (m : Master) (w : Word) (s : State) : Host.Outcome State Fault Refusal :=
  runOn .hardware (fun s => writeReg m 0x1C30 (mOr w.toNat 32) 0xF {} s) s

/-- CHG_RESTART (R335). -/
def execChgRestart (m : Master) (w : Word) (s : State) : Host.Outcome State Fault Refusal :=
  runOn .hardware (fun s => writeReg m 0x1C30 (mOr w.toNat 64) 0xF {} s) s

/-- CHARGE_PHASE_CHANGE (R325). -/
def execChargePhaseChange (e : ChgEvent) (s : State) : Host.Outcome State Fault Refusal :=
  runOn .hardware (fun s => chargePhaseChange e s) s

/-- CHARGE_TIMER_EXPIRY (R328). -/
def execChargeTimerExpiry (s : State) : Host.Outcome State Fault Refusal :=
  runOn .hardware (fun s => chargeTimerExpiry s) s

/-- PACK_ZONE_CHANGE (R326). -/
def execPackZoneChange (code : Fin 65536) (s : State) : Host.Outcome State Fault Refusal :=
  runOn .hardware (fun s => packZoneChange code.val s) s

/-- FOLDBACK_CHANGE (R327). -/
def execFoldbackChange (t : Int) (s : State) : Host.Outcome State Fault Refusal :=
  runOn .hardware (fun s => foldbackChange t s) s

/-- EST_SAMPLE (R337). -/
def execEstSample (x : EstReading) (s : State) : Host.Outcome State Fault Refusal :=
  runOn .hardware (fun s => estSample x s) s

/-- LEARN_START (R345). -/
def execLearnStart (m : Master) (w : Word) (s : State) : Host.Outcome State Fault Refusal :=
  runOn .hardware (fun s => writeReg m 0x1E38 (mOr w.toNat 1) 0xF {} s) s

/-- LEARN_STOP (R347). -/
def execLearnStop (m : Master) (w : Word) (s : State) : Host.Outcome State Fault Refusal :=
  runOn .hardware (fun s => writeReg m 0x1E38 (mOr w.toNat 2) 0xF {} s) s

/-- RESYNC (R341). -/
def execResync (m : Master) (w : Word) (s : State) : Host.Outcome State Fault Refusal :=
  runOn .hardware (fun s => writeReg m 0x1E38 (mOr w.toNat 4) 0xF {} s) s

/-- NEW_PACK (R350). -/
def execNewPack (m : Master) (w : Word) (s : State) : Host.Outcome State Fault Refusal :=
  runOn .hardware (fun s => writeReg m 0x1E38 (mOr w.toNat 8) 0xF {} s) s

/-- END_OF_DISCHARGE (R346). -/
def execEndOfDischarge (s : State) : Host.Outcome State Fault Refusal :=
  runOn .hardware (fun s => endOfDischarge s) s

/-- IMPEDANCE_SAVE (R350). -/
def execImpedanceSave (s : State) : Host.Outcome State Fault Refusal :=
  runOn .hardware (fun s => impedanceSave s) s

end Sys2Proof.Machine
end

