-- ==== Sys2Proof/Machine/Dispatch.lean ====
section
/-! DEFINITION. The dispatch: one arm per command, each a direct call of its meaning. -/

namespace Sys2Proof.Machine

open Sys2Proof

def exec (i : Instr) (s : State) : Host.Outcome State Fault Refusal :=
  match i with
  | .powerOnReset => Sys2Proof.Machine.execPowerOnReset s
  | .brownOutReset aonUp => Sys2Proof.Machine.execBrownOutReset aonUp s
  | .resetNAsserted => Sys2Proof.Machine.execResetNAsserted s
  | .chipReset o => Sys2Proof.Machine.execChipReset o s
  | .otpDigestChecksDone => Sys2Proof.Machine.execOtpDigestChecksDone s
  | .longPress => Sys2Proof.Machine.execLongPress s
  | .longPressOpenEnd => Sys2Proof.Machine.execLongPressOpenEnd s
  | .buttonPress => Sys2Proof.Machine.execButtonPress s
  | .dormantWake w => Sys2Proof.Machine.execDormantWake w s
  | .shipWake button => Sys2Proof.Machine.execShipWake button s
  | .dormantSample x => Sys2Proof.Machine.execDormantSample x s
  | .islandPowerLoss isl => Sys2Proof.Machine.execIslandPowerLoss isl s
  | .commitGo m w => Sys2Proof.Machine.execCommitGo m w s
  | .commitAbort m w => Sys2Proof.Machine.execCommitAbort m w s
  | .commitDiscard m w => Sys2Proof.Machine.execCommitDiscard m w s
  | .validationEnd => Sys2Proof.Machine.execValidationEnd s
  | .commitSwap => Sys2Proof.Machine.execCommitSwap s
  | .commitCopyDone => Sys2Proof.Machine.execCommitCopyDone s
  | .ownershipIdleRelease => Sys2Proof.Machine.execOwnershipIdleRelease s
  | .registerWrite m addr w be o => Sys2Proof.Machine.execRegisterWrite m addr w be o s
  | .aliasStatusRead m addr => Sys2Proof.Machine.execAliasStatusRead m addr s
  | .rcFieldRead m addr => Sys2Proof.Machine.execRcFieldRead m addr s
  | .fbStatRead m b => Sys2Proof.Machine.execFbStatRead m b s
  | .mbxReadRequest m home => Sys2Proof.Machine.execMbxReadRequest m home s
  | .mbxWriteRequest m home => Sys2Proof.Machine.execMbxWriteRequest m home s
  | .mbxComplete m => Sys2Proof.Machine.execMbxComplete m s
  | .scrubPass found => Sys2Proof.Machine.execScrubPass found s
  | .twAddressByte read => Sys2Proof.Machine.execTwAddressByte read s
  | .twPointerByte b => Sys2Proof.Machine.execTwPointerByte b s
  | .twDataByteWrite b o => Sys2Proof.Machine.execTwDataByteWrite b o s
  | .twDataByteRead => Sys2Proof.Machine.execTwDataByteRead s
  | .twStop => Sys2Proof.Machine.execTwStop s
  | .twReadaheadDone => Sys2Proof.Machine.execTwReadaheadDone s
  | .twReadaheadExpired => Sys2Proof.Machine.execTwReadaheadExpired s
  | .twMisplaced => Sys2Proof.Machine.execTwMisplaced s
  | .twTxConflict => Sys2Proof.Machine.execTwTxConflict s
  | .twBusTimeout => Sys2Proof.Machine.execTwBusTimeout s
  | .mainsValid => Sys2Proof.Machine.execMainsValid s
  | .lockAcquired mHz theta => Sys2Proof.Machine.execLockAcquired mHz theta s
  | .mainsLost ampl => Sys2Proof.Machine.execMainsLost ampl s
  | .phaseJump => Sys2Proof.Machine.execPhaseJump s
  | .holdoverAmbiguous => Sys2Proof.Machine.execHoldoverAmbiguous s
  | .strokeBoundary m => Sys2Proof.Machine.execStrokeBoundary m s
  | .ppsEdge rising => Sys2Proof.Machine.execPpsEdge rising s
  | .alignArm m w => Sys2Proof.Machine.execAlignArm m w s
  | .alignStep m w => Sys2Proof.Machine.execAlignStep m w s
  | .angleSlotStart => Sys2Proof.Machine.execAngleSlotStart s
  | .deferredContextLaunch c => Sys2Proof.Machine.execDeferredContextLaunch c s
  | .contextDeadlinePassed c => Sys2Proof.Machine.execContextDeadlinePassed c s
  | .stepRailEn c => Sys2Proof.Machine.execStepRailEn c s
  | .stepRailSet c => Sys2Proof.Machine.execStepRailSet c s
  | .stepGroup c => Sys2Proof.Machine.execStepGroup c s
  | .stepAdcBurst c => Sys2Proof.Machine.execStepAdcBurst c s
  | .stepTimer c => Sys2Proof.Machine.execStepTimer c s
  | .stepSig c => Sys2Proof.Machine.execStepSig c s
  | .stepLearn c => Sys2Proof.Machine.execStepLearn c s
  | .stepRotate c => Sys2Proof.Machine.execStepRotate c s
  | .stepWaitEnd c => Sys2Proof.Machine.execStepWaitEnd c s
  | .cmdDoorbell ring w be => Sys2Proof.Machine.execCmdDoorbell ring w be s
  | .recDoorbell ring w be => Sys2Proof.Machine.execRecDoorbell ring w be s
  | .descriptorReceived ring bytes => Sys2Proof.Machine.execDescriptorReceived ring bytes s
  | .dmaReadError ring => Sys2Proof.Machine.execDmaReadError ring s
  | .cmdNop ring crcOk => Sys2Proof.Machine.execCmdNop ring crcOk s
  | .cmdStep ring crcOk => Sys2Proof.Machine.execCmdStep ring crcOk s
  | .cmdCtxArm ring crcOk => Sys2Proof.Machine.execCmdCtxArm ring crcOk s
  | .cmdPowerState ring crcOk => Sys2Proof.Machine.execCmdPowerState ring crcOk s
  | .cmdChipReset ring crcOk => Sys2Proof.Machine.execCmdChipReset ring crcOk s
  | .cmdTwinLeave ring crcOk => Sys2Proof.Machine.execCmdTwinLeave ring crcOk s
  | .cmdLend ring crcOk => Sys2Proof.Machine.execCmdLend ring crcOk s
  | .timedCommandDue crcOk => Sys2Proof.Machine.execTimedCommandDue crcOk s
  | .doorbellDelayEnd ring => Sys2Proof.Machine.execDoorbellDelayEnd ring s
  | .ringEnable m ring => Sys2Proof.Machine.execRingEnable m ring s
  | .ringDisable m ring => Sys2Proof.Machine.execRingDisable m ring s
  | .recordDmaWrite ring => Sys2Proof.Machine.execRecordDmaWrite ring s
  | .ringIrqTimeout ring => Sys2Proof.Machine.execRingIrqTimeout ring s
  | .linkDown => Sys2Proof.Machine.execLinkDown s
  | .hotReset flr => Sys2Proof.Machine.execHotReset flr s
  | .linkUp x => Sys2Proof.Machine.execLinkUp x s
  | .d3hotEntry => Sys2Proof.Machine.execD3hotEntry s
  | .busMasterCleared => Sys2Proof.Machine.execBusMasterCleared s
  | .msixEnabled enable fmask => Sys2Proof.Machine.execMsixEnabled enable fmask s
  | .feedInWindow f inside => Sys2Proof.Machine.execFeedInWindow f inside s
  | .feedQualified q => Sys2Proof.Machine.execFeedQualified q s
  | .feedInrushDone f => Sys2Proof.Machine.execFeedInrushDone f s
  | .feedInrushTimeout f => Sys2Proof.Machine.execFeedInrushTimeout f s
  | .breakerSlowTrip f mv => Sys2Proof.Machine.execBreakerSlowTrip f mv s
  | .breakerFastTrip f mv => Sys2Proof.Machine.execBreakerFastTrip f mv s
  | .feedRetryEnd f => Sys2Proof.Machine.execFeedRetryEnd f s
  | .feedUnderVoltage f => Sys2Proof.Machine.execFeedUnderVoltage f s
  | .feedOverVoltage f mv => Sys2Proof.Machine.execFeedOverVoltage f mv s
  | .feedOvCleared f => Sys2Proof.Machine.execFeedOvCleared f s
  | .hotswapFetFault f => Sys2Proof.Machine.execHotswapFetFault f s
  | .feedReverseCurrent f => Sys2Proof.Machine.execFeedReverseCurrent f s
  | .orReverseBlock f => Sys2Proof.Machine.execOrReverseBlock f s
  | .feedStable f => Sys2Proof.Machine.execFeedStable f s
  | .feedAbsent f => Sys2Proof.Machine.execFeedAbsent f s
  | .feedLatchClear m f => Sys2Proof.Machine.execFeedLatchClear m f s
  | .mateDebounced => Sys2Proof.Machine.execMateDebounced s
  | .mateBreak => Sys2Proof.Machine.execMateBreak s
  | .caBackgroundScan c opened => Sys2Proof.Machine.execCaBackgroundScan c opened s
  | .caRetire m w => Sys2Proof.Machine.execCaRetire m w s
  | .caRotate m w => Sys2Proof.Machine.execCaRotate m w s
  | .caScan m w opened => Sys2Proof.Machine.execCaScan m w opened s
  | .caProbe m w => Sys2Proof.Machine.execCaProbe m w s
  | .adaptStep c iAvg => Sys2Proof.Machine.execAdaptStep c iAvg s
  | .loadStepDetected c => Sys2Proof.Machine.execLoadStepDetected c s
  | .freezeEnd c => Sys2Proof.Machine.execFreezeEnd c s
  | .probeStart c a => Sys2Proof.Machine.execProbeStart c a s
  | .probeDone c a p => Sys2Proof.Machine.execProbeDone c a p s
  | .bankDriverLoss c a bank leaking => Sys2Proof.Machine.execBankDriverLoss c a bank leaking s
  | .shortTrigger c k confirmed bothStuck vhdrOk => Sys2Proof.Machine.execShortTrigger c k confirmed bothStuck vhdrOk s
  | .flushEnd c x => Sys2Proof.Machine.execFlushEnd c x s
  | .secondFlush c x => Sys2Proof.Machine.execSecondFlush c x s
  | .wearSave => Sys2Proof.Machine.execWearSave s
  | .rampComplete r => Sys2Proof.Machine.execRampComplete r s
  | .rampStall r => Sys2Proof.Machine.execRampStall r s
  | .overCurrent r steady => Sys2Proof.Machine.execOverCurrent r steady s
  | .hiccupEnd r => Sys2Proof.Machine.execHiccupEnd r s
  | .outputOverVoltage r mv => Sys2Proof.Machine.execOutputOverVoltage r mv s
  | .channelDrainEnd r => Sys2Proof.Machine.execChannelDrainEnd r s
  | .senseLoss c => Sys2Proof.Machine.execSenseLoss c s
  | .snsRetry m c => Sys2Proof.Machine.execSnsRetry m c s
  | .lockstepMismatch u => Sys2Proof.Machine.execLockstepMismatch u s
  | .controllerBistDone u halves => Sys2Proof.Machine.execControllerBistDone u halves s
  | .channelOverTemp c t => Sys2Proof.Machine.execChannelOverTemp c t s
  | .telemetryWindowEnd r x => Sys2Proof.Machine.execTelemetryWindowEnd r x s
  | .phaseLoss p cause => Sys2Proof.Machine.execPhaseLoss p cause s
  | .phRetry m w => Sys2Proof.Machine.execPhRetry m w s
  | .phRetryDone p passed => Sys2Proof.Machine.execPhRetryDone p passed s
  | .pumpInputLow => Sys2Proof.Machine.execPumpInputLow s
  | .overloadShed => Sys2Proof.Machine.execOverloadShed s
  | .persistOverload => Sys2Proof.Machine.execPersistOverload s
  | .ldoThermalShutdown k above => Sys2Proof.Machine.execLdoThermalShutdown k above s
  | .switchLimitExpiry j => Sys2Proof.Machine.execSwitchLimitExpiry j s
  | .switchReverseBlock j on => Sys2Proof.Machine.execSwitchReverseBlock j on s
  | .primingStepStart r vinOk dead => Sys2Proof.Machine.execPrimingStepStart r vinOk dead s
  | .powerGood r => Sys2Proof.Machine.execPowerGood r s
  | .pgDeadlinePassed r => Sys2Proof.Machine.execPgDeadlinePassed r s
  | .startRetry r vinOk dead => Sys2Proof.Machine.execStartRetry r vinOk dead s
  | .runningFault r cause => Sys2Proof.Machine.execRunningFault r cause s
  | .pfwLeadEnd rails => Sys2Proof.Machine.execPfwLeadEnd rails s
  | .drainStepStart r => Sys2Proof.Machine.execDrainStepStart r s
  | .drainStepEnd r => Sys2Proof.Machine.execDrainStepEnd r s
  | .drainTimeout r => Sys2Proof.Machine.execDrainTimeout r s
  | .dischargeTimeout r => Sys2Proof.Machine.execDischargeTimeout r s
  | .seqUnlatch m w => Sys2Proof.Machine.execSeqUnlatch m w s
  | .laneDivergence lane persists => Sys2Proof.Machine.execLaneDivergence lane persists s
  | .autoPrimeStart => Sys2Proof.Machine.execAutoPrimeStart s
  | .resetDrainDone => Sys2Proof.Machine.execResetDrainDone s
  | .monitorCrossing mon k e mv => Sys2Proof.Machine.execMonitorCrossing mon k e mv s
  | .supplyWarning mv => Sys2Proof.Machine.execSupplyWarning mv s
  | .supplyDip mv => Sys2Proof.Machine.execSupplyDip mv s
  | .supplyLoss mv => Sys2Proof.Machine.execSupplyLoss mv s
  | .pfwRelease => Sys2Proof.Machine.execPfwRelease s
  | .trip t persistent val => Sys2Proof.Machine.execTrip t persistent val s
  | .dacAuditReading d off xcheck => Sys2Proof.Machine.execDacAuditReading d off xcheck s
  | .dacReadbackRequest m w => Sys2Proof.Machine.execDacReadbackRequest m w s
  | .dacReadbackDone v => Sys2Proof.Machine.execDacReadbackDone v s
  | .dacBlankEnd mon b mv => Sys2Proof.Machine.execDacBlankEnd mon b mv s
  | .sevClr m w => Sys2Proof.Machine.execSevClr m w s
  | .histClr m w => Sys2Proof.Machine.execHistClr m w s
  | .referenceDeviation n => Sys2Proof.Machine.execReferenceDeviation n s
  | .oscillatorLoss primary => Sys2Proof.Machine.execOscillatorLoss primary s
  | .ptKeyWrite m w => Sys2Proof.Machine.execPtKeyWrite m w s
  | .ptLock m w => Sys2Proof.Machine.execPtLock m w s
  | .ptClearAll m w => Sys2Proof.Machine.execPtClearAll m w s
  | .ptDbWrite m w => Sys2Proof.Machine.execPtDbWrite m w s
  | .ptBpWrite m w => Sys2Proof.Machine.execPtBpWrite m w s
  | .ptSkewWrite m w => Sys2Proof.Machine.execPtSkewWrite m w s
  | .ptWmDlyWrite m w => Sys2Proof.Machine.execPtWmDlyWrite m w s
  | .ptKindExpiry k => Sys2Proof.Machine.execPtKindExpiry k s
  | .ptSessionExpiry => Sys2Proof.Machine.execPtSessionExpiry s
  | .handoverDetect => Sys2Proof.Machine.execHandoverDetect s
  | .handoverLeadEnd => Sys2Proof.Machine.execHandoverLeadEnd s
  | .handbackStart => Sys2Proof.Machine.execHandbackStart s
  | .handbackRampEnd => Sys2Proof.Machine.execHandbackRampEnd s
  | .chgDwellEnd => Sys2Proof.Machine.execChgDwellEnd s
  | .holdupCutoff => Sys2Proof.Machine.execHoldupCutoff s
  | .valveFault => Sys2Proof.Machine.execValveFault s
  | .packPresenceChange present => Sys2Proof.Machine.execPackPresenceChange present s
  | .wellDormant m w => Sys2Proof.Machine.execWellDormant m w s
  | .wellShip m w => Sys2Proof.Machine.execWellShip m w s
  | .lendStart m w => Sys2Proof.Machine.execLendStart m w s
  | .lendStop m w => Sys2Proof.Machine.execLendStop m w s
  | .lendAutoStop full => Sys2Proof.Machine.execLendAutoStop full s
  | .clrChg m w => Sys2Proof.Machine.execClrChg m w s
  | .chgRestart m w => Sys2Proof.Machine.execChgRestart m w s
  | .chargePhaseChange e => Sys2Proof.Machine.execChargePhaseChange e s
  | .chargeTimerExpiry => Sys2Proof.Machine.execChargeTimerExpiry s
  | .packZoneChange code => Sys2Proof.Machine.execPackZoneChange code s
  | .foldbackChange t => Sys2Proof.Machine.execFoldbackChange t s
  | .estSample x => Sys2Proof.Machine.execEstSample x s
  | .learnStart m w => Sys2Proof.Machine.execLearnStart m w s
  | .learnStop m w => Sys2Proof.Machine.execLearnStop m w s
  | .resync m w => Sys2Proof.Machine.execResync m w s
  | .newPack m w => Sys2Proof.Machine.execNewPack m w s
  | .endOfDischarge => Sys2Proof.Machine.execEndOfDischarge s
  | .impedanceSave => Sys2Proof.Machine.execImpedanceSave s
  | .presentDebounced => Sys2Proof.Machine.execPresentDebounced s
  | .partnerRemoval => Sys2Proof.Machine.execPartnerRemoval s
  | .twinLinkUp => Sys2Proof.Machine.execTwinLinkUp s
  | .heartbeatLoss => Sys2Proof.Machine.execHeartbeatLoss s
  | .linkWaitTimeout => Sys2Proof.Machine.execLinkWaitTimeout s
  | .twinFrame bytes codeErr => Sys2Proof.Machine.execTwinFrame bytes codeErr s
  | .mirrorPass => Sys2Proof.Machine.execMirrorPass s
  | .leaveReq => Sys2Proof.Machine.execLeaveReq s
  | .leaveAck count => Sys2Proof.Machine.execLeaveAck count s
  | .leaveNak reason => Sys2Proof.Machine.execLeaveNak reason s
  | .lendReq => Sys2Proof.Machine.execLendReq s
  | .twinLendStop => Sys2Proof.Machine.execTwinLendStop s
  | .twLeave m w => Sys2Proof.Machine.execTwLeave m w s
  | .twJoin m w => Sys2Proof.Machine.execTwJoin m w s
  | .twRejoin m w => Sys2Proof.Machine.execTwRejoin m w s
  | .ejectDebounced => Sys2Proof.Machine.execEjectDebounced s
  | .gateMatch k => Sys2Proof.Machine.execGateMatch k s
  | .shareRampEnd k => Sys2Proof.Machine.execShareRampEnd k s
  | .leaveBoundary => Sys2Proof.Machine.execLeaveBoundary s
  | .twinGateReverse k ma => Sys2Proof.Machine.execTwinGateReverse k ma s
  | .autoLendWaitEnd => Sys2Proof.Machine.execAutoLendWaitEnd s
  | .adcTrigEdge rising => Sys2Proof.Machine.execAdcTrigEdge rising s
  | .adcConversionDone mc at_ code openWire asks => Sys2Proof.Machine.execAdcConversionDone mc at_ code openWire asks s
  | .openWireCheck n up dn => Sys2Proof.Machine.execOpenWireCheck n up dn s
  | .metRecordReceived bad => Sys2Proof.Machine.execMetRecordReceived bad s
  | .metLinkLoss => Sys2Proof.Machine.execMetLinkLoss s
  | .metProbeEnd => Sys2Proof.Machine.execMetProbeEnd s
  | .metTime crcOk => Sys2Proof.Machine.execMetTime crcOk s
  | .metConfig crcOk => Sys2Proof.Machine.execMetConfig crcOk s
  | .metRead home crcOk l => Sys2Proof.Machine.execMetRead home crcOk l s
  | .metGroupBoundary ext l => Sys2Proof.Machine.execMetGroupBoundary ext l s
  | .metStoreSave falling l => Sys2Proof.Machine.execMetStoreSave falling l s
  | .mvddStart newerOk olderOk digestOk => Sys2Proof.Machine.execMvddStart newerOk olderOk digestOk s
  | .metCheckDisagree on => Sys2Proof.Machine.execMetCheckDisagree on s
  | .metTimeLoss => Sys2Proof.Machine.execMetTimeLoss s
  | .calPortWrite en ptr v supply => Sys2Proof.Machine.execCalPortWrite en ptr v supply s
  | .calPortRead en ptr n => Sys2Proof.Machine.execCalPortRead en ptr n s
  | .seal en v supply => Sys2Proof.Machine.execSeal en v supply s
  | .sealDone => Sys2Proof.Machine.execSealDone s
  | .xtalFail => Sys2Proof.Machine.execXtalFail s
  | .xtalQualified => Sys2Proof.Machine.execXtalQualified s
  | .rtcSecond => Sys2Proof.Machine.execRtcSecond s
  | .haltSet m w => Sys2Proof.Machine.execHaltSet m w s
  | .haltClr m w => Sys2Proof.Machine.execHaltClr m w s
  | .rtcCalendarWrite m date w => Sys2Proof.Machine.execRtcCalendarWrite m date w s
  | .rtcShift m w => Sys2Proof.Machine.execRtcShift m w s
  | .shiftComplete => Sys2Proof.Machine.execShiftComplete s
  | .rtcSubsecRead m => Sys2Proof.Machine.execRtcSubsecRead m s
  | .rtcDateRead m => Sys2Proof.Machine.execRtcDateRead m s
  | .shadowExpiry m => Sys2Proof.Machine.execShadowExpiry m s
  | .timerStart m w => Sys2Proof.Machine.execTimerStart m w s
  | .timerStop m w => Sys2Proof.Machine.execTimerStop m w s
  | .timerClr m t w => Sys2Proof.Machine.execTimerClr m t w s
  | .timerLoad m t w => Sys2Proof.Machine.execTimerLoad m t w s
  | .timerWrap t => Sys2Proof.Machine.execTimerWrap t s
  | .timerCompare t => Sys2Proof.Machine.execTimerCompare t s
  | .timerCapture t => Sys2Proof.Machine.execTimerCapture t s
  | .timerGateActive t rising => Sys2Proof.Machine.execTimerGateActive t rising s
  | .wdtServe m w => Sys2Proof.Machine.execWdtServe m w s
  | .wdtStart m w => Sys2Proof.Machine.execWdtStart m w s
  | .wdtStop m w => Sys2Proof.Machine.execWdtStop m w s
  | .wdtSlotExpired slots => Sys2Proof.Machine.execWdtSlotExpired slots s
  | .hostResetPulseEnd => Sys2Proof.Machine.execHostResetPulseEnd s
  | .ladderReturn => Sys2Proof.Machine.execLadderReturn s
  | .attemptsClear => Sys2Proof.Machine.execAttemptsClear s
  | .otpRead m w => Sys2Proof.Machine.execOtpRead m w s
  | .otpProgram m w o => Sys2Proof.Machine.execOtpProgram m w o s
  | .otpFinalise m w o => Sys2Proof.Machine.execOtpFinalise m w o s
  | .otpCheck m w => Sys2Proof.Machine.execOtpCheck m w s
  | .otpCommandDone ecc => Sys2Proof.Machine.execOtpCommandDone ecc s
  | .logbookSaveStart reserve => Sys2Proof.Machine.execLogbookSaveStart reserve s
  | .logbookSaveDone lost => Sys2Proof.Machine.execLogbookSaveDone lost s
  | .tokenAccrual => Sys2Proof.Machine.execTokenAccrual s
  | .logFlush m w => Sys2Proof.Machine.execLogFlush m w s
  | .votedFieldRead m addr found => Sys2Proof.Machine.execVotedFieldRead m addr found s
  | .rtcTimeRead m => Sys2Proof.Machine.execRtcTimeRead m s
  | .snsRetryDone c good => Sys2Proof.Machine.execSnsRetryDone c good s
  | .islandPowerReturn isl => Sys2Proof.Machine.execIslandPowerReturn isl s
  | .d0Entry => Sys2Proof.Machine.execD0Entry s
  | .msixVectorUnmasked x => Sys2Proof.Machine.execMsixVectorUnmasked x s
  | .recordBackPressureEnd => Sys2Proof.Machine.execRecordBackPressureEnd s
  | .ppsSeenTimeout => Sys2Proof.Machine.execPpsSeenTimeout s
  | .feedPresent f => Sys2Proof.Machine.execFeedPresent f s
  | .mateNLevelChange low => Sys2Proof.Machine.execMateNLevelChange low s
  | .ejectNLevelChange low => Sys2Proof.Machine.execEjectNLevelChange low s

end Sys2Proof.Machine
end

