-- ==== Sys2Proof/Safety.lean ====
section
/-! DEFINITION. The terms in which claims speak: what a command's own effect leaves, what a report may touch, and which events ask
for a reaction. -/

namespace Sys2Proof.Machine

open Sys2Proof

/-- `exec` answers a next state: the one that `settle` makes of the state which the command's own effect leaves, and that state
satisfies `P`. -/
def Does (i : Instr) (s : State) (P : State → Prop) : Prop :=
  ∃ c u, exec i s = .next (settle c (begin s) u) ∧ P u

/-- The registers that count reports: records without a route and dropped ones (R398, R401), the history, the status and the
totals of the fault blocks (R288, R309). -/
def reportRegs : List Nat := [0x220C, 0x2260, 0x3228, 0x3300, 0x340C]

/-- A field of one of these registers, by its key. -/
def reported (k : Nat) : Bool := reportRegs.contains (k / 32 % 0x8000)

/-- The host-ring block without its register fields and what records and messages touch. -/
def RingBlk.rest (r : RingBlk) : RingBlk := { r with sts := {}, queue := {}, seqs := {}, dropDue := 0, vecPend := 0 }

/-- A state without its register fields and what reports touch: the answers of the command, the record queues, the fault blocks,
the reactions asked for. -/
def State.rest (s : State) : State := { s with out := {}, due := [], mids := {}, sts := {}, faults := {}, ring := s.ring.rest }

/-- From `s` to `u` only the register fields named by their keys, and what reports touch, have changed. -/
def Only (ks : List Nat) (s u : State) : Prop :=
  u.rest = s.rest ∧ ∀ f i, reported (f.key i) = false → f.key i ∉ ks → u.rd f i = s.rd f i

/-- From `s` to `u` the fields of every register at an address that `p` does not take in read as before, those that count reports
aside. -/
def Outside (p : Nat → Bool) (s u : State) : Prop :=
  ∀ f i, reported (f.key i) = false → p (f.key i / 32 % 0x8000) = false → u.rd f i = s.rd f i

/-- A block has reported an event: its status names it as the last and counts it (R288, R309). -/
def Told (b e : Nat) (s u : State) : Prop :=
  u.rd F.FB_STAT_LAST b = e ∧ u.rd F.FB_STAT_EVENTS b = min 255 (s.rd F.FB_STAT_EVENTS b + 1)

/-- An access of a master is refused with an error code (R56, R75): LAST_ERR of that master names the code and the address and counts it,
the access answers the code, and nothing else changes. -/
def Refuses (m : Master) (err addr : Nat) (s u : State) : Prop :=
  u.out.err = some err ∧ u.rd F.LAST_ERR_CODE m.idx = err ∧ u.rd F.LAST_ERR_ADDR m.idx = addr % 2 ^ 14
  ∧ u.rd F.LAST_ERR_COUNT m.idx = min 255 (s.rd F.LAST_ERR_COUNT m.idx + 1)
  ∧ Only [F.LAST_ERR_CODE.key m.idx, F.LAST_ERR_COUNT.key m.idx, F.LAST_ERR_ADDR.key m.idx] s u

/-- The completion record of a command (R395) has entered the queue of the record ring that its type is routed to, where that ring is ACTIVE
and has room. -/
def Completed (d : Desc) (err status : Nat) (s u : State) : Prop :=
  ∀ q : Fin 16, s.route 0x0C = some (8 + q.val) → s.ringSt (8 + q.val) = 1 → (s.ring.queue.at (8 + q.val)).length < 32 →
    bitOf (s.rd F.UNIT_STAT_ISLAND_OK 0) 7 = true →
    ((u.ring.queue.at (8 + q.val)).getLast?.map fun x => (x.typ, x.src, x.pay)) =
      some (0x0C, 0x0E, bytes 1 d.info.ring.val ++ bytes 1 d.op ++ bytes 1 err ++ bytes 1 status ++ bytes 2 d.info.seq ++ bytes 2 d.info.pos
        ++ bytes 8 s.tb.now)

/-- As `Completed`, of a command whose effect forms records of its own: its completion record comes first of those that join the queue. -/
def CompletedFirst (d : Desc) (err status : Nat) (s u : State) : Prop :=
  ∀ q : Fin 16, s.route 0x0C = some (8 + q.val) → s.ringSt (8 + q.val) = 1 → (s.ring.queue.at (8 + q.val)).length < 32 →
    bitOf (s.rd F.UNIT_STAT_ISLAND_OK 0) 7 = true →
    ((u.ring.queue.at (8 + q.val))[(s.ring.queue.at (8 + q.val)).length]?.map fun x => (x.typ, x.src, x.pay)) =
      some (0x0C, 0x0E, bytes 1 d.info.ring.val ++ bytes 1 d.op ++ bytes 1 err ++ bytes 1 status ++ bytes 2 d.info.seq ++ bytes 2 d.info.pos
        ++ bytes 8 s.tb.now)

/-- An event asks for no reaction beyond its report and its interrupt: its source has class NOTE or WARN, severe or not (R282). -/
def Mild (b e : Nat) (s : State) : Prop :=
  s.cf F.FC_CLASS_CLASS (srcKey b e) < 2 ∧ s.cf F.FC_CLASS_SEV_CLASS (srcKey b e) < 2

/-- The commands that act without the control plane too: feeds, button and connector, resets and power, the calendar's crystal and
carries, pins, the metrology die. -/
def beyondPlane : Instr → Bool
  | .brownOutReset _ | .chipReset _ | .dormantWake _ | .shipWake _ | .dormantSample _ | .ppsEdge _
  | .feedInWindow _ _ | .feedQualified _ | .feedInrushDone _ | .feedInrushTimeout _ | .breakerSlowTrip _ _
  | .breakerFastTrip _ _ | .feedRetryEnd _ | .feedUnderVoltage _ | .feedOverVoltage _ _ | .feedOvCleared _
  | .hotswapFetFault _ | .feedReverseCurrent _ | .orReverseBlock _ | .feedStable _ | .feedAbsent _
  | .packPresenceChange _ | .adcTrigEdge _ | .metRecordReceived _ | .metTime _ | .metConfig _ | .metRead _ _ _
  | .metGroupBoundary _ _ | .metStoreSave _ _ | .mvddStart _ _ _ | .metCheckDisagree _ | .calPortWrite _ _ _ _
  | .calPortRead _ _ _ | .seal _ _ _ | .feedPresent _ | .mateNLevelChange _ | .ejectNLevelChange _ | .powerOnReset
  | .resetNAsserted | .otpDigestChecksDone | .longPress | .longPressOpenEnd | .buttonPress | .mateDebounced
  | .mateBreak | .metTimeLoss | .sealDone | .xtalFail | .xtalQualified | .rtcSecond | .shiftComplete => true
  | _ => false

end Sys2Proof.Machine
end

