-- ==== Sys2Proof/Certificates/Slice0/Obligations.lean ====
section
/-! DEFINITION. The statements for the provers. Most say `Does i s P`: command `i` answers a next state, the one that `settle` makes of the
state its own effect leaves, and that state satisfies `P`. `Only` and `Outside` say what an effect leaves unchanged. -/

open Sys2Proof Sys2Proof.Machine

/-- A step with a command in front of the queue is that command's meaning on the state with the queue's rest. -/
def Obligations.StepRunsFrontCommand : Prop :=
  ∀ (i : Instr) (rest : List Instr) (s : State),
    step { s with pending := i :: rest } = exec i { s with pending := rest }

/-- The state right after power-on: the control plane in reset, nothing waiting, and the values that the spec gives of registers in each
group. It rests on readings of the model, not of the spec alone, where log 2 says so. -/
def Obligations.ResetState : Prop :=
  let s := State.reset
  s.pending = [] ∧ s.on = false ∧ s.power.inReset = true ∧ s.met.sealed = false
  ∧ s.rd F.RTC_STAT_XTAL_FAIL 0 = 1 ∧ s.rd F.RTC_TIME_WDAY 0 = 5 ∧ s.rd F.RTC_DATE_MONTH 0 = 1 ∧ s.rd F.RTC_DATE_DAY 0 = 1
  ∧ s.rd F.LOG_STAT_TOKENS 0 = 1152 ∧ s.rd F.LOG_STAT_SPARE 0 = 10 ∧ s.rd F.WDT_LADDER_PERIOD 0 = 1000000
  ∧ s.cf F.SLOT_CFG_EN 0 = 1 ∧ s.cf F.SLOT_CFG_EN 1 = 0 ∧ s.cf F.WDT_CFG_GRACE 0 = 0x32 ∧ s.cf F.MEAS_GCFG_OW_PER 0 = 10
  ∧ s.rd F.MEAS_STAT_FREE0 0 = 16 ∧ s.rd F.MS_RES_VALUE 3 = 0xFFFF ∧ s.rd F.TM_TOP_VALUE 7 = 0xFFFFFFFF
  ∧ s.rd F.COMMIT_CTL_OWN_IDLE 0 = 10 ∧ s.rd F.COMMIT_STAT_STATE 0 = 0 ∧ s.rd F.SEQ_STAT_LATCHED 0 = 0 ∧ s.rd F.SAFE_CAUSE_VALID 0 = 0

/-- While no command waits, one microsecond passes (log 1): the calendar's prescaler takes 32,768 parts of a million, each whole million a
tick of a running calendar (R454, R455); with the control plane the timers (R463, R465), the angle inside its slot, the counts of the
watchdog's slots (R476) and the charger's timers (R328) go on, and a delayed crossing that has come due takes effect (R302). The banks,
the OTP and the metrology die stay. It rests on readings of the model, not of the spec alone, where log 1, 35 and 37 say so. -/
def Obligations.IdleMicrosecond : Prop :=
  ∀ s : State, s.pending = [] → ∃ t, step s = .next t ∧ t.pending = [] ∧ t.now = s.now + 1 ∧ t.act = s.act ∧ t.stag = s.stag ∧ t.otp = s.otp ∧ t.met = s.met
    ∧ (s.power.off = true → s.power.st = .ship → t = { begin s with now := s.now + 1 })
    ∧ (s.on = true → ∀ i : Fin 8, s.cf F.TM_CFG_CLK i.val = 0 → s.con F.TM_CFG_GATE_EN i.val = false → s.tmRuns i.val = true → s.cnt i.val + 100 < s.cmpOf i.val →
        s.cnt i.val + 100 ≤ s.topOf i.val → t.rd F.TM_CNT_VALUE i.val = s.cnt i.val + 100)
    ∧ (¬(s.power.off = true ∧ s.power.st = .ship) → s.rtc.rest < 1000000 →
        let ticks := 1000000 ≤ s.rtc.rest + 32768
        let sub := s.rd F.RTC_SUBSEC_SUBSEC 0
        t.rtc.rest = (s.rtc.rest + 32768) % 1000000
        ∧ (¬ticks ∨ s.halted = true → t.rd F.RTC_SUBSEC_SUBSEC 0 = sub)
        ∧ (ticks → s.halted = false → s.rd F.RTC_TRIM_TRIM 0 = 0 → s.rd F.RTC_STAT_SHIFT_LEFT 0 = 0 → s.rtc.withheld = 0 → sub < 32767 →
            t.rd F.RTC_SUBSEC_SUBSEC 0 = sub + 1))
    ∧ (s.on = true →
        let f := s.freqNow * 0x10000
        t.tb.now = s.tb.now + min ((s.now + 1) * f / 1000000000 - s.now * f / 1000000000) (255 - s.tb.now % 256) ∧ t.tb.now / 256 = s.tb.now / 256)
    ∧ (s.on = true → ∀ i : Fin 16, s.wdtRuns = true → s.slotOn i.val = true → (s.wdt.slots.at i.val).at_ ≤ s.now → t.slotCount i.val = s.slotCount i.val + 1)
    ∧ (s.on = true → s.wmon.late = [] → Mild 0x0E 3 s → Mild 0x15 4 s →
        let runs := s.chg = 2 ∨ s.chg = 3 ∨ s.chg = 4 ∨ s.chg = 5
        (runs → t.well.count = s.well.count + (if s.flag F.WELL_CSTAT_DILATED 0 then 1 else 2) ∧ t.well.wall = s.well.wall + 1)
        ∧ (¬runs → t.well.count = s.well.count ∧ t.well.wall = s.well.wall))
    ∧ (s.on = true → Mild 9 7 s → Mild 9 9 s → ∀ x ∈ s.wmon.late, s.wmon.late = [x] → x.edge = .out → x.cmp = .warnHi → s.flag F.WM_MSTAT_ABOVE_WARN x.mon = false →
        (x.due ≤ s.now + 1 → s.cmpActs x.mon .warnHi = true → t.wmon.late = [] ∧ t.rd F.WM_MSTAT_ABOVE_WARN x.mon = 1)
        ∧ (s.now + 1 < x.due → t.wmon.late = [x] ∧ t.rd F.WM_MSTAT_ABOVE_WARN x.mon = s.rd F.WM_MSTAT_ABOVE_WARN x.mon))

/-- Without the control plane a command that is not among those that act without it too answers the state as it was, nothing put out. Every
command answers a next state, and none touches the queue of those that wait. It rests on readings of the model, not of the spec alone,
where log 3, 8 and 25 say so. -/
def Obligations.EveryCommandCompletes : Prop :=
  (∀ (c : Instr) (s : State), beyondPlane c = false → s.on = false → exec c s = .next (begin s))
  ∧ (∀ (c : Instr) (s : State), ∃ t, exec c s = .next t ∧ t.pending = s.pending)

/-- From R490: OTP programming can only turn a 0 into a 1, whatever step is taken. -/
def Obligations.BurnedBitsStay : Prop :=
  ∀ (s : State) (w : Fin 2048) (b : Fin 32) (t : State), step s = .next t → bitOf (s.otp.words.at w.val) b.val = true → bitOf (t.otp.words.at w.val) b.val = true

/-- From R439: there is no path from SEALED back to CALIBRATION: a sealed metrology die stays sealed, and its calibration words and its
identity stay as they are. -/
def Obligations.SealStays : Prop :=
  ∀ s t : State, step s = .next t → s.met.sealed = true → t.met.sealed = true ∧ t.met.words = s.met.words ∧ t.met.serial = s.met.serial

/-- From R41, R295: the device leaves SAFE only into a reset or without power. It rests on readings of the model, not of the spec alone,
where log 25 says so. -/
def Obligations.SafeIsLeftByReset : Prop :=
  ∀ s t : State, step s = .next t → s.safe = true → t.safe = true ∨ t.power.inReset = true ∨ t.power.off = true

/-- From R67, R68: outside a reset the active bank changes at a swap, also one that a slot's start, a deferred launch, a timed command or a
step of the stroke time finds due, at the release of a chip reset, where a voted field is repaired or lost, by the scrubber or as it is
read, and where the metrology die is found to be fitted; no other command changes it. It rests on readings of the model, not of the spec
alone, where log 20, 23, 25 and 26 say so. -/
def Obligations.ActiveBankStays : Prop :=
  ∀ (c : Instr) (s t : State), exec c s = .next t →
    (match c with
      | .commitSwap | .chipReset _ | .scrubPass _ | .metRead _ _ _ | .votedFieldRead _ _ _ | .angleSlotStart | .deferredContextLaunch _
      | .timedCommandDue _ | .lockAcquired _ _ | .strokeBoundary _ => false
      | _ => true) = true → t.act = s.act ∨ t.power.inReset = true ∨ t.power.off = true

/-- From R282, R61, R288: with no class above WARN set and no reaction asked for, the twin gates, the floor's hold and the supplies of the
planes as before, what follows a command's own effect changes reports alone, and what the logbook shows of waiting saves (R502). From
R43, R44, R74, R282, R283, R292 to R295: a reaction of class SAFE brings the device into SAFE: its cause is kept, the contexts are
aborted, a commit fails, a perturbation session ends, the SIG outputs follow the map and every rail does that the map does not hold on.
In SAFE a lower class asks nothing; in DORMANT SAFE powers the control plane again. It rests on readings of the model, not of the spec
alone, where log 4 and 18 say so. -/
def Obligations.ReactionsFollow : Prop :=
  (∀ (c : CopyCause) (s u : State), Mild 0x15 4 u → u.due = [] → u.closed = s.closed → u.well.floorOff = s.well.floorOff →
     (s.on = true → u.power.off = false) → (s.entryPowered = true → u.entryPowered = true) → (s.aonFed = true → u.aonFed = true) →
     Only [F.LOG_STAT_THROTTLED.key 0, F.LOG_EVT_DEFERRED.key 0] { u with logb := { u.logb with starved := (settle c s u).logb.starved } } (settle c s u))
  ∧ (∀ (c : CopyCause) (s u : State) (r : Fin 24) (x : CtxId),
       (u.on = true → u.safe = true → s.safe = true → (∀ d ∈ u.due, d.cls < 4) → Mild 0x15 4 u → u.closed = s.closed → u.well.floorOff = s.well.floorOff →
           (s.entryPowered = true → u.entryPowered = true) →
           Only [F.LOG_STAT_THROTTLED.key 0, F.LOG_EVT_DEFERRED.key 0] { u with logb := { u.logb with starved := (settle c s u).logb.starved } } (settle c s u))
       ∧ (u.on = true → u.safe = false → ∀ d, u.due.find? (fun d => decide (4 ≤ d.cls)) = some d → d.block < 256 → d.event < 256 →
           let t := settle c s u
           t.safe = true ∧ t.rd F.SAFE_CAUSE_VALID 0 = 1 ∧ t.rd F.SAFE_CAUSE_BLOCK 0 = d.block % 32 ∧ t.rd F.SAFE_CAUSE_EVENT 0 = d.event % 256
           ∧ t.rd F.SAFE_TIME_TIME 0 = u.tb.now % 2 ^ 64 ∧ t.rd F.PSTATE_PREV_STATE 0 = u.power.st.code ∧ t.pert.session = none
           ∧ t.power.afterCutoff = none ∧ t.power.resetAfterDrain = none ∧ t.act = u.act ∧ t.otp = u.otp ∧ t.met = u.met
           ∧ ((u.rd F.COMMIT_STAT_STATE 0 = 1 ∨ u.rd F.COMMIT_STAT_STATE 0 = 2) → u.commit.copying = false → t.rd F.COMMIT_STAT_STATE 0 = 4 ∧ t.rd F.COMMIT_STAT_ERR 0 = 5)
           ∧ (∀ i : Fin 8, bitOf t.sched.sig i.val = (if bitOf (u.cf F.SAFE_SIG_HOLD 0) i.val = true then bitOf u.sched.sig i.val else bitOf (u.cf F.SAFE_SIG_LEVEL 0) i.val))
           ∧ (t.rd F.CTX_STAT_STATE x.val ≠ 2 ∧ t.rd F.CTX_STAT_STATE x.val ≠ 3)
           ∧ (u.heldOn r.val = false → u.stepOf r.val = 3 → t.stepOf r.val = 0)
           ∧ (u.heldOn r.val = true → u.stepOf r.val = 3 → t.stepOf r.val = 3))
       ∧ (u.on = false → u.dormant = true → (s.aonFed = true → u.aonFed = true) → ∀ d, u.due.find? (fun d => decide (4 ≤ d.cls)) = some d → (settle c s u).safe = true ∧ (settle c s u).power.off = false
           ∧ (settle c s u).rd F.SAFE_CAUSE_VALID 0 = 1))

/-- R50: an address that holds no register reads as 0, and a write to it is discarded and reported with RANGE. (On a -N part R2 answers the
metrology window instead, and R432 keeps that window waiting while its link is lost.) -/
def Obligations.EmptyAddresses : Prop :=
  ∀ (s : State) (m : Master) (addr : BitVec 16) (w : Word) (be : BitVec 4) (o : WriteObs), s.on = true → findReg (baseOf addr.toNat) = none →
    (inMetWindow (baseOf addr.toNat) = false ∨ s.rd F.ID_MET_FITTED 0 = 1) →
    (Does (.registerWrite m addr w be o) s fun u => Refuses m 0x01 (baseOf addr.toNat) s u)
    ∧ (Does (.rcFieldRead m addr) s fun u => u.out.rdata = some 0 ∧ Only [] s u)

/-- R55: any alias access to a status register is refused with ALIAS: a read returns 0 and clears no RC field, a write is discarded. (On a
-N part R2 answers the metrology window instead.) -/
def Obligations.AliasAccessRefused : Prop :=
  ∀ (s : State) (m : Master) (addr : BitVec 16) (w : Word) (be : BitVec 4) (o : WriteObs), s.on = true → aliasOf addr.toNat ≠ 0 →
    (inMetWindow (baseOf addr.toNat) = false ∨ s.rd F.ID_MET_FITTED 0 = 1) →
    ∀ r k, findReg (baseOf addr.toNat) = some (r, k) → r.isControl = false →
      (Does (.registerWrite m addr w be o) s fun u => Refuses m 0x0B (baseOf addr.toNat) s u)
      ∧ (Does (.aliasStatusRead m addr) s fun u => u.out.err = some 0x0B ∧ u.out.rdata = some 0 ∧ Only [] s u)
      ∧ (Does (.rcFieldRead m addr) s fun u => u.out.err = some 0x0B ∧ u.out.rdata = some 0 ∧ Only [] s u)

/-- R42: a host DORMANT or SHIP command, by register or by ring, is accepted in HOLD alone; in any other state it is refused with STATE, and
in HOLD with BUSY while a drain, a hand-over or a hand-back is in progress. An accepted one leaves HOLD at once or after its drain. -/
def Obligations.HostPowerCommands : Prop :=
  ∀ (s : State) (m : Master) (ship : Bool), s.on = true → s.barred m = false →
    let ho := s.rd F.WELL_STAT_HO 0
    let busy := s.draining = true ∨ s.power.afterCutoff ≠ none ∨ ho = 1 ∨ ho = 2 ∨ ho = 5 ∨ s.well.leadPend = true
    let i : Instr := if ship then .wellShip m 0x5C000004 else .wellDormant m 0x5C000002
    let goal : PState := if ship then .ship else .dormant
    (s.power.st ≠ .hold → Does i s fun u => Refuses m 5 0x1C30 s u)
    ∧ (s.power.st = .hold → busy → Does i s fun u => Refuses m 4 0x1C30 s u)
    ∧ (s.power.st = .hold → ¬busy → Does i s fun u => u.out.err = some 0 ∧ (u.power.st = goal ∨ u.power.afterCutoff = some goal))
    ∧ ∀ (c : Fin 8), ∀ x, takeFirst (fun d : Desc => d.info.ring == c) s.ring.dispatched = some x → x.1.op = 4 →
        ofLeBytes x.1.pay = (if ship then 2 else 1) → s.ring.held.at c.val = [] →
        (s.power.st ≠ .hold → Does (.cmdPowerState c true) s fun u => Completed x.1 5 3 s u ∧ u.power = s.power)
        ∧ (s.power.st = .hold → busy → Does (.cmdPowerState c true) s fun u => Completed x.1 4 3 s u ∧ u.power = s.power)
        ∧ (s.power.st = .hold → ¬busy → Does (.cmdPowerState c true) s fun u => u.power.st = goal ∨ u.power.afterCutoff = some goal)

/-- From R504, R505, R46: POWER_ON_RESET, BROWN_OUT_RESET and RESET_N_ASSERTED put the device into a chip reset at once; PSTATE keeps which
it was and, where the AON island is powered, the state before; RESET_N clears ATTEMPTS; the banks are lost. From R12, R13, R504: what a
reset's start leaves of the register fields outside the banks. A POR gives every field its Reset value, and a reset with the AON island
powered every field but those of keep class A, PSTATE.LAST_RESET apart; fields that follow a condition outside the reset's reach (the
feeds, the contacts, the pack, the islands) are read anew at the release and TB_STAT keeps its value until then (the model's reading,
log 25). It rests on readings of the model, not of the spec alone, where log 25 says so. -/
def Obligations.ResetsStart : Prop :=
  (∀ s : State,
     (Does .powerOnReset s fun u => u.power.inReset = true ∧ u.power.off = false ∧ u.act = {} ∧ u.stag = {}
       ∧ u.rd F.PSTATE_LAST_RESET 0 = (if s.power.longFlag then 5 else 0) ∧ u.rd F.PSTATE_PREV_STATE 0 = 0)
     ∧ (s.power.longOpen = false → s.power.st ≠ .ship → Does (.brownOutReset true) s fun u =>
         u.power.inReset = true ∧ u.power.off = false ∧ u.act = {} ∧ u.stag = {} ∧ u.rd F.PSTATE_LAST_RESET 0 = 1
         ∧ u.rd F.PSTATE_PREV_STATE 0 = s.power.st.code)
     ∧ (s.power.longOpen = false → Does (.brownOutReset false) s fun u =>
         u.power.inReset = true ∧ u.power.off = false ∧ u.act = {} ∧ u.stag = {}
         ∧ u.rd F.PSTATE_LAST_RESET 0 = (if s.power.longFlag then 5 else 0))
     ∧ (s.power.longOpen = false → s.power.st ≠ .ship → Does .resetNAsserted s fun u =>
         u.power.inReset = true ∧ u.power.off = false ∧ u.act = {} ∧ u.stag = {} ∧ u.rd F.PSTATE_LAST_RESET 0 = 2
         ∧ u.rd F.PSTATE_PREV_STATE 0 = s.power.st.code ∧ u.rd F.WDT_STAT_ATTEMPTS 0 = 0))
  ∧ (∀ (s : State) (f : Fld) (i : Nat), f ∈ allFlds → physicalKeys.contains (f.key i) = false →
       (f.key i ≠ F.PSTATE_LAST_RESET.key 0 → Does .powerOnReset s fun u => u.rd f i = f.resetAt i)
       ∧ (f.keep ≠ .A → f.reg ≠ 0x404 → s.power.longOpen = false → s.power.st ≠ .ship →
           (Does (.brownOutReset true) s fun u => u.rd f i = f.resetAt i) ∧ (Does .resetNAsserted s fun u => u.rd f i = f.resetAt i))
       ∧ (f.keep = .A → f.reg ≠ 0x10 → f.key i ≠ F.WDT_STAT_ATTEMPTS.key 0 → s.power.longOpen = false → s.power.st ≠ .ship →
           (Does (.brownOutReset true) s fun u => u.rd f i = s.rd f i) ∧ (Does .resetNAsserted s fun u => u.rd f i = s.rd f i)))

/-- From R67, R76, R41, R242: CHIP_RESET releases a chip reset: the control plane runs, the staging bank is a copy of the active one, the
straps are sampled, the auto prime is to come; after a brown-out with the converter LOST it waits for a feed (R317), and a POR waits for
a feed, a press or the end of tOPEN (R313, R515). OTP_DIGEST_CHECKS_DONE then makes the state RUN where a feed is valid and HOLD where
none is, SAFE aside. From R41, R46, R330, R504: the ways into and out of the states without power. LONG_PRESS takes all power and opens
the valve until LONG_PRESS_OPEN_END, after which a device with a pack starts from POR with LAST_RESET 0b101; DORMANT_WAKE is a chip
reset with LAST_RESET 0b110 and PREV_STATE 0b010, and a wake monitor is recorded; SHIP_WAKE by a press or a valid feed is a POR; a
BUTTON_PRESS wakes the device or, while it runs, is reported; without a pack or a feed no press does anything, a press on a device that
rests before its first POR lets it start (R313, R515), and no alarm wakes on halted time (R456). From R32, R323, R332: in DORMANT the
AON island lives on a valid feed or on the pack through the closed valve. A command that takes the last of them leaves the device
without power, its valve open, as in SHIP; one that leaves a supply changes no power state. It rests on readings of the model, not of
the spec alone, where log 25 says so. -/
def Obligations.PowerReturns : Prop :=
  (∀ (s : State) (o : BootObs),
     (s.power.off = false → s.power.inReset = true → (s.power.needFeed = true ∨ (s.power.kind = .por ∧ s.power.roused = false)) → s.anyFeed = false →
         Does (.chipReset o) s fun u => u.power = s.power ∧ u.act = s.act ∧ u.stag = s.stag)
     ∧ (s.power.off = false → s.power.inReset = true → (s.power.needFeed = true ∨ (s.power.kind = .por ∧ s.power.roused = false) → s.anyFeed = true) → Does (.chipReset o) s fun u =>
       u.on = true ∧ u.power.checking = true ∧ u.power.booted = true ∧ u.power.primeDue = true ∧ u.stag = u.act
       ∧ u.rd F.TWB_CFG_ADDR 0 = 0x4C + o.twa.val)
     ∧ (s.power.off = false → s.power.checking = true → Does .otpDigestChecksDone s fun u =>
       u.power.checking = false
       ∧ u.power.st = (if s.power.st = .safe then .safe else if s.anyFeed then .run else .hold)
       ∧ u.act = s.act ∧ u.stag = s.stag ∧ u.otp = s.otp))
  ∧ (∀ s : State,
       (s.power.longOpen = false → Does .longPress s fun u =>
         u.power.off = true ∧ u.power.longOpen = true ∧ u.power.longFlag = true ∧ u.rd F.WELL_STAT_VALVE 0 = 0)
       ∧ (s.power.longOpen = true → s.pack = true → Does .longPressOpenEnd s fun u =>
         u.power.longOpen = false ∧ u.power.inReset = true ∧ u.power.off = false
         ∧ u.rd F.PSTATE_LAST_RESET 0 = (if s.power.longFlag then 5 else 0))
       ∧ (s.power.longOpen = true → s.pack = false → Does .longPressOpenEnd s fun u =>
         u.power.longOpen = false ∧ u.power.off = s.power.off ∧ u.power.inReset = s.power.inReset ∧ u.rd F.WELL_STAT_VALVE 0 = s.rd F.WELL_STAT_VALVE 0)
       ∧ (∀ (l : List WakeSrc), s.power.off = true → s.power.st = .dormant → l.any s.wakes = true → Does (.dormantWake l) s fun u =>
         u.power.inReset = true ∧ u.power.off = false ∧ u.rd F.PSTATE_LAST_RESET 0 = 6 ∧ u.rd F.PSTATE_PREV_STATE 0 = 2)
       ∧ (∀ m : Fin 8, s.power.off = true → s.power.st = .dormant → m ≠ 0 → s.con F.WM_CFG_WAKE_EN (24 + m.val) = true →
         s.cmpOn (24 + m.val) (if s.con F.WM_CFG_WAKE_SEL (24 + m.val) = true then .warnHi else .warnLo) = true →
         Does (.dormantWake [.monitor m, .button]) s fun u => u.power.inReset = true ∧ u.rd F.WM_WAKE_VALID 0 = 1 ∧ u.rd F.WM_WAKE_MON 0 = m.val)
       ∧ (∀ (button : Bool), s.power.off = true → s.power.st = .ship → s.power.longOpen = false →
         (((button = true ∧ s.pack = true) ∨ s.anyFeed = true) → Does (.shipWake button) s fun u => u.power.inReset = true ∧ u.power.off = false
           ∧ u.rd F.PSTATE_LAST_RESET 0 = (if s.power.longFlag then 5 else 0))
         ∧ (¬((button = true ∧ s.pack = true) ∨ s.anyFeed = true) → Does (.shipWake button) s fun u => u.power = s.power))
       ∧ (s.power.off = false → s.power.inReset = true → s.power.kind = .por → s.pack = true → Does .buttonPress s fun u =>
           u.power = { s.power with roused := true } ∧ u.rd F.WELL_STAT_VALVE 0 = 1)
       ∧ (∀ n : Fin 2, s.power.off = true → s.power.st = .dormant → s.halted = true → Does (.dormantWake [.alarm n]) s fun u => u.power = s.power)
       ∧ (s.on = true → Does .buttonPress s fun u => Only [] s u ∧ Told 0x0B 0x0F s u)
       ∧ (s.power.off = true → s.power.st = .dormant → Does .buttonPress s fun u =>
         u.power.inReset = true ∧ u.power.off = false ∧ u.rd F.PSTATE_LAST_RESET 0 = 6))
  ∧ (∀ (c : CopyCause) (s u : State), s.on = false → u.on = false → u.dormant = true → u.due = [] → s.entryPowered = u.entryPowered →
       let fed := fun (x : State) => x.anyFeed = true ∨ (x.pack = true ∧ x.flag F.WELL_STAT_VALVE 0 = true)
       (fed s → ¬fed u → (settle c s u).power.st = .ship ∧ (settle c s u).power.off = true ∧ (settle c s u).rd F.WELL_STAT_VALVE 0 = 0)
       ∧ (fed u → settle c s u = u))

/-- From R34, R40, R298, R299, R424: the events of the redundant units and of the islands. A first lost reference or oscillator clears its
bit of UNIT_STAT and reports it, DEGRADED too where that sets it; the next one is a brown-out reset. The loss of an island clears its
bit, that of DATA or LINK is reported, and the rails are left alone. It rests on readings of the model, not of the spec alone, where log
5 and 25 say so. -/
def Obligations.UnitsLost : Prop :=
  ∀ s : State, s.on = true → s.rd F.TB_STAT_LOCK 0 < 8 →
    (∀ n : Fin 3, s.rd F.UNIT_STAT_REF_OK 0 = 7 → Does (.referenceDeviation n) s fun u =>
      u.rd F.UNIT_STAT_REF_OK 0 = 7 - 2 ^ n.val ∧ u.rd F.FB_STAT_LAST 0 = (if u.degraded && !s.degraded then 5 else 1) ∧ Only [F.UNIT_STAT_REF_OK.key 0] s u)
    ∧ (∀ n : Fin 3, s.rd F.UNIT_STAT_REF_OK 0 ≠ 7 → bitOf (s.rd F.UNIT_STAT_REF_OK 0) n.val = true →
        Does (.referenceDeviation n) s fun u => u.power.inReset = true)
    ∧ (s.rd F.UNIT_STAT_OSC_PRI_OK 0 = 1 → s.rd F.UNIT_STAT_OSC_SEC_OK 0 = 1 →
        (Does (.oscillatorLoss true) s fun u => u.rd F.UNIT_STAT_OSC_PRI_OK 0 = 0 ∧ u.rd F.UNIT_STAT_OSC_SEC_OK 0 = 1
          ∧ u.rd F.TB_STAT_REF_SEC 0 = 1 ∧ u.rd F.FB_STAT_LAST 0 = (if u.degraded && !s.degraded then 5 else 2) ∧ u.power.onSecondary = true)
        ∧ (Does (.oscillatorLoss false) s fun u => u.rd F.UNIT_STAT_OSC_SEC_OK 0 = 0 ∧ u.rd F.FB_STAT_LAST 0 = (if u.degraded && !s.degraded then 5 else 3)
          ∧ Only [F.UNIT_STAT_OSC_SEC_OK.key 0] s u))
    ∧ (s.rd F.UNIT_STAT_OSC_PRI_OK 0 = 1 → s.rd F.UNIT_STAT_OSC_SEC_OK 0 = 0 →
        Does (.oscillatorLoss true) s fun u => u.power.inReset = true)
    ∧ (∀ (isl : Island), bitOf (s.rd F.UNIT_STAT_ISLAND_OK 0) (islandBit isl) = true → Does (.islandPowerLoss isl) s fun u =>
        bitOf (u.rd F.UNIT_STAT_ISLAND_OK 0) (islandBit isl) = false ∧ ((isl = .data ∨ isl = .link) → u.rd F.FB_STAT_LAST 0 = 4)
        ∧ u.stages = s.stages ∧ u.seq = s.seq ∧ u.act = s.act
        ∧ Outside (fun a => a == 0x18 || (0x2200 ≤ a && a < 0x2600)) s u)
    ∧ (∀ (isl : Island), bitOf (s.rd F.UNIT_STAT_ISLAND_OK 0) (islandBit isl) = false → Does (.islandPowerReturn isl) s fun u =>
        bitOf (u.rd F.UNIT_STAT_ISLAND_OK 0) (islandBit isl) = true
        ∧ u.stages = s.stages ∧ u.seq = s.seq ∧ u.act = s.act
        ∧ Outside (fun a => a == 0x18 || (0x2200 ≤ a && a < 0x2600)) s u)

/-- From R51: the PCI Express host and the two-wire master reach the same commands; R56, checks 1, 2 and 4, and the refusal: a write to an
address that holds no register, a write through an alias to a status register, and a write that sets a reserved bit are refused with the
check's code, LAST_ERR of that master alone names it, and nothing else changes. R56, checks 3, 6 and 7, R69, R304: of a master that
OWNER_POLICY does not permit a write that would change set-up is refused with PRIVILEGE; a banked register is refused with LOCKED while
the other master owns the staging bank and with BUSY while a commit has it. It rests on readings of the model, not of the spec alone,
where log 22 and 27 say so. -/
def Obligations.WritesRefused : Prop :=
  (∀ (s : State) (m : Master) (addr : BitVec 16) (w : Word) (be : BitVec 4) (o : WriteObs), s.on = true →
     (inMetWindow (baseOf addr.toNat) = true → s.rd F.ID_MET_FITTED 0 ≠ 1 →
       Does (.registerWrite m addr w be o) s fun u => Refuses m 0x11 (baseOf addr.toNat) s u)
     ∧ (inMetWindow (baseOf addr.toNat) = false → findReg (baseOf addr.toNat) = none →
       Does (.registerWrite m addr w be o) s fun u => Refuses m 0x01 (baseOf addr.toNat) s u)
     ∧ (∀ r k, findReg (baseOf addr.toNat) = some (r, k) → inMetWindow (baseOf addr.toNat) = false → aliasOf addr.toNat ≠ 0 →
       r.isControl = false → Does (.registerWrite m addr w be o) s fun u => Refuses m 0x0B (baseOf addr.toNat) s u)
     ∧ (∀ r k, findReg (baseOf addr.toNat) = some (r, k) → inMetWindow (baseOf addr.toNat) = false → baseOf addr.toNat ≠ 0x200 →
       baseOf addr.toNat ≠ 0x2C04 → (aliasOf addr.toNat = 0 ∨ r.isControl = true) → s.barred m = false →
       reservedSet r (merged (aliasOf addr.toNat) (s.wordNow r (instOf (selOf s m.idx) m.idx r k)) w.toNat be.toNat) = true →
       Does (.registerWrite m addr w be o) s fun u => Refuses m 0x02 (baseOf addr.toNat) s u))
  ∧ (∀ (s : State) (m : Master) (addr : BitVec 16) (w : Word) (be : BitVec 4) (o : WriteObs), s.on = true →
       ∀ r k, findReg (baseOf addr.toNat) = some (r, k) → inMetWindow (baseOf addr.toNat) = false → baseOf addr.toNat ≠ 0x200 →
         (aliasOf addr.toNat = 0 ∨ r.isControl = true) →
         let i := instOf (selOf s m.idx) m.idx r k
         let v := merged (aliasOf addr.toNat) (s.wordNow r i) w.toNat be.toNat
         (s.barred m = true → s.changesSetup r i v = true →
           Does (.registerWrite m addr w be o) s fun u => Refuses m 0x0A (baseOf addr.toNat) s u)
         ∧ (s.changesSetup r i v = false ∨ s.barred m = false → reservedSet r v = false → s.fieldLocked r i v = false → r.isBanked = true →
             s.ownedByOther m = true → Does (.registerWrite m addr w be o) s fun u => Refuses m 0x03 (baseOf addr.toNat) s u)
         ∧ (s.changesSetup r i v = false ∨ s.barred m = false → reservedSet r v = false → s.fieldLocked r i v = false → r.isBanked = true →
             s.ownedByOther m = false → s.committing = true →
             Does (.registerWrite m addr w be o) s fun u => Refuses m 0x04 (baseOf addr.toNat) s u))

/-- From R52, R54, R57, R66, R68, R69: an accepted write of a control register gives each of its fields its bits of the merged word: a
banked field in the staging bank, whose first writer becomes its owner, an Immediate one at once. No other field changes, and the active
bank never does. (The calendar and the perturbation settings act further at once: their own statements say how.) It rests on readings of
the model, not of the spec alone, where log 22 and 27 say so. -/
def Obligations.WritesAccepted : Prop :=
  ∀ (s : State) (m : Master) (addr : BitVec 16) (w : Word) (be : BitVec 4) (o : WriteObs), s.on = true →
    ∀ r k, findReg (baseOf addr.toNat) = some (r, k) → inMetWindow (baseOf addr.toNat) = false → r.isControl = true →
      ¬(0x2814 ≤ r.base ∧ r.base ≤ 0x2818) → ¬(0x3E14 ≤ r.base ∧ r.base ≤ 0x3E24) →
      let i := instOf (selOf s m.idx) m.idx r k
      let v := merged (aliasOf addr.toNat) (s.wordNow r i) w.toNat be.toNat
      s.writeErr m r i v = 0 → Does (.registerWrite m addr w be o) s fun u =>
        u.out.err = some 0 ∧ u.act = s.act
        ∧ (∀ f ∈ r.flds, if f.banked then u.stag.rd f i = f.ofWord v else u.rd f i = f.ofWord v)
        ∧ (∀ g j, r.flds.all (fun f => f.key i != g.key j) = true → u.stag.rd g j = s.stag.rd g j
            ∧ (g.key j ≠ F.COMMIT_STAT_OWNER.key 0 → u.rd g j = s.rd g j))
        ∧ (r.isBanked = true → s.rd F.COMMIT_STAT_OWNER 0 = 0 → u.rd F.COMMIT_STAT_OWNER 0 = masterCode m)

/-- From R50, R54, R55, R60, R288: a read through an alias of a status register returns 0 with ALIAS and clears nothing; a read at the
address of a status register returns its word and clears its RC fields, FB_STAT.PEND of a block with a standing fault apart; a FB_STAT
read is one of these. An address that holds no register reads as 0. It rests on readings of the model, not of the spec alone, where log
18 and 27 say so. -/
def Obligations.ReadsClear : Prop :=
  ∀ (s : State) (m : Master) (addr : BitVec 16), s.on = true → inMetWindow (baseOf addr.toNat) = false →
    (∀ r k, findReg (baseOf addr.toNat) = some (r, k) → aliasOf addr.toNat ≠ 0 → r.isControl = false →
      Does (.aliasStatusRead m addr) s fun u => Only [] s u ∧ u.ring = s.ring ∧ u.faults = s.faults ∧ u.sts = s.sts
        ∧ u.out.rdata = some 0 ∧ u.out.err = some 0x0B)
    ∧ (findReg (baseOf addr.toNat) = none →
      Does (.rcFieldRead m addr) s fun u => Only [] s u ∧ u.out.rdata = some 0 ∧ u.out.err = some 0)
    ∧ (∀ r k, findReg (baseOf addr.toNat) = some (r, k) → aliasOf addr.toNat = 0 → r.isControl = false → r.base ≠ 0x200 →
      ¬(0x2810 ≤ r.base ∧ r.base ≤ 0x2818) → r.isBanked = false → reached r (instOf (selOf s m.idx) m.idx r k) = true →
      let i := instOf (selOf s m.idx) m.idx r k
      Does (.rcFieldRead m addr) s fun u => u.out.err = some 0 ∧ u.out.rdata = some (BitVec.ofNat 32 (s.wordRead m r i))
        ∧ (∀ f ∈ r.flds, f.typ = .rc → ¬(f.reg = 0x3300 ∧ f.lo = 0) → u.rd f i = f.resetAt i % 2 ^ f.width)
        ∧ (∀ g j, r.flds.all (fun f => f.typ != .rc || f.key i != g.key j) = true → u.rd g j = s.rd g j)
        ∧ u.act = s.act ∧ u.stag = s.stag)
    ∧ (∀ b : Fin 23, Does (.fbStatRead m b) s fun u =>
        u.rd F.FB_STAT_EVENTS b.val = 0 ∧ u.rd F.FB_STAT_HIGH b.val = 0 ∧ u.rd F.FB_STAT_LAST b.val = s.rd F.FB_STAT_LAST b.val
        ∧ (s.standing b.val = false → u.rd F.FB_STAT_PEND b.val = 0) ∧ (s.standing b.val = true → u.pend b.val = true)
        ∧ (∀ g j, g.key j / 32 % 0x8000 ≠ 0x3300 ∨ g.key j / 0x100000 ≠ b.val → u.rd g j = s.rd g j))

/-- From R69, R70, R73, R74, R83: COMMIT_GO, COMMIT_ABORT and COMMIT_DISCARD with the word that leaves no reserved bit and no second action,
its OWN_IDLE and OWNER_POLICY in range and permitted. From R69, R70, R71, R73: what a commit goes through by itself: a failing check
ends it FAILED with the check's number, and otherwise it is PENDING for its stroke time; the banks exchange at the swap, which counts it
and keeps its stroke time; when the copy is done the staging bank equals the active one, the owner is none and the state DONE. An idle
owner loses the staging bank, which is reloaded. It rests on readings of the model, not of the spec alone, where log 22, 23 and 31 say
so. -/
def Obligations.CommitRuns : Prop :=
  (∀ (s : State) (m : Master) (idle pol : Nat), s.on = true → 1 ≤ idle → idle ≤ 255 → pol ≤ 2 →
     (s.barred m = false ∨ (idle = s.rd F.COMMIT_CTL_OWN_IDLE 0 ∧ pol = s.rd F.COMMIT_CTL_OWNER_POLICY 0)) →
     let w : Word := BitVec.ofNat 32 (idle * 0x10000 + pol * 0x100)
     let ctl := [F.COMMIT_CTL_OWN_IDLE.key 0, F.COMMIT_CTL_OWNER_POLICY.key 0]
     let stat := [F.COMMIT_STAT_STATE.key 0, F.COMMIT_STAT_ERR.key 0, F.COMMIT_STAT_CHECK.key 0, F.COMMIT_STAT_ERR_ADDR.key 0]
     (s.ownedByOther m = false → s.committing = false → s.safe = false →
       (s.commitAt = 0 ∨ (s.tb.everLocked = true ∧ s.commitAt ≤ s.tb.now + 2 ^ 24 * 0x10000)) →
       Does (.commitGo m w) s fun u => u.out.err = some 0 ∧ u.rd F.COMMIT_STAT_STATE 0 = 1 ∧ u.rd F.COMMIT_STAT_ERR 0 = 0
         ∧ u.commit.at_ = s.commitAt ∧ u.rd F.COMMIT_CTL_OWN_IDLE 0 = idle ∧ Only (ctl ++ stat) { s with commit := u.commit } u)
     ∧ (s.committing = true → s.commit.copying = false → Does (.commitAbort m w) s fun u =>
         u.out.err = some 0 ∧ u.rd F.COMMIT_STAT_STATE 0 = 5 ∧ u.stag = s.stag ∧ u.rd F.COMMIT_STAT_OWNER 0 = s.rd F.COMMIT_STAT_OWNER 0
         ∧ Only (ctl ++ stat) { s with commit := u.commit } u)
     ∧ (s.ownedByOther m = false → s.committing = false → Does (.commitDiscard m w) s fun u =>
         u.out.err = some 0 ∧ u.stag = s.act ∧ u.rd F.COMMIT_STAT_OWNER 0 = 0
         ∧ Only (F.COMMIT_STAT_OWNER.key 0 :: ctl) { s with stag := u.stag, commit := u.commit } u)
     ∧ (s.ownedByOther m = false → s.committing = true → (Does (.commitGo m w) s fun u => u.out.err = some 4 ∧ u.stag = s.stag)
         ∧ (Does (.commitDiscard m w) s fun u => u.out.err = some 4 ∧ u.stag = s.stag))
     ∧ (s.ownedByOther m = true → (Does (.commitGo m w) s fun u => u.out.err = some 3 ∧ u.rd F.COMMIT_STAT_STATE 0 = s.rd F.COMMIT_STAT_STATE 0)
         ∧ (Does (.commitDiscard m w) s fun u => u.out.err = some 3 ∧ u.stag = s.stag)))
  ∧ (∀ s : State, s.on = true →
       (s.rd F.COMMIT_STAT_STATE 0 = 1 →
         (∀ n l, firstFailing (s.checks false s.swapGuess (fun f i => s.cf f i) (fun f i => s.sf f i)) = some (n, l) →
           Does .validationEnd s fun u => u.rd F.COMMIT_STAT_STATE 0 = 4 ∧ u.rd F.COMMIT_STAT_CHECK 0 = n % 16 ∧ u.act = s.act ∧ u.stag = s.stag)
         ∧ (firstFailing (s.checks false s.swapGuess (fun f i => s.cf f i) (fun f i => s.sf f i)) = none →
           (s.commit.at_ = 0 → Does .validationEnd s fun u => u.rd F.COMMIT_STAT_STATE 0 = 2 ∧ u.commit.swapAt = (s.tb.now / 0x10000 + 1) * 0x10000
             ∧ Only [F.COMMIT_STAT_STATE.key 0] { s with commit := u.commit } u)
           ∧ (s.commit.at_ ≠ 0 → s.tb.now ≤ slotUp s.commit.at_ → Does .validationEnd s fun u => u.rd F.COMMIT_STAT_STATE 0 = 2
             ∧ u.commit.swapAt = slotUp s.commit.at_)
           ∧ (s.commit.at_ ≠ 0 → slotUp s.commit.at_ < s.tb.now → Does .validationEnd s fun u => u.rd F.COMMIT_STAT_STATE 0 = 4
             ∧ u.rd F.COMMIT_STAT_ERR 0 = 6 ∧ u.act = s.act ∧ u.stag = s.stag)))
       ∧ (s.rd F.COMMIT_STAT_STATE 0 = 2 → s.commit.copying = false → s.commit.coord = false → s.commit.heldBack = false →
           s.commit.swapAt ≤ s.tb.now →
           (s.holdsSwap = false → Does .commitSwap s fun u => u.act = s.stag ∧ u.stag = s.act ∧ u.commit.copying = true
             ∧ u.rd F.COMMIT_SEQ_COUNT 0 = (s.rd F.COMMIT_SEQ_COUNT 0 + 1) % 0x10000 ∧ u.rd F.SWAP_TIME_TIME 0 = s.tb.now % 2 ^ 64)
           ∧ (s.holdsSwap = true → Does .commitSwap s fun u => u.commit.heldBack = true ∧ Only [] { s with commit := u.commit } u))
       ∧ (s.commit.copying = true → Does .commitCopyDone s fun u => u.stag = s.act ∧ u.act = s.act ∧ u.rd F.COMMIT_STAT_STATE 0 = 3
           ∧ u.rd F.COMMIT_STAT_OWNER 0 = 0 ∧ u.commit.copying = false
           ∧ Only [F.COMMIT_STAT_STATE.key 0, F.COMMIT_STAT_OWNER.key 0] { s with stag := u.stag, commit := u.commit } u)
       ∧ (s.rd F.COMMIT_STAT_OWNER 0 ≠ 0 → s.committing = false → Does .ownershipIdleRelease s fun u => u.stag = s.act ∧ u.rd F.COMMIT_STAT_OWNER 0 = 0
           ∧ Only [F.COMMIT_STAT_OWNER.key 0] { s with stag := u.stag } u))

/-- From R57, R58, R59: a full scrub pass is counted; a field with one differing copy is rewritten from the majority and counted; where all
three differ the staging bank is reloaded and its ownership released, or the field of the active bank takes its Reset value, and the
loss is named and reported. A voted read finds the same. It rests on readings of the model, not of the spec alone, where log 26 says so. -/
def Obligations.VotesSettle : Prop :=
  ∀ (s : State) (m : Master) (x : Found), s.on = true →
    (Does (.scrubPass []) s fun u => u.rd F.SCRUB_PASS_COUNT 0 = (s.rd F.SCRUB_PASS_COUNT 0 + 1) % 0x10000
      ∧ Only [F.SCRUB_PASS_COUNT.key 0] s u)
    ∧ ∀ r f, votedFld x.reg x.lo = some (r, f) → r.instances.contains x.inst = true → x.a < 2 ^ f.width → x.b < 2 ^ f.width → x.c < 2 ^ f.width →
      (∀ v, majority x.a x.b x.c = some v → ¬(x.a = x.b ∧ x.b = x.c) → Does (.scrubPass [x]) s fun u =>
        (if x.act then u.act.rd f x.inst else u.stag.rd f x.inst) = v
        ∧ u.rd F.SCRUB_FIX_COUNT 0 = min 0xFFFF (s.rd F.SCRUB_FIX_COUNT 0 + 1)
        ∧ Only [F.SCRUB_FIX_COUNT.key 0, F.SCRUB_PASS_COUNT.key 0] { s with act := u.act, stag := u.stag } u)
      ∧ (majority x.a x.b x.c = none → x.act = false → Does (.scrubPass [x]) s fun u =>
        u.stag = s.act ∧ u.act = s.act ∧ u.rd F.COMMIT_STAT_OWNER 0 = 0 ∧ u.rd F.VOTE_STAT_STAGE_VOTE_LOST 0 = 1
        ∧ u.rd F.VOTE_STAT_ADDR 0 = r.addrOf x.inst % 2 ^ 14 ∧ Told 1 1 s u)
      ∧ (majority x.a x.b x.c = none → x.act = true → Does (.scrubPass [x]) s fun u =>
        u.act.rd f x.inst = f.resetAt x.inst % 2 ^ f.width ∧ u.stag = s.stag ∧ u.rd F.VOTE_STAT_ACTIVE_VOTE_LOST 0 = 1
        ∧ u.rd F.VOTE_STAT_ADDR 0 = r.addrOf x.inst % 2 ^ 14 ∧ (u.on = true → u.rd F.FB_STAT_LAST 1 = 2))
      ∧ (∀ k, findReg (r.addrOf x.inst) = some (r, k) → x.act = s.viewsActive m → aliasOf (r.addrOf x.inst) = 0 → inMetWindow (r.addrOf x.inst) = false →
          instOf (selOf s m.idx) m.idx r k = x.inst → reached r x.inst = true →
          let read : Instr := .votedFieldRead m (BitVec.ofNat 16 (r.addrOf x.inst)) [x]
          (∀ v, majority x.a x.b x.c = some v → ¬(x.a = x.b ∧ x.b = x.c) → Does read s fun u =>
            (if x.act then u.act.rd f x.inst else u.stag.rd f x.inst) = v ∧ u.rd F.SCRUB_FIX_COUNT 0 = min 0xFFFF (s.rd F.SCRUB_FIX_COUNT 0 + 1)
            ∧ u.out.err = some 0)
          ∧ (majority x.a x.b x.c = none → x.act = false → Does read s fun u => u.stag = s.act ∧ u.act = s.act ∧ u.rd F.COMMIT_STAT_OWNER 0 = 0
            ∧ u.rd F.VOTE_STAT_STAGE_VOTE_LOST 0 = 1 ∧ u.rd F.VOTE_STAT_ADDR 0 = r.addrOf x.inst % 2 ^ 14 ∧ Told 1 1 s u ∧ u.out.err = some 0)
          ∧ (majority x.a x.b x.c = none → x.act = true → Does read s fun u => u.act.rd f x.inst = f.resetAt x.inst % 2 ^ f.width ∧ u.stag = s.stag
            ∧ u.rd F.VOTE_STAT_ACTIVE_VOTE_LOST 0 = 1 ∧ u.rd F.VOTE_STAT_ADDR 0 = r.addrOf x.inst % 2 ^ 14
            ∧ (u.on = true → u.rd F.FB_STAT_LAST 1 = 2 ∧ u.out.err = some 0)))

/-- From R64, R65, R84: a mailbox request for a home address is open until it completes; one for another address fails with RANGE. A
completed read gives the value's words, least significant first; a completed write of ALIGN_TIME takes effect as one write. It rests on
readings of the model, not of the spec alone, where log 27 says so. -/
def Obligations.MailboxRequests : Prop :=
  ∀ (s : State) (m : Master) (home : BitVec 14), s.on = true →
    let keys := [F.MBX_STAT_ERR.key m.idx, F.MBX_STAT_LEN.key m.idx, F.MBX_STAT_BUSY.key m.idx, F.MBX_STAT_VALID.key m.idx]
    let data := [F.MBX_DATA0_DATA.key m.idx, F.MBX_DATA1_DATA.key m.idx, F.MBX_DATA2_DATA.key m.idx, F.MBX_DATA3_DATA.key m.idx]
    let err := [F.LAST_ERR_CODE.key m.idx, F.LAST_ERR_COUNT.key m.idx, F.LAST_ERR_ADDR.key m.idx]
    (∀ n, homeLen home.toNat = some n → (inMetWindow home.toNat = false ∨ s.rd F.ID_MET_FITTED 0 = 1) →
      (Does (.mbxReadRequest m home) s fun u => u.out.err = some 0 ∧ u.rd F.MBX_STAT_BUSY m.idx = 1 ∧ u.rd F.MBX_STAT_VALID m.idx = 0
        ∧ u.rd F.MBX_STAT_LEN m.idx = n ∧ (u.mbx.at m.idx).req.map (fun x => (x.1, x.2.1)) = some (false, home.toNat) ∧ Only keys { s with mbx := u.mbx } u)
      ∧ (Does (.mbxWriteRequest m home) s fun u => u.out.err = some 0 ∧ u.rd F.MBX_STAT_BUSY m.idx = 1 ∧ u.rd F.MBX_STAT_VALID m.idx = 0
        ∧ (u.mbx.at m.idx).req.map (fun x => (x.1, x.2.1)) = some (true, home.toNat) ∧ Only keys { s with mbx := u.mbx } u))
    ∧ (homeLen home.toNat = none → inMetWindow home.toNat = false → Does (.mbxReadRequest m home) s fun u =>
        u.out.err = some 1 ∧ u.rd F.MBX_STAT_ERR m.idx = 1 ∧ u.rd F.MBX_STAT_VALID m.idx = 0 ∧ u.rd F.LAST_ERR_CODE m.idx = 1
        ∧ Only (keys ++ err) { s with mbx := u.mbx } u)
    ∧ (∀ i, (s.mbx.at m.idx).req = some (false, 0x418, i) → Does (.mbxComplete m) s fun u =>
        u.rd F.MBX_STAT_VALID m.idx = 1 ∧ u.rd F.MBX_STAT_BUSY m.idx = 0 ∧ u.rd F.MBX_STAT_LEN m.idx = 1
        ∧ u.rd F.MBX_DATA0_DATA m.idx = s.tb.now % 2 ^ 32 ∧ u.rd F.MBX_DATA1_DATA m.idx = s.tb.now / 2 ^ 32 % 2 ^ 32
        ∧ (u.mbx.at m.idx).req = none ∧ Only (keys ++ data) { s with mbx := u.mbx } u)
    ∧ (∀ i, (s.mbx.at m.idx).req = some (true, 0x428, i) → s.barred m = false →
        s.rd F.MBX_DATA0_DATA m.idx < 2 ^ 32 → s.rd F.MBX_DATA1_DATA m.idx < 2 ^ 32 → Does (.mbxComplete m) s fun u =>
        u.rd F.ALIGN_TIME_TIME 0 = s.rd F.MBX_DATA1_DATA m.idx * 2 ^ 32 + s.rd F.MBX_DATA0_DATA m.idx
        ∧ u.rd F.MBX_STAT_VALID m.idx = 1 ∧ u.rd F.MBX_STAT_ERR m.idx = 0
        ∧ Only (F.ALIGN_TIME_TIME.key 0 :: keys) { s with mbx := u.mbx } u)

/-- From R63, R76 to R81: the two-wire bus. It rests on readings of the model, not of the spec alone, where log 28 says so. -/
def Obligations.TwoWireBus : Prop :=
  ∀ (s : State) (b : Byte) (o : WriteObs) (read : Bool), s.on = true →
    let idle := s.tw.crossing = none ∧ s.tw.busyTill ≤ s.now
    let addr := s.tw.page.toNat * 256 + s.tw.ptr.toNat / 4 * 4
    let lane := s.tw.ptr.toNat % 4
    let next := if s.tw.ptr = 0xFB then 0 else s.tw.ptr.toNat + 1
    let nacked := fun (u : State) => u.out.ack = some false ∧ u.rd F.TWB_STAT_BUSY_NACKS 0 = min 0xFFFF (s.rd F.TWB_STAT_BUSY_NACKS 0 + 1)
      ∧ Only [F.TWB_STAT_BUSY_NACKS.key 0] { s with tw := u.tw } u
    (idle → Does (.twAddressByte false) s fun u => u.out.ack = some true ∧ u.tw.active = true ∧ u.tw.wantPtr = true
      ∧ u.tw.page = s.tw.page ∧ Only [] { s with tw := u.tw } u)
    ∧ (idle → (0xFC ≤ s.tw.ptr.toNat ∨ outsideAt s.tw.addr = false) → Does (.twAddressByte true) s fun u =>
        u.out.ack = some true ∧ u.tw.active = true ∧ u.tw.reading = true ∧ Only [] { s with tw := u.tw } u)
    ∧ (¬idle → Does (.twAddressByte read) s nacked)
    ∧ (idle → s.tw.ptr.toNat < 0xFC → outsideAt s.tw.addr = true →
        (s.tw.kept.all (fun p => p.1 != s.tw.page.toNat * 256 + s.tw.ptr.toNat) = true → Does (.twAddressByte true) s fun u =>
          nacked u ∧ u.tw.crossing = some (s.tw.page.toNat * 256 + s.tw.ptr.toNat) ∧ u.tw.kept = none)
        ∧ (∀ p, s.tw.kept = some p → p.1 = s.tw.page.toNat * 256 + s.tw.ptr.toNat → Does (.twAddressByte true) s fun u =>
          u.out.ack = some true ∧ u.tw.active = true ∧ u.tw.reading = true ∧ u.tw.snaps = p.2 ∧ u.tw.kept = none ∧ Only [] { s with tw := u.tw } u))
    ∧ (s.tw.active = true → s.tw.wantPtr = true → Does (.twPointerByte b) s fun u => u.out.ack = some true ∧ u.tw.ptr = b
        ∧ u.tw.page = s.tw.page ∧ u.tw.wantPtr = false ∧ Only [] { s with tw := u.tw } u)
    ∧ (s.tw.active = true → s.tw.reading = false → s.tw.wantPtr = false → s.tw.dead = false →
        (s.tw.ptr = 0xFF → Does (.twDataByteWrite b o) s fun u => u.out.ack = some true ∧ u.tw.page = b ∧ u.tw.ptr = 0xFF
          ∧ Only [] { s with tw := u.tw } u)
        ∧ (0xFC ≤ s.tw.ptr.toNat → s.tw.ptr ≠ 0xFF → Does (.twDataByteWrite b o) s fun u => u.out.ack = some false
          ∧ u.rd F.LAST_ERR_CODE 1 = 1 ∧ Only [F.LAST_ERR_CODE.key 1, F.LAST_ERR_COUNT.key 1, F.LAST_ERR_ADDR.key 1] { s with tw := u.tw } u)
        ∧ (s.tw.ptr.toNat < 0xFC → s.tw.ptr.toNat % 4 ≠ 3 → Does (.twDataByteWrite b o) s fun u => u.out.ack = some true
          ∧ u.tw.ptr.toNat = s.tw.ptr.toNat + 1 ∧ u.tw.asm.map (fun x => (x.1, x.2 / 256 ^ (s.tw.ptr.toNat % 4) % 256)) = some (s.tw.addr, b.toNat)
          ∧ Only [] { s with tw := u.tw } u)
        ∧ (∀ w, s.tw.ptr.toNat < 0xFC → s.tw.ptr.toNat % 4 = 3 → s.tw.asm = some (s.tw.addr, w) → Does (.twDataByteWrite b o) s fun u =>
          u.tw.asm = none ∧ u.out.err.isSome = true ∧ u.out.ack = some (u.out.err == some 0) ∧ u.tw.dead = (u.out.err != some 0)
          ∧ ∀ r k, findReg (baseOf addr) = some (r, k) → inMetWindow (baseOf addr) = false → r.isControl = true → w < 2 ^ 32 →
              ¬(0x2814 ≤ r.base ∧ r.base ≤ 0x2818) → ¬(0x3E14 ≤ r.base ∧ r.base ≤ 0x3E24) →
            let i := instOf (selOf s 1) 1 r k
            let v := merged (aliasOf addr) (s.wordNow r i) (w % 2 ^ 24 + b.toNat * 2 ^ 24) 0xF
            u.out.err = some (s.writeErr .twoWire r i v) ∧ (s.writeErr .twoWire r i v ≠ 0 → u.rd F.LAST_ERR_CODE 1 = s.writeErr .twoWire r i v)
            ∧ (s.writeErr .twoWire r i v = 0 → u.act = s.act ∧ ∀ f ∈ r.flds, if f.banked then u.stag.rd f i = f.ofWord v else u.rd f i = f.ofWord v)))
    ∧ (s.tw.active = true → s.tw.reading = true → s.tw.released = false → s.tw.dead = false → s.tw.ptr.toNat < 0xFC →
        (∀ x, s.tw.snaps.find? (fun y => y.1 == addr) = some x → Does .twDataByteRead s fun u => u.out.byte = some (BitVec.ofNat 8 (x.2 / 256 ^ lane))
          ∧ u.tw.ptr.toNat = next ∧ u.tw.page = s.tw.page ∧ u.tw.dead = false ∧ (next ≠ 0 → u.tw.snaps = s.tw.snaps) ∧ Only [] { s with tw := u.tw } u)
        ∧ (s.tw.snaps.find? (fun y => y.1 == addr) = none → outsideAt addr = true → Does .twDataByteRead s fun u => u.out.byte = some 0xFF
          ∧ u.rd F.TWB_STAT_RA_END 0 = 1 ∧ u.tw.dead = true ∧ Only [F.TWB_STAT_RA_END.key 0] { s with tw := u.tw } u)
        ∧ (s.tw.snaps.find? (fun y => y.1 == addr) = none → outsideAt addr = false → ∀ r k, findReg (baseOf addr) = some (r, k) → aliasOf addr = 0 →
            r.base ≠ 0x200 → r.isBanked = false → reached r (instOf (selOf s 1) 1 r k) = true →
            let i := instOf (selOf s 1) 1 r k
            let w := s.wordRead .twoWire r i
            Does .twDataByteRead s fun u => u.out.byte = some (BitVec.ofNat 8 (w / 256 ^ lane)) ∧ u.tw.ptr.toNat = next
              ∧ (next ≠ 0 → u.tw.snaps = (addr, w) :: s.tw.snaps) ∧ u.act = s.act ∧ u.stag = s.stag
              ∧ (∀ f ∈ r.flds, f.typ = .rc → ¬(f.reg = 0x3300 ∧ f.lo = 0) → u.rd f i = f.resetAt i % 2 ^ f.width)
              ∧ (∀ g j, r.flds.all (fun f => f.typ != .rc || f.key i != g.key j) = true → u.rd g j = s.rd g j)))
    ∧ (s.tw.active = true → s.tw.reading = true →
        (s.tw.released = false → s.tw.dead = false → s.tw.ptr = 0xFF → Does .twDataByteRead s fun u => u.out.byte = some s.tw.page ∧ u.tw = s.tw
          ∧ Only [] s u)
        ∧ (s.tw.released = false → s.tw.dead = false → s.tw.ptr ≠ 0xFF → 0xFC ≤ s.tw.ptr.toNat → Does .twDataByteRead s fun u => u.out.byte = some 0
          ∧ Only [] { s with tw := u.tw } u)
        ∧ (s.tw.released = true ∨ s.tw.dead = true → Does .twDataByteRead s fun u => u.out.byte = some 0xFF ∧ Only [] { s with tw := u.tw } u))
    ∧ (Does .twStop s fun u => u.tw.active = false ∧ u.tw.asm = none ∧ u.tw.page = s.tw.page ∧ u.tw.ptr = s.tw.ptr
        ∧ u.rd F.TWB_STAT_PARTIAL 0 = (if s.tw.asm.isSome then 1 else s.rd F.TWB_STAT_PARTIAL 0)
        ∧ Only [F.TWB_STAT_PARTIAL.key 0] { s with tw := u.tw } u)
    ∧ (∀ p, s.tw.crossing = some p → Does .twReadaheadDone s fun u => u.tw.crossing = none ∧ u.tw.kept.map (·.1) = some p ∧ u.tw.page = s.tw.page)
    ∧ (Does .twReadaheadExpired s fun u => u.tw.kept = none ∧ Only [] { s with tw := u.tw } u)
    ∧ (Does .twMisplaced s fun u => u.rd F.TWB_STAT_MISPLACED 0 = 1 ∧ u.tw.active = false ∧ u.tw.asm = none
        ∧ Only [F.TWB_STAT_MISPLACED.key 0] { s with tw := u.tw } u)
    ∧ (s.tw.active = true → s.tw.reading = true → Does .twTxConflict s fun u => u.rd F.TWB_STAT_TX_CONFLICT 0 = 1 ∧ u.tw.released = true
        ∧ Only [F.TWB_STAT_TX_CONFLICT.key 0] { s with tw := u.tw } u)
    ∧ (Does .twBusTimeout s fun u => u.rd F.TWB_STAT_TIMEOUT 0 = 1 ∧ u.tw.active = false ∧ u.tw.page = s.tw.page
        ∧ Only [F.TWB_STAT_TIMEOUT.key 0] { s with tw := u.tw } u)

/-- From R87, R90, R92, R93, R94, R97: the lock state of the stroke time base. Every change of it keeps the active bank; a loss of lock is
reported. A lock takes the smallest correction to the measured phase plus PHASE_OFS: the first one steps, a reacquisition slews what
exceeds LOCK_TOL unless REACQ_STEP asks for a step. It rests on readings of the model, not of the spec alone, where log 35 says so. -/
def Obligations.LockStates : Prop :=
  ∀ s : State, s.on = true →
    (s.con F.TB_CFG_MAINS_EN 0 = true → (s.lock = 0 ∨ s.lock = 3 ∨ s.lock = 4) → Does .mainsValid s fun u =>
      u.lock = 1 ∧ u.rd F.TB_STAT_AMPL_OK 0 = 1 ∧ u.tb.mains = true ∧ u.tb.now = s.tb.now
      ∧ Only [F.TB_STAT_LOCK.key 0, F.TB_STAT_AMPL_OK.key 0] { s with tb := u.tb } u)
    ∧ (s.con F.TB_CFG_MAINS_EN 0 = false → Does .mainsValid s fun u => u.lock = s.lock ∧ u.tb.mains = true)
    ∧ (∀ ampl, (s.lock = 2 ∨ (s.lock = 1 ∧ s.tb.everLocked = true)) → Does (.mainsLost ampl) s fun u =>
      u.lock = (if s.power.onSecondary then 4 else 3) ∧ u.rd F.TB_EVT_LOSS 0 = min 255 (s.rd F.TB_EVT_LOSS 0 + 1)
      ∧ u.rd F.TB_HOLD_STROKES 0 = 0 ∧ u.tb.mains = false ∧ u.tb.now = s.tb.now ∧ (s.lock = 2 → Told 2 1 s u)
      ∧ Only [F.TB_STAT_LOCK.key 0, F.TB_STAT_AMPL_OK.key 0, F.TB_STAT_SLEWING.key 0, F.TB_EVT_LOSS.key 0, F.TB_HOLD_STROKES.key 0]
          { s with tb := u.tb } u)
    ∧ (∀ ampl, s.lock = 1 → s.tb.everLocked = false → Does (.mainsLost ampl) s fun u => u.lock = 0 ∧ u.tb.now = s.tb.now)
    ∧ (∀ ampl, (s.lock = 0 ∨ s.lock = 3 ∨ s.lock = 4) → Does (.mainsLost ampl) s fun u => u.lock = s.lock ∧ u.tb.mains = false
      ∧ Only [F.TB_STAT_AMPL_OK.key 0] { s with tb := u.tb } u)
    ∧ (s.lock = 2 → Does .phaseJump s fun u => u.lock = (if s.power.onSecondary then 4 else 3)
      ∧ u.rd F.TB_EVT_JUMP 0 = min 255 (s.rd F.TB_EVT_JUMP 0 + 1) ∧ u.tb.now = s.tb.now ∧ Told 2 1 s u
      ∧ Only [F.TB_STAT_LOCK.key 0, F.TB_STAT_SLEWING.key 0, F.TB_EVT_JUMP.key 0, F.TB_HOLD_STROKES.key 0] { s with tb := u.tb } u)
    ∧ ((s.lock = 3 ∨ s.lock = 4) → 12500 < s.rd F.TB_HOLD_STROKES 0 → s.rd F.TB_STAT_COUNT_SUSPECT 0 = 0 → Does .holdoverAmbiguous s fun u =>
      u.rd F.TB_STAT_COUNT_SUSPECT 0 = 1 ∧ Told 2 2 s u ∧ Only [F.TB_STAT_COUNT_SUSPECT.key 0] s u)
    ∧ (s.rd F.TB_HOLD_STROKES 0 ≤ 12500 → Does .holdoverAmbiguous s fun u => Only [] s u)
    ∧ (∀ (mHz : Nat) (theta : BitVec 16), mHz < 2 ^ 17 → s.lock = 1 → s.tb.slew = 0 →
      let corr := s.correction theta.toNat
      (-32768 ≤ corr ∧ corr < 32768 ∧ ((s.tb.now + corr) - (theta.toNat + s.cf F.TB_CFG_PHASE_OFS 0 : Nat)) % 65536 = 0)
      ∧ (s.tb.everLocked = false → 0 ≤ (s.tb.now : Int) + corr → Does (.lockAcquired mHz theta) s fun u =>
        u.lock = 2 ∧ (u.tb.now : Int) = s.tb.now + corr ∧ u.tb.everLocked = true ∧ u.rd F.TB_FREQ_FREQ 0 = mHz ∧ u.act = s.act)
      ∧ (s.tb.everLocked = true → corr.natAbs ≤ 64 → s.con F.TB_CFG_REACQ_STEP 0 = false → Does (.lockAcquired mHz theta) s fun u =>
        u.lock = 2 ∧ u.tb.now = s.tb.now ∧ u.rd F.TB_EVT_REACQ 0 = min 255 (s.rd F.TB_EVT_REACQ 0 + 1)
        ∧ Only [F.TB_STAT_LOCK.key 0, F.TB_FREQ_FREQ.key 0, F.TB_EVT_REACQ.key 0] { s with tb := u.tb } u)
      ∧ (s.tb.everLocked = true → 64 < corr.natAbs → s.con F.TB_CFG_REACQ_STEP 0 = false → Does (.lockAcquired mHz theta) s fun u =>
        u.lock = 1 ∧ u.tb.now = s.tb.now ∧ u.tb.slew = corr ∧ u.rd F.TB_STAT_SLEWING 0 = 1
        ∧ (16384 < corr.natAbs → u.rd F.TB_STAT_COUNT_SUSPECT 0 = 1))
      ∧ (s.tb.everLocked = true → corr ≠ 0 → s.con F.TB_CFG_REACQ_STEP 0 = true → 0 ≤ (s.tb.now : Int) + corr →
        Does (.lockAcquired mHz theta) s fun u => u.lock = 2 ∧ (u.tb.now : Int) = s.tb.now + corr))

/-- From R9, R90, R91, R93, R94, R95, R99: a stroke boundary takes the stroke time to angle 0 of the next stroke, where a pending count step
is applied; the frequency is measured while LOCKED, a holdover's strokes are counted, a slew goes on by at most N_SLEW units, and the
AON island stores the count. A phase step of the mains beyond LOCK_TOL that is no jump is taken out at N_SLEW while the state stays
LOCKED. It rests on readings of the model, not of the spec alone, where log 35 says so. -/
def Obligations.StrokeBoundaries : Prop :=
  ∀ (s : State) (mHz : Nat) (dev : Int), s.on = true → mHz < 2 ^ 17 →
    (s.tb.stepPend = none → s.tb.ofsStep = none → Does (.strokeBoundary ⟨mHz, dev⟩) s fun u =>
      u.tb.now = (s.tb.now / 0x10000 + 1) * 0x10000 ∧ u.lock = s.lock ∧ u.tb.aon.map (·.count) = some (s.tb.now / 0x10000 + 1)
      ∧ (s.lock = 2 → u.rd F.TB_FREQ_FREQ 0 = mHz) ∧ (s.lock ≠ 2 → u.rd F.TB_FREQ_FREQ 0 = s.rd F.TB_FREQ_FREQ 0)
      ∧ ((s.lock = 3 ∨ s.lock = 4) → u.rd F.TB_HOLD_STROKES 0 = min (2 ^ 32 - 1) (s.rd F.TB_HOLD_STROKES 0 + 1))
      ∧ (s.tb.slew.natAbs ≤ 256 → u.tb.slew = 0)
      ∧ (256 < s.tb.slew.natAbs → u.tb.slew.natAbs = s.tb.slew.natAbs - 256 ∧ u.rd F.TB_STAT_SLEWING 0 = 1)
      ∧ (s.lock = 2 → 64 < dev.natAbs → dev.natAbs ≤ s.cf F.TB_CFG_JUMP_MAX 0 * 512 → u.tb.dev = dev ∧ u.rd F.TB_STAT_SLEWING 0 = 1)
      ∧ (s.lock = 2 → s.tb.slew = 0 → dev.natAbs ≤ 64 → dev.natAbs ≤ s.cf F.TB_CFG_JUMP_MAX 0 * 512 → u.tb.dev = 0 ∧ u.rd F.TB_STAT_SLEWING 0 = 0)
      ∧ (s.lock ≠ 2 → s.tb.slew = 0 → u.tb.dev.natAbs = s.tb.dev.natAbs - 256)
      ∧ u.act = s.act ∧ u.stag = s.stag ∧ u.stages = s.stages
      ∧ Outside (fun a => (0x400 ≤ a && a < 0x600) || (0x2200 ≤ a && a < 0x2600) || (0x2A00 ≤ a && a < 0x2C00)) s u)
    ∧ (∀ (k : Int) (n : Nat), s.tb.stepPend = some (k, n) → s.tb.ofsStep = none → 0 ≤ (s.tb.now / 0x10000 : Int) + 1 + k →
      Does (.strokeBoundary ⟨mHz, dev⟩) s fun u => (u.tb.now : Int) = ((s.tb.now / 0x10000 : Nat) + 1 + k) * 0x10000 ∧ u.tb.stepPend = none
        ∧ u.rd F.TB_EVT_ALIGN 0 = min 255 (s.rd F.TB_EVT_ALIGN 0 + 1) ∧ (n = 0 → u.rd F.TB_STAT_COUNT_SUSPECT 0 = 0))

/-- From R98, R99, R113: a PPS edge of the set polarity captures the stroke time; where an alignment is armed it is judged there. ALIGN_CTL
arms or steps; the time base changes at the next boundary only. It rests on readings of the model, not of the spec alone, where log 35
says so. -/
def Obligations.Alignment : Prop :=
  ∀ s : State, s.on = true →
    (∀ (rising : Bool), s.con F.TB_CFG_PPS_EN 0 = true → s.con F.TB_CFG_PPS_EDGE 0 = !rising →
      (s.tb.alignArmed = false → Does (.ppsEdge rising) s fun u => u.rd F.PPS_CAPT_TIME 0 = s.tb.now % 2 ^ 64
        ∧ u.rd F.TB_STAT_PPS_SEEN 0 = 1 ∧ u.timers.ppsIn = rising
        ∧ Only [F.PPS_CAPT_TIME.key 0, F.TB_STAT_PPS_SEEN.key 0] { s with timers := u.timers } u)
      ∧ (s.tb.alignArmed = true → s.lock ≠ 2 → Does (.ppsEdge rising) s fun u => u.rd F.ALIGN_STAT_RESULT 0 = 5 ∧ Told 2 3 s u
        ∧ u.tb.alignArmed = false ∧ u.tb.stepPend = s.tb.stepPend ∧ u.tb.now = s.tb.now)
      ∧ (s.tb.alignArmed = true → s.lock = 2 →
          let d := (BitVec.ofNat 64 (s.rd F.ALIGN_TIME_TIME 0) - BitVec.ofNat 64 s.tb.now).toInt
          let k := (d + 0x8000) / 0x10000
          let resid := d - k * 0x10000
          ((s.cf F.TB_CFG_RESID_LIM 0 * 256 < resid.natAbs ∨ 2 ^ 24 < k.natAbs ∨ (s.tb.now / 0x10000 : Int) + k < 0) →
            Does (.ppsEdge rising) s fun u => u.rd F.ALIGN_STAT_RESULT 0 = 1 ∧ u.rd F.ALIGN_STAT_RESID 0 = toField 16 resid
              ∧ u.tb.alignArmed = false ∧ u.tb.stepPend = s.tb.stepPend)
          ∧ (resid.natAbs ≤ s.cf F.TB_CFG_RESID_LIM 0 * 256 → k.natAbs ≤ 2 ^ 24 → 0 ≤ (s.tb.now / 0x10000 : Int) + k →
            Does (.ppsEdge rising) s fun u => u.rd F.ALIGN_STAT_RESULT 0 = 0 ∧ u.rd F.TB_STAT_COUNT_SUSPECT 0 = 0
              ∧ u.rd F.TB_STAT_ALIGNED 0 = 1 ∧ u.tb.now = s.tb.now ∧ u.tb.alignArmed = false
              ∧ u.tb.stepPend = (if k = 0 then s.tb.stepPend else some (k, 1)))))
    ∧ (∀ (rising : Bool), s.con F.TB_CFG_PPS_EN 0 = false → Does (.ppsEdge rising) s fun u => Only [] { s with timers := u.timers } u)
    ∧ (Does .ppsSeenTimeout s fun u => u.rd F.TB_STAT_PPS_SEEN 0 = 0 ∧ Only [F.TB_STAT_PPS_SEEN.key 0] s u)
    ∧ (∀ (m : Master) (n : BitVec 24), s.barred m = false →
        let w : Word := BitVec.ofNat 32 (n.toNat * 256)
        (s.cf F.TB_CFG_PPS_EN 0 = 1 → Does (.alignArm m w) s fun u => u.out.err = some 0 ∧ u.tb.alignArmed = true
          ∧ u.rd F.ALIGN_STAT_PENDING 0 = 1 ∧ Only [F.ALIGN_STAT_PENDING.key 0, F.ALIGN_CTL_STEP_STROKES.key 0] { s with tb := u.tb } u)
        ∧ (s.cf F.TB_CFG_PPS_EN 0 = 0 → Does (.alignArm m w) s fun u => Refuses m 5 0x430 s u)
        ∧ (0 ≤ (s.tb.now / 0x10000 : Int) + n.toInt → Does (.alignStep m w) s fun u => u.out.err = some 0
          ∧ u.tb.stepPend = some (n.toInt, 0) ∧ u.rd F.ALIGN_STAT_PENDING 0 = 1 ∧ u.tb.now = s.tb.now
          ∧ Only [F.ALIGN_STAT_PENDING.key 0, F.ALIGN_STAT_RESULT.key 0, F.ALIGN_CTL_STEP_STROKES.key 0] { s with tb := u.tb } u)
        ∧ ((s.tb.now / 0x10000 : Int) + n.toInt < 0 → Does (.alignStep m w) s fun u => Refuses m 1 0x430 s u))

/-- From R74, R88, R100 to R106, R110: launches. An angle slot's start moves the angle to it and launches the contexts that are due there,
which need no lock or have it, at most 8 in the slot (R106): those scheduled for it in ascending index, then those that are late or take
the next slot with room. An ABSOLUTE context is due at its launch time, a COMMAND context at its arming's or, with 0, in any slot with
room, a PERIODIC one in every stroke whose count leaves MODULO modulo PERIOD; an occurrence that comes due while the one before still
runs or waits is missed (R104). A launch that needs the lock defers; a deferred one launches when the lock is back and its time still
fits, and ends with DEADLINE once its deadline has passed. A swap that is due comes first; these clauses speak of states without one,
and without a launch skew (R302). It rests on readings of the model, not of the spec alone, where log 31 and 37 say so. -/
def Obligations.Launches : Prop :=
  ∀ (s : State) (c d : CtxId), s.on = true → (s.rd F.COMMIT_STAT_STATE 0 = 2 → s.commit.copying = true ∨ s.swapDue = false) →
    s.pert.kindEnd.at 3 = 0 →
    let t := if s.sched.served = true then (s.tb.now / 256 + 1) * 256 else s.tb.now
    let n := if s.sched.served = true then 0 else s.sched.inSlot
    let goes := s.schOn = true ∧ (s.sched.served = true → s.tb.now / 256 % 256 ≠ 255)
      ∧ (∀ k : Fin 12, s.con F.CA_ROT_ROT_AUTO k.val = true → s.cf F.CA_ROT_ROT_SLOT k.val ≠ t / 256 % 256)
    let alone := ∀ k : Fin 128, k.val ≠ c.val → k.val ≠ d.val → s.ctxSt k.val = 0 ∧ s.mode k.val ≠ 2
    let fresh (x : Nat) : Prop := (s.ctx x).prev.all (fun p => decide (p < t)) = true
    let occurs (x : Nat) : Prop := s.mode x = 2 ∧ t / 0x10000 % s.cf F.CTX_PER_PERIOD x = s.cf F.CTX_PER_MODULO x ∧ s.cf F.CTX_SLOT_SLOT x = t / 256 % 256
      ∧ ¬(s.cf F.CTX_CFG_ONESHOT x = 1 ∧ (s.ctx x).onceDone = true)
    let exact (x : Nat) : Prop := s.ctxSt x = 1 ∧ fresh x ∧ ((s.mode x = 1 ∧ slotUp (s.cf F.CTX_LAUNCH_TIME x) = t)
      ∨ (s.mode x = 3 ∧ (s.ctx x).armAt.any (fun a => a != 0 && slotUp a == t) = true) ∨ occurs x)
    let open_ (x : Nat) : Prop := s.ctxSt x = 1 ∧ fresh x ∧ s.mode x = 3 ∧ (s.ctx x).armAt = some 0 ∧ (s.ctx x).armedAt ≤ t
    let late (x : Nat) : Prop := s.ctxSt x = 1 ∧ fresh x ∧ s.mode x = 1 ∧ slotUp (s.cf F.CTX_LAUNCH_TIME x) < t
    let fits (x : Nat) : Prop := t + requiredTime (progOf s.cf x) ≤ slotUp (s.cf F.CTX_LAUNCH_TIME x) + s.cf F.CTX_CFG_DEADLINE x
    let free (x : Nat) : Prop := s.cf F.CTX_CFG_LOCK_REQ x = 0 ∨ s.lock = 2
    let runs (x : Nat) (u : State) : Prop := u.ctxSt x = 3 ∧ (u.ctx x).prog = progOf s.cf x ∧ (u.ctx x).pos = 0 ∧ (u.ctx x).prev = some t
    let waits (x : Nat) (u : State) : Prop := u.ctxSt x = 1 ∧ u.ctx x = s.ctx x
    (s.sched.served = true → s.tb.now / 256 % 256 ≠ 255 → Does .angleSlotStart s fun u => u.tb.now = t ∧ u.sched.served = true)
    ∧ (s.sched.served = false → Does .angleSlotStart s fun u => u.tb.now = t ∧ u.sched.served = true)
    ∧ (goes → alone → c = d → (exact c.val ∨ open_ c.val) → n < 8 →
        (free c.val → Does .angleSlotStart s fun u => runs c.val u ∧ (u.ctx c.val).sched = t ∧ u.sched.inSlot = n + 1
          ∧ (u.ctx c.val).deadline = t + s.cf F.CTX_CFG_DEADLINE c.val ∧ u.act = s.act ∧ u.stages = s.stages)
        ∧ (¬free c.val → Does .angleSlotStart s fun u => u.ctxSt c.val = 2 ∧ u.sched.inSlot = n
          ∧ (u.ctx c.val).deadline = t + s.cf F.CTX_CFG_DEADLINE c.val))
    ∧ (goes → alone → c = d → late c.val → n < 8 → free c.val →
        (fits c.val → Does .angleSlotStart s fun u => runs c.val u ∧ (u.ctx c.val).sched = slotUp (s.cf F.CTX_LAUNCH_TIME c.val) ∧ u.sched.inSlot = n + 1)
        ∧ (¬fits c.val → Does .angleSlotStart s fun u => u.ctxSt c.val = 5 ∧ u.rd F.CTX_STAT_ERR c.val = 6 ∧ u.sched.inSlot = n))
    ∧ (goes → alone → c = d → (exact c.val ∨ open_ c.val ∨ late c.val) → 8 ≤ n → Does .angleSlotStart s fun u => waits c.val u ∧ u.sched.inSlot = n)
    ∧ (goes → alone → c.val < d.val → exact c.val → exact d.val → free c.val → n = 7 → Does .angleSlotStart s fun u => runs c.val u ∧ waits d.val u ∧ u.sched.inSlot = 8)
    ∧ (goes → alone → c ≠ d → exact c.val → (open_ d.val ∨ late d.val) → free c.val → n = 7 → Does .angleSlotStart s fun u => runs c.val u ∧ waits d.val u ∧ u.sched.inSlot = 8)
    ∧ (goes → alone → c ≠ d → exact c.val → open_ d.val → free c.val → free d.val → n < 7 → Does .angleSlotStart s fun u => runs c.val u ∧ runs d.val u ∧ u.sched.inSlot = n + 2)
    ∧ (goes → alone → c = d → occurs c.val → fresh c.val → (s.ctxSt c.val = 2 ∨ s.ctxSt c.val = 3) → Does .angleSlotStart s fun u =>
        u.rd F.CTX_MISSED_COUNT c.val = min 0xFFFF (s.rd F.CTX_MISSED_COUNT c.val + 1) ∧ u.ctxSt c.val = s.ctxSt c.val ∧ u.ctx c.val = s.ctx c.val ∧ u.sched.inSlot = n)
    ∧ (s.tb.now % 256 = 0 → s.ctxSt c.val = 2 → s.schOn = true → s.lock = 2 → s.after c.val = true → s.sched.inSlot < 8 →
        s.tb.now + (s.ctx c.val).required ≤ (s.ctx c.val).deadline → Does (.deferredContextLaunch c) s fun u =>
          u.ctxSt c.val = 3 ∧ (u.ctx c.val).prog = progOf s.cf c.val ∧ (u.ctx c.val).sched = (s.ctx c.val).sched
          ∧ Only [F.CTX_STAT_STATE.key c.val, F.CTX_STAT_LAST_STEP.key c.val, F.SCH_STAT_PEAK.key 0] { s with sched := u.sched } u)
    ∧ (s.ctxSt c.val = 2 → (s.ctx c.val).deadline ≤ s.tb.now → (s.mode c.val ≠ 2 ∨ (s.ctx c.val).renew = false) → Does (.contextDeadlinePassed c) s fun u =>
        u.rd F.CTX_STAT_ERR c.val = 6 ∧ u.rd F.CTX_STAT_RUNS c.val = (s.rd F.CTX_STAT_RUNS c.val + 1) % 0x10000 ∧ Told 3 1 s u
        ∧ ((s.ctx c.val).renew = false → s.mode c.val ≠ 2 → u.ctxSt c.val = 5)
        ∧ ((s.ctx c.val).renew = false → s.mode c.val = 2 → (s.cf F.CTX_CFG_ONESHOT c.val = 0) → u.ctxSt c.val = 1)
        ∧ Only [F.CTX_STAT_STATE.key c.val, F.CTX_STAT_LAST_STEP.key c.val, F.CTX_STAT_ERR.key c.val, F.CTX_STAT_RUNS.key c.val]
            { s with sched := u.sched } u)

/-- From R103, R105, R110: the steps of a RUNNING context, whose state with the step entered in CTX_STAT is `a`. A step completes, with the
effect that its target's own operation gives it, exactly where the target's chapter accepts it (`mayRail` R194, R231, R234; `maySet`
R178, R219; `mayGroup` R231; `mayBurst` R422; `mayLearn` R345, R347; `mayRotate` R144); the run then goes on, and the last step ends it
DONE. A target's refusal ends the run FAILED with the target's code. TIMER, SIG and WAIT always complete: TIMER starts or stops its
timer, SIG changes the masked outputs alone, WAIT nothing. It rests on readings of the model, not of the spec alone, where log 3 and 31
say so. -/
def Obligations.Steps : Prop :=
  ∀ (s : State) (c : CtxId), s.on = true → s.ctxSt c.val = 3 → ∀ w, (s.ctx c.val).prog[(s.ctx c.val).pos]? = some w →
    let x := s.ctx c.val
    let a := s.wr F.CTX_STAT_LAST_STEP c.val x.pos
    let r := bitsOf w 27 23
    let code := bitsOf w 15 0
    let g := bitsOf w 27 25
    let ch := bitsOf w 26 21
    let k := bitsOf w 27 24
    let rail := a.askRail r (bitOf w 22)
    let set := a.askRailSet r code
    let group := a.askGroup g (bitOf w 24)
    let burst := a.askBurst (bitsOf w 27 27) ch (bitsOf w 7 0)
    let learn := if bitOf w 24 then a.askLearnStart else a.askLearnStop
    let rotate := a.askRotate k
    let primes := fun (scope : Nat) => !s.busyOp && (railsOf (scope - mAnd scope s.goodMask)).all fun y =>
      mAnd (s.deps y) (0xFFFFFF - mOr s.goodMask (scope - mAnd scope s.goodMask)) == 0 && !s.hot y
    let unlatched := !s.flag F.SEQ_STAT_LATCHED 0
    let mayRail := !s.safe && !s.follower r && (!bitOf w 22 || unlatched && (mAnd (2 ^ r) s.goodMask == 2 ^ r || primes (2 ^ r)))
    let ho := s.rd F.WELL_STAT_HO 0
    let maySet := decide (r < 21) && decide ((s.vlim r).1 ≤ code) && decide (code ≤ (s.vlim r).2) && !s.safe && !s.follower r
      && !([0, 1, 5, 6, 9, 0xA].contains (s.stgThrough r)) && (r != 0 || s.stgThrough r != 4 && ho != 1 && ho != 5 && !s.flag F.EST_STAT_DRAW 0)
    let mayGroup := !s.safe && (!bitOf w 24 || unlatched && primes (s.groupMask g))
    let mayBurst := ((blkStreams s.cf).find? (fun i => i / 4 == bitsOf w 27 27)).any fun i => s.trig i == 3 && !(s.strm i).run && !badChannel ch && bitsOf w 7 0 != 0
    let zone := s.rd F.WELL_CSTAT_ZONE 0
    let mayLearn := if bitOf w 24 then s.con F.EST_CFG_LEARN_EN 0 && s.power.st == .run && s.anyStable && s.flag F.EST_STAT_WINDOW 0 && !s.flag F.EST_STAT_DRAW 0
        && zone != 0 && zone != 4 && !s.flag F.WELL_CSTAT_FOLD 0 && !s.partnerDraws
      else s.flag F.EST_STAT_DRAW 0
    let mayRotate := !s.flag F.CA_STAT_FROZEN k && !s.flag F.CA_STAT_FLUSHING k && !s.flag F.CA_STAT_LOST k && !([0, 4, 6, 8, 9, 0xA].contains (s.rd F.B_STAT_STATE k))
    let runs (t u : State) : Prop := u.seq = t.seq ∧ u.stages = t.stages ∧ u.cist = t.cist ∧ u.well = t.well ∧ u.meas = t.meas ∧ u.act = t.act
      ∧ (x.pos + 1 < x.prog.length → u.ctxSt c.val = 3 ∧ (u.ctx c.val).pos = x.pos + 1 ∧ (u.ctx c.val).took = x.took + 1
          ∧ u.rd F.CTX_STAT_LAST_STEP c.val = x.pos % 16)
      ∧ (x.pos + 1 = x.prog.length → x.renew = false → s.mode c.val ≠ 2 → u.ctxSt c.val = 4
          ∧ u.rd F.CTX_STAT_ERR c.val = (if x.deadline < s.tb.now then 6 else 0) ∧ u.rd F.CTX_STAT_RUNS c.val = (s.rd F.CTX_STAT_RUNS c.val + 1) % 0x10000)
    let fails (e : Nat) (u : State) : Prop := x.renew = false → s.mode c.val ≠ 2 →
      u.ctxSt c.val = 6 ∧ u.rd F.CTX_STAT_ERR c.val = e % 256 ∧ u.rd F.CTX_STAT_LAST_STEP c.val = x.pos % 16 ∧ u.rd F.FB_STAT_LAST 3 = 2
    (stepKind w = 1 → mayRail = true → Does (.stepRailEn c) s fun u => runs rail.2 u)
    ∧ (stepKind w = 1 → mayRail = false → Does (.stepRailEn c) s fun u => fails rail.1 u)
    ∧ (stepKind w = 2 → maySet = true → Does (.stepRailSet c) s fun u => runs set.2 u)
    ∧ (stepKind w = 2 → maySet = false → Does (.stepRailSet c) s fun u => fails set.1 u)
    ∧ (stepKind w = 3 → mayGroup = true → Does (.stepGroup c) s fun u => runs group.2 u)
    ∧ (stepKind w = 3 → mayGroup = false → Does (.stepGroup c) s fun u => fails group.1 u)
    ∧ (stepKind w = 4 → mayBurst = true → Does (.stepAdcBurst c) s fun u => runs burst.2 u)
    ∧ (stepKind w = 4 → mayBurst = false → Does (.stepAdcBurst c) s fun u => fails burst.1 u)
    ∧ (stepKind w = 5 → Does (.stepTimer c) s fun u => runs a u
        ∧ bitOf (u.rd F.TM_RUN_RUN 0) (bitsOf w 27 25) = bitOf w 24)
    ∧ (stepKind w = 6 → Does (.stepSig c) s fun u => runs a u
        ∧ (s.sched.sig < 256 → ∀ b : Fin 8, bitOf u.sched.sig b.val = (if bitOf w (8 + b.val) then bitOf w b.val else bitOf s.sched.sig b.val))
        ∧ Only [F.CTX_STAT_STATE.key c.val, F.CTX_STAT_LAST_STEP.key c.val, F.CTX_STAT_ERR.key c.val, F.CTX_STAT_RUNS.key c.val] { s with sched := u.sched } u)
    ∧ (stepKind w = 7 → mayLearn = true → Does (.stepLearn c) s fun u => runs learn.2 u)
    ∧ (stepKind w = 7 → mayLearn = false → Does (.stepLearn c) s fun u => fails learn.1 u)
    ∧ (stepKind w = 8 → mayRotate = true → Does (.stepRotate c) s fun u => runs rotate.2 u)
    ∧ (stepKind w = 8 → mayRotate = false → Does (.stepRotate c) s fun u => fails rotate.1 u)
    ∧ (stepKind w = 9 → Does (.stepWaitEnd c) s fun u => runs a u ∧ u.sched.sig = s.sched.sig
        ∧ Only [F.CTX_STAT_STATE.key c.val, F.CTX_STAT_LAST_STEP.key c.val, F.CTX_STAT_ERR.key c.val, F.CTX_STAT_RUNS.key c.val] { s with sched := u.sched } u)

/-- From R116, R118, R119, R121, R125, R127: a feed controller on its way from OFF to ON and back without a fault. The only registers that
change are those of the power entry block; a feed that goes below V_PRESENT keeps its controller until its under-voltage has lasted
(R129). From R118, R120 to R124, R128, R131, R133: what takes a feed controller out of INRUSH or ON, its cause and its counters, and the
ways back. From R116, R118, R129: the entry logic lives on a feed above V_PRESENT, and on one that still is in INRUSH or ON (log 30).
Where a command takes the last of them, both controllers and the debounce of MATE_N start anew; where one stays, they stay. It rests on
readings of the model, not of the spec alone, where log 3, 6 and 30 say so. -/
def Obligations.FeedsRun : Prop :=
  (∀ (s : State) (f : FeedId), s.on = true →
     let i := f.idx
     let entry := fun (u : State) => Outside (fun a => 0x800 ≤ a && a < 0xA00) s u ∧ u.act = s.act ∧ u.stag = s.stag ∧ u.stages = s.stages
       ∧ u.seq = s.seq ∧ u.tb = s.tb
     (s.feedSt i = 0 → s.mateOk = true → Does (.feedInWindow f true) s fun u => u.feedSt i = 1 ∧ (u.feeds.at i).inWin = true ∧ entry u)
     ∧ (s.feedSt i = 0 → s.mateOk = false → Does (.feedInWindow f true) s fun u => u.feedSt i = 0 ∧ (u.feeds.at i).inWin = true ∧ entry u)
     ∧ (s.feedSt i = 1 → Does (.feedInWindow f false) s fun u => u.feedSt i = 0 ∧ (u.feeds.at i).inWin = false ∧ entry u)
     ∧ (s.feedSt i = 1 → s.feedSt (1 - i) ≠ 2 → Does (.feedQualified (.one f)) s fun u => u.feedSt i = 2 ∧ entry u)
     ∧ (s.feedSt 0 = 1 → s.feedSt 1 = 1 → Does (.feedQualified .both) s fun u =>
         u.feedSt (if s.entryCf F.PE_CFG_OR_MODE 0 = 2 then 1 else 0) = 2 ∧ u.feedSt (if s.entryCf F.PE_CFG_OR_MODE 0 = 2 then 0 else 1) = 1
         ∧ (u.feeds.at (if s.entryCf F.PE_CFG_OR_MODE 0 = 2 then 0 else 1)).waiting = true ∧ entry u)
     ∧ (s.feedSt i = 1 → s.feedSt (1 - i) = 2 → Does (.feedQualified (.one f)) s fun u =>
         u.feedSt i = 1 ∧ (u.feeds.at i).waiting = true ∧ Only [] { s with feeds := u.feeds } u)
     ∧ (s.feedSt i = 2 → Does (.feedInrushDone f) s fun u => u.feedSt i = 3 ∧ u.rd F.FEED_STAT_CAUSE i = s.rd F.FEED_STAT_CAUSE i
         ∧ ((s.feeds.at (1 - i)).waiting = true → s.feedSt (1 - i) = 1 → u.feedSt (1 - i) = 2)
         ∧ ((s.feeds.at i).inWin = true → (s.feeds.at i).fetFailed = false → u.rd F.FEED_STAT_VALID i = 1) ∧ entry u)
     ∧ (s.feedValid i = true → Does (.feedStable f) s fun u => u.rd F.FEED_STAT_STABLE i = 1 ∧ u.rd F.FEED_STAT_RETRIES i = 0
         ∧ Only [F.FEED_STAT_STABLE.key i, F.FEED_STAT_RETRIES.key i] s u)
     ∧ (Does (.feedPresent f) s fun u => u.rd F.FEED_STAT_PRESENT i = 1 ∧ Only [F.FEED_STAT_PRESENT.key i] s u)
     ∧ (s.feedSt i ≠ 5 → Does (.feedAbsent f) s fun u => u.rd F.FEED_STAT_PRESENT i = 0 ∧ Only [F.FEED_STAT_PRESENT.key i] s u)
     ∧ (s.feedSt i = 5 → Does (.feedAbsent f) s fun u => u.feedSt i = 0 ∧ u.rd F.FEED_STAT_RETRIES i = 0 ∧ entry u)
     ∧ (s.rd F.PE_STAT_MATE_RAW 0 = 1 → Does .mateDebounced s fun u => u.rd F.PE_STAT_MATE 0 = 1 ∧ entry u
         ∧ (s.feedSt i = 0 → (s.feeds.at i).inWin = true → (s.feeds.at i).waiting = false → u.feedSt i = 1))
     ∧ (∀ low, Does (.mateNLevelChange low) s fun u => u.rd F.PE_STAT_MATE_RAW 0 = (if low then 1 else 0) ∧ Only [F.PE_STAT_MATE_RAW.key 0] s u))
  ∧ (∀ (s : State) (f : FeedId) (mv : Int), s.on = true →
       let i := f.idx
       let retry := s.rd F.FEED_STAT_RETRIES i < s.entryCf F.PE_CFG_RETRY_MAX 0
       let entry := fun (u : State) => Outside (fun a => 0x800 ≤ a && a < 0xA00) s u ∧ u.act = s.act ∧ u.stag = s.stag ∧ u.stages = s.stages
         ∧ u.seq = s.seq ∧ u.tb = s.tb
       (s.feedSt i = 2 → Does (.feedInrushTimeout f) s fun u => u.feedSt i = (if retry then 4 else 5) ∧ u.rd F.FEED_STAT_CAUSE i = 5 ∧ entry u)
       ∧ ((s.feedSt i = 2 ∨ s.feedSt i = 3) →
           (Does (.breakerSlowTrip f mv) s fun u => u.feedSt i = (if retry then 4 else 5) ∧ u.rd F.FEED_STAT_CAUSE i = 3
             ∧ u.rd F.FEED_EVT_TRIPS i = min 255 (s.rd F.FEED_EVT_TRIPS i + 1) ∧ entry u)
           ∧ (Does (.breakerFastTrip f mv) s fun u => u.feedSt i = (if retry then 4 else 5) ∧ u.rd F.FEED_STAT_CAUSE i = 4
             ∧ u.rd F.FEED_EVT_TRIPS i = min 255 (s.rd F.FEED_EVT_TRIPS i + 1) ∧ entry u)
           ∧ (Does (.feedUnderVoltage f) s fun u => u.feedSt i = 0 ∧ u.rd F.FEED_STAT_CAUSE i = 1 ∧ u.rd F.FEED_STAT_STABLE i = 0
             ∧ u.rd F.FEED_STAT_VALID i = 0 ∧ u.rd F.FEED_EVT_LOSSES i = min 255 (s.rd F.FEED_EVT_LOSSES i + 1) ∧ entry u))
       ∧ (s.feedSt i = 4 → (s.feeds.at i).inWin = true → s.mateOk = true → Does (.feedRetryEnd f) s fun u =>
           u.feedSt i = 1 ∧ u.rd F.FEED_STAT_RETRIES i = min 15 (s.rd F.FEED_STAT_RETRIES i + 1) ∧ entry u)
       ∧ (s.feedSt i = 4 → ((s.feeds.at i).inWin = false ∨ s.mateOk = false) → Does (.feedRetryEnd f) s fun u => u.feedSt i = 0 ∧ entry u)
       ∧ (s.feedSt i ≠ 7 → Does (.feedOverVoltage f mv) s fun u => u.feedSt i = 6 ∧ u.rd F.FEED_STAT_VALID i = 0
           ∧ (s.rd F.FEED_STAT_VALID 0 = 0 → s.rd F.FEED_STAT_VALID 1 = 0 → s.rd F.PE_STAT_NO_FEED 0 = 1 → Told 4 3 s u)
           ∧ ((s.feedSt i = 2 ∨ s.feedSt i = 3) → u.rd F.FEED_STAT_CAUSE i = 2) ∧ entry u)
       ∧ (s.feedSt i = 7 → Does (.feedOverVoltage f mv) s fun u => u.feedSt i = 7 ∧ entry u)
       ∧ (s.feedSt i = 6 → Does (.feedOvCleared f) s fun u => u.feedSt i = (if s.mateOk then 1 else 0) ∧ entry u)
       ∧ ((s.feedSt i = 0 ∨ s.feedSt i = 1) → Does (.hotswapFetFault f) s fun u => u.feedSt i = 5 ∧ u.rd F.FEED_STAT_CAUSE i = 8
           ∧ (u.feeds.at i).fetFailed = true ∧ entry u)
       ∧ (s.feedSt i = 3 → (Does (.feedReverseCurrent f) s fun u => u.feedSt i = 5 ∧ u.rd F.FEED_STAT_CAUSE i = 9 ∧ entry u)
           ∧ (Does (.orReverseBlock f) s fun u => u.feedSt i = 3 ∧ u.rd F.FEED_EVT_REVERSE i = min 255 (s.rd F.FEED_EVT_REVERSE i + 1)
             ∧ (s.feedSt (1 - i) = 3 → u.rd F.FEED_STAT_OR_FWD i = 0) ∧ entry u))
       ∧ (∀ m, s.feedSt i = 5 → Does (.feedLatchClear m f) s fun u => u.out.err = some 0 ∧ u.rd F.FEED_STAT_RETRIES i = 0
           ∧ u.feedSt i = (if (s.feeds.at i).inWin && s.mateOk then 1 else 0) ∧ entry u)
       ∧ (∀ m, s.feedSt i ≠ 5 → Does (.feedLatchClear m f) s fun u => Refuses m 5 0x808 s u)
       ∧ (s.rd F.PE_STAT_MATE_RAW 0 = 0 → s.gatesHeld = false → Does .mateBreak s fun u => u.rd F.PE_STAT_MATE 0 = 0 ∧
           (s.entryCf F.PE_CFG_MATE_REQ 0 = 1 → (s.feedSt i = 2 ∨ s.feedSt i = 3) → u.feedSt i = 0 ∧ u.rd F.FEED_STAT_CAUSE i = 6)
           ∧ (s.entryCf F.PE_CFG_MATE_REQ 0 = 0 → u.feedSt i = s.feedSt i)))
  ∧ (∀ (c : CopyCause) (s u : State), s.on = true → u.on = true → u.due = [] → (∀ e : Fin 8, Mild 4 e.val u) → Mild 0x15 4 u → u.closed = s.closed →
       u.well.floorOff = s.well.floorOff →
       let feeds := fun (x : State) => x.rd F.FEED_STAT_PRESENT 0 = 1 ∨ x.rd F.FEED_STAT_PRESENT 1 = 1 ∨ x.feedSt 0 = 2 ∨ x.feedSt 0 = 3 ∨ x.feedSt 1 = 2 ∨ x.feedSt 1 = 3
       let t := settle c s u
       (feeds s → ¬feeds u → t.feedSt 0 = 0 ∧ t.feedSt 1 = 0 ∧ t.rd F.PE_STAT_MATE 0 = 0 ∧ t.rd F.FEED_STAT_RETRIES 0 = 0 ∧ t.rd F.FEED_STAT_RETRIES 1 = 0
         ∧ t.power = { u.power with booted := false, ignoreFeed := t.power.ignoreFeed })
       ∧ (feeds u → t.feedSt 0 = u.feedSt 0 ∧ t.feedSt 1 = u.feedSt 1 ∧ t.rd F.PE_STAT_MATE 0 = u.rd F.PE_STAT_MATE 0 ∧ t.feeds = u.feeds ∧ t.power = u.power))

/-- From R137, R138, R139, R147, R149, R153, R165: retirements and probes. CA_CTL.RETIRE, an open link, a failed probe and a lost driver
retire segments, with their cause, CA_LAST and the counts; a retired segment stays retired; a passed probe returns its segment to where
it came from. It rests on readings of the model, not of the spec alone, where log 36 says so. -/
def Obligations.SegmentsRetire : Prop :=
  ∀ (s : State) (m : Master) (c : Chan) (a : Arr) (g : Nat), s.on = true → g < segsOf a →
    let k := arrKey c.val a
    let x := s.seg c.val a g
    let stays := fun (u : State) => (∀ j, j ≠ segKey c.val a g → u.cist.segs.at j = s.cist.segs.at j) ∧ u.cist.active = s.cist.active
      ∧ u.stages = s.stages ∧ u.act = s.act ∧ u.stag = s.stag ∧ Outside (fun p => 0xA00 ≤ p && p < 0x1600) s u
    let retired := fun (h : Health) (cause : Nat) (u : State) => (u.seg c.val a g).health = h ∧ (u.seg c.val a g).cause = cause
      ∧ u.rd F.CA_LAST_SEG c.val = g ∧ u.rd F.CA_LAST_ARRAY c.val = a.idx ∧ u.rd F.CA_LAST_CAUSE c.val = cause
      ∧ (x.health.retired = false → s.retired c.val a < segsOf a → u.retired c.val a = s.retired c.val a + 1)
      ∧ (x.health.retired = true → u.retired c.val a = s.retired c.val a)
      ∧ u.rd F.CA_STAT_I_EFF c.val = min (arrayRating 1024 (u.retired c.val .hs)) (arrayRating 1536 (u.retired c.val .ls))
      ∧ (1024 ≤ 4 * u.retired c.val .hs ∨ 1536 ≤ 4 * u.retired c.val .ls → u.rd F.CA_STAT_WORN c.val = 1) ∧ stays u
    let sel := s.rd F.CA_SEL_CH m.idx = c.val ∧ s.rd F.CA_SEL_ARRAY m.idx = a.idx ∧ s.rd F.CA_SEL_SEG m.idx = g
    let known := ∀ y ∈ s.openLinks c.val, y = (a, g)
    let free := s.flag F.CA_STAT_FLUSHING c.val = false ∧ s.flag F.CA_STAT_LOST c.val = false ∧ s.follower (c.val + 1) = false
    (sel → free → x.health.retired = false → Does (.caRetire m 0x5A000008) s fun u => u.out.err = some 0 ∧ retired .retiredGate 6 u)
    ∧ (sel → x.health.retired = true → free → Does (.caRetire m 0x5A000008) s fun u => Refuses m 5 0x123C s u)
    ∧ (∀ key : BitVec 8, key ≠ 0x5A → Does (.caRetire m (key ++ 8#24)) s fun u => Refuses m 1 0x123C s u)
    ∧ (sel → s.flag F.CA_STAT_FLUSHING c.val = true → Does (.caRetire m 0x5A000008) s fun u => Refuses m 4 0x123C s u)
    ∧ (sel → s.flag F.CA_STAT_FLUSHING c.val = false → (s.flag F.CA_STAT_LOST c.val = true ∨ s.follower (c.val + 1) = true) →
        Does (.caProbe m 1) s fun u => Refuses m 5 0x123C s u)
    ∧ (sel → free → x.health.retired = false → Does (.caProbe m 1) s fun u => u.out.err = some 0 ∧ u.cist.probeNext.at k = g + 1
        ∧ u.cist.segs = s.cist.segs ∧ Only [] { s with cist := u.cist } u)
    ∧ (sel → free → known → x.health ≠ .retiredLink → Does (.caScan m 2 [(a, g)]) s fun u => u.out.err = some 0 ∧ retired .retiredLink 5 u)
    ∧ (s.flag F.CA_STAT_FLUSHING c.val = true → Does (.caBackgroundScan c [(a, g)]) s fun u => Only [] s u)
    ∧ (s.flag F.CA_STAT_FLUSHING c.val = false → known → x.health ≠ .retiredLink → Does (.caBackgroundScan c [(a, g)]) s fun u => retired .retiredLink 5 u ∧ u.rd F.FB_STAT_LAST 7 = 7)
    ∧ (x.health = .retiredLink → known → Does (.caBackgroundScan c [(a, g)]) s fun u => Only [] s u)
    ∧ (s.cist.probing.at k = 0 → s.cist.probeNext.at k = g + 1 → s.probeable c.val a g = true → Does (.probeStart c a) s fun u =>
        (u.seg c.val a g).health = .probing ∧ u.cist.probing.at k = g + 1 ∧ u.rd F.CA_STAT_PROBING c.val = 1 ∧ stays u)
    ∧ (s.cist.probing.at k = 0 → s.cist.probeNext.at k = 0 → s.cist.leaking.at k = [] → s.probeable c.val a g = true →
        Does (.probeStart c a) s fun u => let p := u.cist.probing.at k - 1
          s.probeable c.val a p = true ∧ (u.seg c.val a p).health = .probing ∧ (x.suspect = true → (s.seg c.val a p).suspect = true)
          ∧ ((s.seg c.val a p).suspect = x.suspect → (s.seg c.val a p).probed ≤ x.probed))
    ∧ (s.cist.probing.at k = g + 1 → x.health.retired = false → ∀ p : ProbeResult,
        let vth := s.vthFails c.val a g p.vth
        (s.cf F.CA_PROBE_GLEAK_LIM c.val * 10 < p.leak → Does (.probeDone c a p) s fun u => retired .retiredGate 1 u ∧ u.rd F.FB_STAT_LAST 7 = 6)
        ∧ (p.leak ≤ s.cf F.CA_PROBE_GLEAK_LIM c.val * 10 → vth = true → x.suspect = true → Does (.probeDone c a p) s fun u =>
            retired .retiredGate 2 u ∧ u.rd F.FB_STAT_LAST 7 = 6)
        ∧ (p.leak ≤ s.cf F.CA_PROBE_GLEAK_LIM c.val * 10 → (vth = false ∨ x.suspect = false) → Does (.probeDone c a p) s fun u =>
            (u.seg c.val a g).health = (if x.wasResting then .resting else .good) ∧ (u.seg c.val a g).suspect = vth ∧ (u.seg c.val a g).vth = p.vth + 1
            ∧ u.cist.probing.at k = 0 ∧ Only [F.CA_STAT_PROBING.key c.val] { s with cist := u.cist } u ∧ stays u))
    ∧ (∀ bank leaks, s.chanSwitches c.val = false → s.flushes c.val a = false → Does (.bankDriverLoss c a bank leaks) s fun u => Only [] s u)
    ∧ (∀ bank : Fin 16, bankOf a g = bank.val → s.chanSwitches c.val = true → s.driverOk c.val a bank.val = true → Does (.bankDriverLoss c a bank false) s fun u =>
        (x.health.retired = false → u.seg c.val a g = { u.seg c.val a g with health := .retiredGate, cause := 3 })
        ∧ (x.health.retired = true → u.seg c.val a g = x) ∧ u.driverOk c.val a bank.val = false ∧ u.bankActive c.val a bank.val = false
        ∧ (u.rd F.CA_STAT_DERATED c.val = s.rd F.CA_STAT_DERATED c.val → u.rd F.CA_STAT_WORN c.val = s.rd F.CA_STAT_WORN c.val → u.rd F.FB_STAT_LAST 7 = 2)
        ∧ (∀ j, j / bankSize a ≠ bank.val → j < 2048 → u.seg c.val a j = s.seg c.val a j)
        ∧ (s.bankActive c.val a bank.val = true → (s.cist.swap.at k).2 = 0 →
            (List.range 16).any (fun y => y != bank.val && !s.bankActive c.val a y && s.usable c.val a y) = true →
            (List.range 16).any (fun y => !s.bankActive c.val a y && u.bankActive c.val a y) = true)
        ∧ u.stages = s.stages ∧ Outside (fun p => 0xA00 ≤ p && p < 0x1600) s u)
    ∧ (∀ bank : Fin 16, bankOf a g = bank.val → s.chanSwitches c.val = true → Does (.bankDriverLoss c a bank true) s fun u =>
        (u.seg c.val a g).health.retired = x.health.retired ∧ u.bankActive c.val a bank.val = false
        ∧ (x.health.retired = false → g ∈ u.cist.leaking.at k) ∧ Only [F.CA_STAT_ACTIVE.key c.val] { s with cist := u.cist } u)

/-- From R140 to R146, R148: the bank count, the freeze, rotation and wear of a channel. n moves by one bank toward its target and falls
only when the target is two lower; without ADAPT_EN every usable bank is active; a load step freezes it and abandons probes; a rotation
keeps n and retires nothing; it enables the least-worn inactive bank beside the most-worn active one, where that one has more wear, for
one switching period with ROTATING set, and exchanges nothing otherwise. It rests on readings of the model, not of the spec alone, where
log 12 and 36 say so. -/
def Obligations.BanksAdapt : Prop :=
  ∀ (s : State) (m : Master) (c : Chan) (a : Arr) (i n : Nat), s.on = true →
    let count := fun (u : State) (x : Arr) => ((List.range 16).filter (u.bankActive c.val x)).length
    let room := fun (x : Arr) => (List.range 16).any (fun y => !s.bankActive c.val x y && s.usable c.val x y)
    let t := s.nTarget c.val i
    let adapts := s.con F.CA_CFG_ADAPT_EN c.val = true
    let still := (s.cist.swap.at (arrKey c.val .hs)).2 = 0 ∧ (s.cist.swap.at (arrKey c.val .ls)).2 = 0
    let stays := fun (u : State) => (∀ j, (u.cist.segs.at j).health.retired = (s.cist.segs.at j).health.retired)
      ∧ (∀ j, j / 4096 ≠ c.val → u.cist.segs.at j = s.cist.segs.at j) ∧ u.stages = s.stages ∧ u.act = s.act ∧ u.stag = s.stag
    let array := fun (u : State) => stays u ∧ Only (F.CA_STAT_ACTIVE.key c.val :: F.CA_STAT_PROBING.key c.val :: F.CA_STAT_FROZEN.key c.val :: F.CA_STAT_ROTATING.key c.val
      :: (List.range 32).map (fun b => F.CA_WEAR_WEAR.key (c.val * 32 + b))) { s with cist := u.cist } u
    (adapts → s.flag F.CA_STAT_FROZEN c.val = true → Does (.adaptStep c i) s fun u => u.cist.active = s.cist.active ∧ u.cist.segs = s.cist.segs ∧ array u)
    ∧ (¬adapts → Does (.adaptStep c i) s fun u => (∀ x b, b < 16 → s.usable c.val x b = true → u.bankActive c.val x b = true) ∧ array u)
    ∧ (adapts → still → s.flag F.CA_STAT_FROZEN c.val = false → count s .hs = n → count s .ls = n →
        (n < t → room .hs = true → room .ls = true → Does (.adaptStep c i) s fun u =>
          count u .hs = n + 1 ∧ count u .ls = n + 1 ∧ u.rd F.CA_STAT_ACTIVE c.val = n ∧ array u)
        ∧ (t + 2 ≤ n → Does (.adaptStep c i) s fun u => count u .hs = n - 1 ∧ count u .ls = n - 1 ∧ u.rd F.CA_STAT_ACTIVE c.val = n - 2 ∧ array u)
        ∧ (t = n ∨ t + 1 = n → Does (.adaptStep c i) s fun u => u.cist.active = s.cist.active ∧ u.cist.segs = s.cist.segs ∧ array u))
    ∧ (∀ (b : Nat), b < 16 → Does (.adaptStep c i) s fun u => s.wear c.val a b ≤ u.wear c.val a b
        ∧ (s.bankActive c.val a b = false → u.wear c.val a b = s.wear c.val a b))
    ∧ (Does (.loadStepDetected c) s fun u => u.rd F.CA_STAT_FROZEN c.val = 1 ∧ u.rd F.CA_STAT_PROBING c.val = 0 ∧ u.cist.probing.at (arrKey c.val a) = 0
        ∧ u.cist.active = s.cist.active
        ∧ (∀ p, s.cist.probing.at (arrKey c.val a) = p + 1 → p < 2048 → (s.seg c.val a p).health = .probing →
            (u.seg c.val a p).health = if (s.seg c.val a p).wasResting then .resting else .good)
        ∧ Only [F.CA_STAT_FROZEN.key c.val, F.CA_STAT_PROBING.key c.val] { s with cist := u.cist } u)
    ∧ (Does (.freezeEnd c) s fun u => u.rd F.CA_STAT_FROZEN c.val = 0 ∧ Only [F.CA_STAT_FROZEN.key c.val] s u)
    ∧ (Does .wearSave s fun u => u.logb.pend.any (fun x => x.1 == 96 + c.val) = true ∧ Only [] { s with logb := u.logb } u)
    ∧ (s.rd F.CA_SEL_CH m.idx = c.val → s.flag F.CA_STAT_LOST c.val = false → s.follower (c.val + 1) = false →
        (s.rotateErr c.val = 0 → Does (.caRotate m 4) s fun u => u.out.err = some 0 ∧ (u.actives c.val a).length = (s.actives c.val a).length
          ∧ ((u.cist.swap.at (arrKey c.val a)).2 = 0 → (s.cist.swap.at (arrKey c.val a)).2 = 0 →
              u.cist.active.at (arrKey c.val a) = s.cist.active.at (arrKey c.val a))
          ∧ (still → s.cist.rotEnd.at c.val = 0 →
              (∀ o ∈ s.actives c.val a, ∀ j ∈ s.spares c.val a, s.wear c.val a j < s.wear c.val a o →
                let x := u.cist.swap.at (arrKey c.val a)
                x.2 ≠ 0 ∧ x.2 - 1 ∈ s.actives c.val a ∧ s.wear c.val a o ≤ s.wear c.val a (x.2 - 1)
                ∧ x.1 ≠ 0 ∧ x.1 - 1 ∈ s.spares c.val a ∧ s.wear c.val a (x.1 - 1) ≤ s.wear c.val a j
                ∧ u.bankActive c.val a (x.1 - 1) = true ∧ u.bankActive c.val a (x.2 - 1) = true ∧ count u a = count s a + 1
                ∧ u.rd F.CA_STAT_ROTATING c.val = 1 ∧ u.cist.rotEnd.at c.val = s.now + ceilDiv (s.chanPeriod (c.val + 1)) 6400)
              ∧ ((∀ o ∈ s.actives c.val a, ∀ j ∈ s.spares c.val a, s.wear c.val a o ≤ s.wear c.val a j) →
                u.cist.swap.at (arrKey c.val a) = s.cist.swap.at (arrKey c.val a) ∧ u.cist.active.at (arrKey c.val a) = s.cist.active.at (arrKey c.val a)))
          ∧ u.rd F.CA_STAT_PROBING c.val = 0
          ∧ (∀ b ∈ u.actives c.val a, u.bankCount c.val a b (fun x => x.health == .resting) ≤ s.cf F.CA_CFG_REST c.val)
          ∧ array u)
        ∧ ((s.flag F.CA_STAT_FROZEN c.val = true ∨ s.flag F.CA_STAT_FLUSHING c.val = true ∨ s.rd F.B_STAT_STATE c.val = 8) →
            Does (.caRotate m 4) s fun u => Refuses m 4 0x123C s u)
        ∧ (s.flag F.CA_STAT_FROZEN c.val = false → s.flag F.CA_STAT_FLUSHING c.val = false →
            (s.rd F.B_STAT_STATE c.val = 0 ∨ s.rd F.B_STAT_STATE c.val = 4 ∨ s.rd F.B_STAT_STATE c.val = 6) →
            Does (.caRotate m 4) s fun u => Refuses m 5 0x123C s u))

/-- From R151 to R156, R161: shorts; on a channel that does not switch only a high-side one shows. An external one is counted and costs no
segment; an unconfirmed one resumes; a confirmed one starts a flush, which retires what its scan finds open and ends in success, in a
second flush, or in LOST, as does one too many within a second; regulation resumes from the present output voltage. It rests on readings
of the model, not of the spec alone, where log 36 says so. -/
def Obligations.ShortsFlush : Prop :=
  ∀ (s : State) (c : Chan) (x : FlushScan), s.on = true →
    let r := c.val + 1
    let quiet := s.flag F.CA_STAT_LOST c.val = false ∧ s.flag F.CA_STAT_FLUSHING c.val = false
    let sees := fun (k : ShortKind) => k = .hsShort ∨ s.chanSwitches c.val = true
    let fresh := x.opened.any (fun y => (s.seg c.val y.1 y.2).health != .retiredLink)
    let within := fun (u : State) => (∀ (y : Nat) (b : Fin 16), s.cist.rotEnd.at c.val = 0 →
        bitOf (s.cist.active.at y) b.val = true → bitOf (u.cist.active.at y) b.val = true) ∧ u.act = s.act ∧ u.stag = s.stag ∧ u.tb = s.tb ∧ u.sched = s.sched
      ∧ (u.on = true → u.feeds = s.feeds) ∧ u.well = s.well
    let resumes := fun (u : State) => (∀ y : Fin 24, y.val ≠ r → y.val ≠ s.leadRail r → u.stages.at y.val = s.stages.at y.val)
      ∧ (s.paired c.val = false → u.chanSwitches c.val = true → (u.stages.at r).loop.ref = s.volts r * 1000)
    let lost := fun (u : State) => u.rd F.CA_STAT_LOST c.val = 1 ∧ u.rd F.CA_STAT_FLUSHING c.val = 0 ∧ u.stg r = 0xA ∧ u.rd F.FB_STAT_LAST 7 = 0xA
    let recent := ((s.cist.shorts.at c.val).filter (fun t => decide (s.now ≤ t + 1000000))).length
    let counted := fun (u : State) => u.rd F.SEQ_CNT2_FLUSH (s.leadRail r) = min 255 (s.rd F.SEQ_CNT2_FLUSH (s.leadRail r) + 1)
    let scanned := fun (u : State) => ∀ y ∈ x.opened, y.2 < segsOf y.1 → (u.seg c.val y.1 y.2).health = .retiredLink
      ∧ ((s.seg c.val y.1 y.2).health ≠ .retiredLink → (u.seg c.val y.1 y.2).cause = 4)
    (quiet → s.chanSwitches c.val = true → ∀ d b v, Does (.shortTrigger c .external d b v) s fun u =>
        u.rd F.CA_EVT_EXT_SHORT c.val = min 255 (s.rd F.CA_EVT_EXT_SHORT c.val + 1) ∧ Told 7 9 s u ∧ Only [F.CA_EVT_EXT_SHORT.key c.val] s u)
    ∧ (∀ k : ShortKind, k ≠ .external →
        (¬sees k → ∀ d b v, Does (.shortTrigger c k d b v) s fun u => Only [] s u)
        ∧ (quiet → sees k → ∀ b v, Does (.shortTrigger c k false b v) s fun u => u.rd F.CA_EVT_UNCONF c.val = min 255 (s.rd F.CA_EVT_UNCONF c.val + 1)
          ∧ Told 7 8 s u ∧ u.rd F.CA_STAT_PROBING c.val = 0 ∧ within u ∧ resumes u ∧ u.stg r = s.stg r
          ∧ Only [F.CA_EVT_UNCONF.key c.val, F.CA_STAT_PROBING.key c.val, F.CA_STAT_ROTATING.key c.val] { s with cist := u.cist, stages := u.stages } u)
        ∧ (quiet → sees k → recent < s.cf F.CA_GCFG_FLUSH_MAX 0 →
            Does (.shortTrigger c k true false true) s fun u => u.rd F.CA_STAT_FLUSHING c.val = 1 ∧ within u
              ∧ u.cist.suspect.at c.val = (if k = .hsShort then 1 else 2)
              ∧ (switching (s.stg r) = true → u.stg r = 7 ∧ (u.stages.at r).ret = s.stg r) ∧ (switching (s.stg r) = false → u.stg r = s.stg r)
              ∧ Only [F.CA_STAT_FLUSHING.key c.val, F.CA_STAT_PROBING.key c.val, F.CA_STAT_ROTATING.key c.val, F.B_STAT_STATE.key c.val, F.B_STAT_IN_LIMIT.key c.val]
                  { s with cist := u.cist, stages := u.stages } u)
        ∧ (quiet → sees k → s.paired c.val = false → ∀ (b v : Bool), (b = true ∨ v = false ∨ s.cf F.CA_GCFG_FLUSH_MAX 0 ≤ recent) →
            Does (.shortTrigger c k true b v) s lost)
        ∧ (¬quiet → ∀ d b v, Does (.shortTrigger c k d b v) s fun u => Only [] s u))
    ∧ (s.flag F.CA_STAT_FLUSHING c.val = true → (s.stages.at r).flushCool = false →
        (fresh = true → x.stuck = false → (s.stages.at r).mismatchPend = false → Does (.flushEnd c x) s fun u => u.rd F.CA_STAT_FLUSHING c.val = 0
          ∧ u.rd F.CA_EVT_FLUSH_OK c.val = min 255 (s.rd F.CA_EVT_FLUSH_OK c.val + 1) ∧ u.rd F.FB_STAT_LAST 7 = 1 ∧ counted u ∧ scanned u
          ∧ (s.stg r = 7 → (s.stages.at r).ret < 16 → u.stg r = (s.stages.at r).ret) ∧ (s.stg r ≠ 7 → u.stg r = s.stg r) ∧ within u ∧ resumes u)
        ∧ (fresh = false ∨ x.stuck = true → Does (.flushEnd c x) s fun u => u.rd F.CA_STAT_FLUSHING c.val = 1 ∧ (u.stages.at r).flushCool = true
          ∧ u.rd F.CA_EVT_FLUSH_FAIL c.val = min 255 (s.rd F.CA_EVT_FLUSH_FAIL c.val + 1) ∧ counted u ∧ scanned u ∧ u.stg r = s.stg r ∧ within u))
    ∧ (s.flag F.CA_STAT_FLUSHING c.val = true → (s.stages.at r).flushCool = true →
        (fresh = true → x.stuck = false → (s.stages.at r).mismatchPend = false → Does (.secondFlush c x) s fun u => u.rd F.CA_STAT_FLUSHING c.val = 0
          ∧ u.rd F.FB_STAT_LAST 7 = 1 ∧ counted u ∧ scanned u ∧ (s.stg r = 7 → (s.stages.at r).ret < 16 → u.stg r = (s.stages.at r).ret) ∧ within u ∧ resumes u)
        ∧ ((fresh = false ∨ x.stuck = true) → s.paired c.val = false → Does (.secondFlush c x) s fun u => lost u
          ∧ u.rd F.CA_EVT_FLUSH_FAIL c.val = min 255 (s.rd F.CA_EVT_FLUSH_FAIL c.val + 1) ∧ counted u ∧ scanned u))
    ∧ (s.flag F.CA_STAT_FLUSHING c.val = false → (Does (.flushEnd c x) s fun u => Only [] s u) ∧ (Does (.secondFlush c x) s fun u => Only [] s u))

/-- From R175 to R181, R203, R212: the stages of the rails. A ramp ends in REGULATING, a stalled one turns the stage off; over-current of a
channel, the pump or an LDO waits in HICCUP_WAIT while hiccups are left and is a running fault otherwise; a hiccup's end starts softly,
and the last one is a running fault, or in PRIMING a start failure by over-current; an over-voltage sinks; a drain ends OFF. What the
sequencer makes of a fault is its own statement. From R182, R183, R188, R189, R190, R195: remote sense, temperature and telemetry of a
channel. It rests on readings of the model, not of the spec alone, where log 3, 36 and 41 say so. -/
def Obligations.StagesRun : Prop :=
  (∀ (s : State) (r : Rail), s.on = true →
     let i := r.val
     let n := (s.stages.at i).hiccups
     let step := s.stepOf (s.leadRail i)
     let quiet := step ≠ 2 ∧ step ≠ 3 ∧ step ≠ 8 ∧ step ≠ 9
     let stage := (stageFld i).1.key (stageFld i).2
     let blank := F.WM_MSTAT_BLANK.key i
     let lead := s.leadRail i
     let limit := (limitFld i).1.key (limitFld i).2
     let fixed := fun (u : State) => u.act = s.act ∧ u.stag = s.stag ∧ u.tb = s.tb ∧ u.sched = s.sched ∧ (u.on = true → u.feeds = s.feeds) ∧ u.met = s.met
     let ocKeys := if i = 0 then [F.HDR_EVT_OC.key 0] else if i ≤ 12 then [F.B_EVT_OC.key (i - 1), F.CA_STAT_PROBING.key (i - 1)]
       else if i ≤ 14 then [F.X_EVT_OC.key (i - 13)] else []
     let counted := fun (u : State) =>
       if i = 0 then u.rd F.HDR_EVT_OC 0 = min 255 (s.rd F.HDR_EVT_OC 0 + 1)
       else if i ≤ 12 then u.rd F.B_EVT_OC (i - 1) = min 255 (s.rd F.B_EVT_OC (i - 1) + 1) ∧ Told 6 8 s u
       else if i ≤ 14 then u.rd F.X_EVT_OC (i - 13) = min 255 (s.rd F.X_EVT_OC (i - 13) + 1) ∧ (s.seq.shedPend = false → Told 5 0xE s u)
       else s.seq.shedPend = false → Told 5 4 s u
     let faults := fun (cause last : Nat) (u : State) =>
       (s.stepOf lead = 3 → u.rd F.SQ_RSTAT_RUN_FAULT lead = 1 ∧ u.rd F.SQ_RSTAT_CAUSE lead = last ∧ (s.safe = false → u.stepOf lead = 7))
       ∧ (s.stepOf lead = 2 → u.rd F.SQ_RSTAT_START_FAILED lead = 1 ∧ u.rd F.SQ_RSTAT_CAUSE lead = cause)
     let acts := (s.stg i = 2 ∨ s.stg i = 3 ∨ (15 ≤ i ∧ s.stg i = 1)) ∧ i ≤ 20 ∧ s.follower i = false ∧ (i = 0 → s.wellGives = false)
     ((s.stg i = 1 ∨ s.stg i = 3) → bitOf s.seq.joinAfterRamp i = false → Does (.rampComplete r) s fun u => u.stg i = 2
         ∧ Only [stage, blank] { s with stages := u.stages } u)
     ∧ (s.stg i ≠ 1 → s.stg i ≠ 3 → Does (.rampComplete r) s fun u => Only [] s u)
     ∧ (s.stg i = 1 → Does (.rampStall r) s fun u => u.stg i = 0 ∧ fixed u
         ∧ (i = 0 → u.rd F.HDR_EVT_STALLS 0 = min 255 (s.rd F.HDR_EVT_STALLS 0 + 1))
         ∧ (1 ≤ i → i ≤ 12 → u.rd F.B_EVT_STALLS (i - 1) = min 255 (s.rd F.B_EVT_STALLS (i - 1) + 1) ∧ Told 6 9 s u)
         ∧ (13 ≤ i → i ≤ 14 → u.rd F.X_EVT_STALLS (i - 13) = min 255 (s.rd F.X_EVT_STALLS (i - 13) + 1)))
     ∧ (s.stg i ≠ 1 → Does (.rampStall r) s fun u => Only [] s u)
     ∧ (∀ (steady : Bool), acts →
         ((s.hiccupCf i).1 = true → (if steady then 0 else n) < (s.hiccupCf i).2 → Does (.overCurrent r steady) s fun u => u.stg i = 4
           ∧ counted u ∧ u.rd (limitFld i).1 (limitFld i).2 = 0
           ∧ Only (stage :: limit :: blank :: ocKeys) { s with stages := u.stages, cist := u.cist } u)
         ∧ ((s.hiccupCf i).1 = false ∨ (s.hiccupCf i).2 ≤ (if steady then 0 else n) → Does (.overCurrent r steady) s fun u => counted u ∧ fixed u ∧ faults 5 5 u
           ∧ (quiet → u.stg i = s.stg i ∧ u.rd (limitFld i).1 (limitFld i).2 = 1 ∧ Only (limit :: ocKeys) { s with stages := u.stages } u)))
     ∧ (∀ (steady : Bool), i ≤ 20 → s.follower i = false → (i = 0 → s.wellGives = false) → s.stg i = 5 → Does (.overCurrent r steady) s fun u => counted u ∧ fixed u)
     ∧ (∀ (steady : Bool), (21 ≤ i ∨ (i < 15 ∧ s.stg lead = 1)) → Does (.overCurrent r steady) s fun u => Only [] s u)
     ∧ (∀ (steady : Bool), (s.stg lead = 0 ∨ 4 ≤ s.stg lead) → s.stg lead ≠ 5 → Does (.overCurrent r steady) s fun u => Only [] s u)
     ∧ (∀ (steady : Bool), i = 0 → s.wellGives = true → Does (.overCurrent r steady) s fun u => Only [] s u)
     ∧ (s.stg i = 4 → 1 ≤ i → i ≤ 14 →
         Does (.hiccupEnd r) s fun u => u.rd F.SEQ_CNT2_HICCUP (s.leadRail i) = min 255 (s.rd F.SEQ_CNT2_HICCUP (s.leadRail i) + 1) ∧ fixed u
           ∧ ((s.hiccupCf i).2 ≤ n + 1 → s.follower i = false → faults 5 9 u)
           ∧ (n + 1 < (s.hiccupCf i).2 ∨ quiet → u.stg i = 1 ∧ (u.stages.at i).hiccups = n + 1
               ∧ Only [stage, blank, F.SEQ_CNT2_HICCUP.key (s.leadRail i)] { s with stages := u.stages, logb := u.logb } u)
           ∧ (if i ≤ 12 then Told 6 0xA s u else s.seq.shedPend = false → Told 5 0x10 s u))
     ∧ (s.stg i ≠ 4 → Does (.hiccupEnd r) s fun u => Only [] s u)
     ∧ (∀ mv, switching (s.stg i) = true → 1 ≤ i → i ≤ 12 → Does (.outputOverVoltage r mv) s fun u => Told 6 7 s u ∧ fixed u
           ∧ (quiet → (u.stages.at i).ovSink = true ∧ u.stg i = s.stg i ∧ Only [] { s with stages := u.stages } u))
     ∧ (∀ mv, switching (s.stg i) = false → Does (.outputOverVoltage r mv) s fun u => Only [] s u)
     ∧ (s.stg i = 5 → Does (.channelDrainEnd r) s fun u => u.stg i = 0 ∧ (u.stages.at i).discharge = s.con F.SQ_DRAIN_ACT_DIS i
         ∧ Only [stage, limit, blank, F.CA_STAT_PROBING.key (i - 1), F.HDR_STAT_OVERLOAD.key 0]
             { s with stages := u.stages, cist := u.cist, overload := u.overload } u)
     ∧ (s.stg i ≠ 5 → Does (.channelDrainEnd r) s fun u => Only [] s u))
  ∧ (∀ (s : State) (m : Master) (c : Chan), s.on = true →
       let i := c.val
       let r := i + 1
       (s.cf F.B_CFG_SNS_LOCAL i = 0 → s.rd F.B_STAT_SNS_LOST i = 0 → Does (.senseLoss c) s fun u => u.rd F.B_STAT_SNS_LOST i = 1
           ∧ u.rd F.B_EVT_SNS_LOSS i = min 255 (s.rd F.B_EVT_SNS_LOSS i + 1) ∧ Told 6 3 s u
           ∧ Only [F.B_STAT_SNS_LOST.key i, F.B_EVT_SNS_LOSS.key i] s u)
       ∧ ((s.cf F.B_CFG_SNS_LOCAL i = 1 ∨ s.rd F.B_STAT_SNS_LOST i = 1) → Does (.senseLoss c) s fun u => Only [] s u)
       ∧ (s.rd F.B_STAT_SNS_LOST i = 1 → s.cf F.B_CFG_SNS_LOCAL i = 0 → Does (.snsRetry m c) s fun u => u.out.err = some 0
           ∧ (u.stages.at r).snsRetry = true ∧ Only [] { s with stages := u.stages } u)
       ∧ ((s.rd F.B_STAT_SNS_LOST i = 0 ∨ s.cf F.B_CFG_SNS_LOCAL i = 1) → Does (.snsRetry m c) s fun u => Refuses m 5 (0xC38 + 0x80 * i) s u)
       ∧ ((s.stages.at r).snsRetry = true → ∀ good, Does (.snsRetryDone c good) s fun u => (u.stages.at r).snsRetry = false
           ∧ u.rd F.B_STAT_SNS_LOST i = (if good then 0 else s.rd F.B_STAT_SNS_LOST i)
           ∧ Only [F.B_STAT_SNS_LOST.key i] { s with stages := u.stages } u)
       ∧ (s.follower r = false → ∀ t : Int,
           (t ≤ s.cf F.B_TEMP_T_WARN i * 8 → t < s.cf F.B_TEMP_T_SHUT i * 8 → Does (.channelOverTemp c t) s fun u => u.rd F.B_STAT_T_WARN i = 0
             ∧ (u.stages.at r).hot = decide ((s.cf F.B_TEMP_T_SHUT i * 8 : Int) - 120 ≤ t)
             ∧ Only [F.B_STAT_T_WARN.key i] { s with stages := u.stages } u)
           ∧ (s.cf F.B_TEMP_T_WARN i * 8 < t → t < s.cf F.B_TEMP_T_SHUT i * 8 → Does (.channelOverTemp c t) s fun u => u.rd F.B_STAT_T_WARN i = 1
             ∧ (s.rd F.B_STAT_T_WARN i = 0 → Told 6 4 s u) ∧ Only [F.B_STAT_T_WARN.key i] { s with stages := u.stages } u)
           ∧ (s.cf F.B_TEMP_T_SHUT i * 8 ≤ t → s.stg r ≠ 0 → s.stg r ≠ 6 → s.stg r ≠ 0xA → Does (.channelOverTemp c t) s fun u =>
               u.rd F.B_EVT_OT i = min 255 (s.rd F.B_EVT_OT i + 1) ∧ u.rd F.FB_STAT_LAST 6 = 6 ∧ u.act = s.act
               ∧ (s.stepOf r = 0 → u.stg r = 6)))
       ∧ (s.follower r = false → ∀ x : TelWindow, x.vAvg < 2 ^ 16 → x.pAvg < 2 ^ 16 → x.vMax < 2 ^ 16 → x.vMin < 2 ^ 16 →
           Does (.telemetryWindowEnd ⟨r, Nat.lt_of_lt_of_le (Nat.succ_lt_succ c.isLt) (by decide)⟩ x) s fun u =>
             u.rd F.B_TEL_VI_V_AVG i = x.vAvg ∧ u.rd F.B_TEL_VI_I_AVG i = toField 16 x.iAvg ∧ u.rd F.B_TEL_PT_P_AVG i = x.pAvg
             ∧ u.rd F.B_TEL_PT_T i = toField 16 x.temp ∧ u.rd F.B_PK_V_V_MAX i = max (s.rd F.B_PK_V_V_MAX i) x.vMax
             ∧ u.rd F.B_PK_V_V_MIN i = min (s.rd F.B_PK_V_V_MIN i) x.vMin
             ∧ (s.cf F.B_TEL_REC_DIV i = 0 ∨ (s.stages.at r).telWins + 1 < s.cf F.B_TEL_REC_DIV i →
                 (u.stages.at r).telWins = (s.stages.at r).telWins + 1 ∧ u.ring = s.ring
                 ∧ Only ([F.B_TEL_VI_V_AVG, F.B_TEL_VI_I_AVG, F.B_TEL_PT_P_AVG, F.B_TEL_PT_T, F.B_PK_V_V_MAX, F.B_PK_V_V_MIN, F.B_PK_IT_I_MAX,
                     F.B_PK_IT_T_MAX, F.B_STAT_IN_LIMIT].map (fun f => f.key i) ++ (List.range 8).map F.TW_I_OWN.key) { s with stages := u.stages } u)
             ∧ (s.cf F.B_TEL_REC_DIV i ≠ 0 → s.cf F.B_TEL_REC_DIV i ≤ (s.stages.at r).telWins + 1 → (u.stages.at r).telWins = 0)
             ∧ Outside (fun a => (0xC40 ≤ a && a < 0xC54) || (0x2060 ≤ a && a < 0x2080) || (0x2200 ≤ a && a < 0x2400)) s u
             ∧ u.act = s.act))

/-- From R184 to R186, R194, R195, R317: a lockstep mismatch is counted; the group's free spare takes over, the stage passing through
TAKEOVER and going on in its state, and without one the pair is held for its self-test, whose result resumes the unit in lockstep, in
SOLO, or loses it; a flush that waits runs first. It rests on readings of the model, not of the spec alone, where log 36 says so. -/
def Obligations.ControllersFail : Prop :=
  ∀ (s : State) (x : CtlUnit), s.on = true →
    let e := unitEvent x
    let flushing := match x with | .b c => s.flag F.CA_STAT_FLUSHING c | _ => false
    let counted := fun (u : State) => u.rd (mismatchFld x).1 (mismatchFld x).2 = min 255 (s.rd (mismatchFld x).1 (mismatchFld x).2 + 1)
    let group := (List.range 12).map F.B_STAT_SPARE_FREE.key
    let spare := (spareFld x).1.key (spareFld x).2
    let solo := (soloFld x).1.key (soloFld x).2
    let mismatch := (mismatchFld x).1.key (mismatchFld x).2
    let health := [F.B_CTLR_HEALTH.key (mismatchFld x).2, F.WELL_CTLR_HEALTH.key 0]
    let stage := match unitRail x with
      | some r => [(stageFld r).1.key (stageFld r).2, (limitFld r).1.key (limitFld r).2, F.WM_MSTAT_BLANK.key r]
      | none => [F.WELL_STAT_CONV.key 0, F.WELL_CSTAT_CHG.key 0, F.WELL_CSTAT_SUSP.key 0]
    (s.unitLost x = false → s.solo x = false → flushing = false →
      (s.onSpare x = false → s.claimed x = false → Does (.lockstepMismatch x) s fun u => u.onSpare x = true ∧ u.healthOf x = 1 ∧ counted u
        ∧ Told e.1 e.2.2.1 s u ∧ (∀ c : Chan, x = .b c → ∀ k : Chan, k.val / 6 = c.val / 6 → u.rd F.B_STAT_SPARE_FREE k.val = 0)
        ∧ (∀ k : Rail, if unitRail x = some k.val then
              u.stages.at k.val = ({ s.stages.at k.val with loop := (u.stages.at k.val).loop, ret := (u.stages.at k.val).ret, oldSet := (u.stages.at k.val).oldSet } : Stage)
            else u.stages.at k.val = s.stages.at k.val)
        ∧ (∀ r, unitRail x = some r → u.stg r = s.stg r ∧ (switching (s.stg r) = true → s.follower r = false →
            ((specAt (stageFld r).1.reg).toList.flatMap (fun q => q.flds)).all (fun f => decide (s.rd f (stageFld r).2 < 2 ^ f.width)) = true →
            ∃ y ∈ u.mids, y.1 = ((stageFld r).2, (stageFld r).1.reg) ∧ y.2 / 2 ^ (stageFld r).1.lo % 2 ^ (stageFld r).1.width = 8))
        ∧ (x = .well → u.rd F.WELL_STAT_CONV 0 = s.rd F.WELL_STAT_CONV 0)
        ∧ Only (spare :: mismatch :: health ++ group ++ stage) { s with logb := u.logb, health := u.health, stages := u.stages, well := u.well } u)
      ∧ (s.onSpare x = true ∨ s.claimed x = true → Does (.lockstepMismatch x) s fun u => u.inBist x = true ∧ counted u
        ∧ (∀ r, unitRail x = some r → switching (s.stg r) = true → u.stg r = 8 ∧ (u.stages.at r).ret = s.stg r)
        ∧ (x = .well → s.rd F.WELL_STAT_CONV 0 ≠ 0 → u.rd F.WELL_STAT_CONV 0 = 3)
        ∧ Only (mismatch :: health ++ stage) { s with logb := u.logb, health := u.health, stages := u.stages, well := u.well } u))
    ∧ ((s.unitLost x = true ∨ s.solo x = true) → Does (.lockstepMismatch x) s fun u => Only [] s u)
    ∧ (s.unitLost x = false → s.solo x = false → flushing = true → ∀ r, unitRail x = some r → Does (.lockstepMismatch x) s fun u =>
        (u.stages.at r).mismatchPend = true ∧ Only [] { s with stages := u.stages } u)
    ∧ (s.inBist x = true →
      (Does (.controllerBistDone x 2) s fun u => u.inBist x = false ∧ (s.onSpare x = false → u.healthOf x = 0)
        ∧ (∀ r, unitRail x = some r → s.stg r = 8 → u.stg r = if flushing then 7 else if (s.stages.at r).ret = 5 then 5 else 1)
        ∧ Only (health ++ stage) { s with health := u.health, stages := u.stages, well := u.well } u)
      ∧ (Does (.controllerBistDone x 1) s fun u => u.inBist x = false ∧ u.solo x = true ∧ Told e.1 e.2.2.2.1 s u
        ∧ (∀ r, unitRail x = some r → s.stg r = 8 → u.stg r = if flushing then 7 else if (s.stages.at r).ret = 5 then 5 else 1)
        ∧ Only (solo :: stage) { s with stages := u.stages, well := u.well } u)
      ∧ ((∀ c, x = .b c → s.paired c.val = false) → Does (.controllerBistDone x 0) s fun u => u.inBist x = false ∧ u.unitLost x = true
        ∧ u.act = s.act ∧ u.stag = s.stag))
    ∧ (s.inBist x = false → ∀ h, Does (.controllerBistDone x h) s fun u => Only [] s u)

/-- From R202, R203, R207, R208, R209: the phases of the main pump. A lost phase is isolated and the running limit follows; the last one
loses the pump; a retry is taken in REGULATING for causes 0x1 and 0x4 alone, and its result rejoins the phase or sets cause 0x6; a low
input holds the pump off and abandons retries. From R205, R213, R215, R220: overloads of the main pump, which switches while the well
can discharge, an LDO's pass device too warm, a load switch at its limit or in reverse. It rests on readings of the model, not of the
spec alone, where log 36 and 41 say so. -/
def Obligations.PumpAndLoads : Prop :=
  (∀ (s : State) (p : Fin 3) (cause : Fin 8), s.on = true → s.rd F.HDR_STAT_LIVE 0 < 8 →
     let live := s.rd F.HDR_STAT_LIVE 0
     let limit := fun (u : State) => u.rd F.HDR_STAT_ILIM_RUN 0 = min (u.nLive * 1250) (s.cf F.HDR_ILIM_ILIM 0)
     let pump := fun (u : State) => Outside (fun a => (0xA00 ≤ a && a < 0xC80) || (0x1800 ≤ a && a < 0x1A00) || (0x1C00 ≤ a && a < 0x1E00)) s u
       ∧ u.act = s.act ∧ u.stag = s.stag ∧ u.seq = s.seq ∧ u.tb = s.tb ∧ u.cist = s.cist
     (bitOf live p.val = true → Does (.phaseLoss p cause) s fun u => u.rd F.HDR_STAT_LIVE 0 = clrBit live p.val
         ∧ u.rd F.HDR_PH_CAUSE p.val = cause.val ∧ u.rd F.HDR_EVT_PH_LOSS 0 = min 255 (s.rd F.HDR_EVT_PH_LOSS 0 + 1)
         ∧ u.rd F.HDR_PH_MISMATCH p.val = (if cause.val = 1 then min 255 (s.rd F.HDR_PH_MISMATCH p.val + 1) else s.rd F.HDR_PH_MISMATCH p.val)
         ∧ (∀ q : Fin 3, q ≠ p → u.rd F.HDR_PH_CAUSE q.val = s.rd F.HDR_PH_CAUSE q.val)
         ∧ (clrBit live p.val ≠ 0 → Told 5 1 s u ∧ u.stg 0 = s.stg 0 ∧ u.stages = s.stages) ∧ (clrBit live p.val = 0 → u.stg 0 = 6 ∧ u.rd F.FB_STAT_LAST 5 = 0xA)
         ∧ limit u ∧ pump u)
     ∧ (bitOf live p.val = false → Does (.phaseLoss p cause) s fun u => Only [] s u)
     ∧ (∀ m : Master, let w : Word := BitVec.ofNat 32 (2 ^ p.val)
         (s.stg 0 = 2 → (s.rd F.HDR_PH_CAUSE p.val = 1 ∨ s.rd F.HDR_PH_CAUSE p.val = 4) → Does (.phRetry m w) s fun u => u.out.err = some 0
           ∧ bitOf u.phRetry p.val = true ∧ Only [] { s with phRetry := u.phRetry } u)
         ∧ (s.stg 0 ≠ 2 ∨ (s.rd F.HDR_PH_CAUSE p.val ≠ 1 ∧ s.rd F.HDR_PH_CAUSE p.val ≠ 4) →
             Does (.phRetry m w) s fun u => Refuses m 5 0xA18 s u)
         ∧ Does (.phRetry m 3) s fun u => Refuses m 1 0xA18 s u)
     ∧ (bitOf s.phRetry p.val = true →
         (Does (.phRetryDone p true) s fun u => u.rd F.HDR_PH_CAUSE p.val = 0 ∧ u.rd F.HDR_STAT_LIVE 0 = setBit live p.val ∧ Told 5 0xD s u
           ∧ bitOf u.phRetry p.val = false ∧ limit u ∧ pump u)
         ∧ (Does (.phRetryDone p false) s fun u => u.rd F.HDR_PH_CAUSE p.val = 6 ∧ bitOf u.phRetry p.val = false
           ∧ Only [F.HDR_PH_CAUSE.key p.val] { s with phRetry := u.phRetry } u))
     ∧ (bitOf s.phRetry p.val = false → ∀ b, Does (.phRetryDone p b) s fun u => Only [] s u)
     ∧ (Does .pumpInputLow s fun u => u.phRetry = 0 ∧ u.rd F.HDR_STAT_LIVE 0 = live
         ∧ ((s.stg 0 = 1 ∨ s.stg 0 = 2 ∨ s.stg 0 = 3) → u.stg 0 = 4 ∧ u.rd F.HDR_STAT_OVERLOAD 0 = 0 ∧ u.overload = 0 ∧ (s.rd F.WELL_STAT_HO 0 = 5 → u.rd F.WELL_STAT_HO 0 ≠ 5))
         ∧ (¬(s.stg 0 = 1 ∨ s.stg 0 = 2 ∨ s.stg 0 = 3) → u.stg 0 = s.stg 0 ∧ u.stages = s.stages)
         ∧ Only [F.HDR_STAT_OVERLOAD.key 0, F.HDR_STAT_STATE.key 0, F.HDR_STAT_IN_LIMIT.key 0, F.WELL_STAT_HO.key 0,
             F.WM_MSTAT_BLANK.key 0] { s with phRetry := 0, overload := u.overload, stages := u.stages } u))
  ∧ (∀ (s : State) (k : Fin 6) (j : Fin 3), s.on = true →
       let quiet := fun (r : Nat) => s.stepOf (s.leadRail r) ≠ 2 ∧ s.stepOf (s.leadRail r) ≠ 3 ∧ s.stepOf (s.leadRail r) ≠ 8 ∧ s.stepOf (s.leadRail r) ≠ 9
       let l := 15 + k.val
       let w := 21 + j.val
       (s.overloadable = false ∨ s.overload ≠ 0 → Does .overloadShed s fun u => Only [] s u)
       ∧ (s.overloadable = true → s.overload = 0 → s.cf F.HDR_CFG_SHED_EN 0 = 0 → Does .overloadShed s fun u => u.rd F.HDR_STAT_OVERLOAD 0 = 1
           ∧ u.overload = 3 ∧ Told 5 9 s u ∧ Only [F.HDR_STAT_OVERLOAD.key 0] { s with overload := 3 } u)
       ∧ (s.overloadable = true → s.overload = 0 → s.cf F.HDR_CFG_SHED_EN 0 = 1 → s.safe = false → s.draining = true → Does .overloadShed s fun u =>
           u.rd F.HDR_STAT_OVERLOAD 0 = 1 ∧ u.overload = 1 ∧ Only [F.HDR_STAT_OVERLOAD.key 0] { s with overload := 1, seq := { s.seq with shedPend := true } } u)
       ∧ (s.overloadable = true → s.overload = 0 → s.cf F.HDR_CFG_SHED_EN 0 = 1 → s.safe = false → s.draining = false → Does .overloadShed s fun u =>
           u.overload = (if switching (u.stg 0) then 2 else 0) ∧ u.rd F.FB_STAT_LAST 5 = 3 ∧ (s.seq.shedPend = false → u.rd F.HDR_EVT_SHEDS 0 = min 255 (s.rd F.HDR_EVT_SHEDS 0 + 1)) ∧ u.act = s.act ∧ u.stag = s.stag
           ∧ (∀ r : Rail, bitOf (s.holdSet) r.val = false → s.stepOf r.val = 3 → drainingStep (u.stepOf r.val) = true)
           ∧ (∀ r : Rail, bitOf (s.holdSet) r.val = true → s.stepOf r.val = 3 → u.stepOf r.val = 3))
       ∧ (s.overloadable = true → s.overload = 0 → s.cf F.HDR_CFG_SHED_EN 0 = 1 → s.safe = true → Does .overloadShed s fun u =>
           u.overload = 1 ∧ Only [F.HDR_STAT_OVERLOAD.key 0] { s with overload := 1 } u)
       ∧ (s.overload = 2 → Does .persistOverload s fun u => u.overload = 3 ∧ Told 5 9 s u ∧ Only [] { s with overload := 3 } u)
       ∧ (s.overload ≠ 2 → Does .persistOverload s fun u => Only [] s u)
       ∧ (Does (.ldoThermalShutdown k false) s fun u => (u.stages.at l).hot = false ∧ Only [] { s with stages := u.stages } u)
       ∧ ((s.stg l = 0 ∨ s.stg l = 6) → Does (.ldoThermalShutdown k true) s fun u => (u.stages.at l).hot = true ∧ Only [] { s with stages := u.stages } u)
       ∧ (s.stg l ≠ 0 → s.stg l ≠ 6 → Does (.ldoThermalShutdown k true) s fun u => (u.stages.at l).hot = true ∧ (s.seq.shedPend = false → u.rd F.FB_STAT_LAST 5 = 5)
           ∧ u.act = s.act ∧ (quiet l → u.stg l = 6 ∧ Told 5 5 s u
             ∧ Only [F.L_STAT_STATE.key k.val, F.L_STAT_IN_LIMIT.key k.val, F.WM_MSTAT_BLANK.key l] { s with stages := u.stages } u))
       ∧ (s.stg w = 2 → Does (.switchLimitExpiry j) s fun u => u.rd F.S_EVT_OC j.val = min 255 (s.rd F.S_EVT_OC j.val + 1)
           ∧ (s.seq.shedPend = false → u.rd F.FB_STAT_LAST 5 = 6) ∧ u.act = s.act ∧ (quiet w → u.stg w = 7 ∧ Told 5 6 s u
             ∧ Only [F.S_STAT_STATE.key j.val, F.S_STAT_IN_LIMIT.key j.val, F.S_EVT_OC.key j.val, F.WM_MSTAT_BLANK.key w] { s with stages := u.stages } u))
       ∧ (s.stg w ≠ 2 → Does (.switchLimitExpiry j) s fun u => Only [] s u)
       ∧ (s.rd F.S_STAT_REV_BLOCK j.val = 0 → Does (.switchReverseBlock j true) s fun u => u.rd F.S_STAT_REV_BLOCK j.val = 1
           ∧ u.rd F.S_EVT_REV j.val = min 255 (s.rd F.S_EVT_REV j.val + 1) ∧ Told 5 0xC s u ∧ u.stg w = s.stg w
           ∧ Only [F.S_STAT_REV_BLOCK.key j.val, F.S_EVT_REV.key j.val] s u)
       ∧ (Does (.switchReverseBlock j false) s fun u => u.rd F.S_STAT_REV_BLOCK j.val = 0 ∧ Only [F.S_STAT_REV_BLOCK.key j.val] s u))

/-- From R203, R224, R226, R228, R232, R233, R234, R247: priming steps. One starts once its dependencies are GOOD and its group's turn has
come; it becomes GOOD, or fails to start, is retried, and at last fails with its dependants or latches the sequencer. It rests on
readings of the model, not of the spec alone, where log 29 says so. -/
def Obligations.RailsPrime : Prop :=
  ∀ (s : State) (r : Rail), s.on = true →
    let i := r.val
    let ready := s.stepOf i = 1 ∧ bitOf s.seq.primeScope i = true ∧ mAnd (s.deps i) (0xFFFFFF - s.goodMask) = 0 ∧ s.orderLets i = true
    let idle := fun (v : Bool) => i = 0 ∧ (v = false ∨ s.power.st = .hold ∨ s.stg 0 = 4)
    let level := s.stg i = 2 ∨ (i = 0 ∧ (s.stg 0 = 0 ∨ s.stg 0 = 4 ∨ s.stg 0 = 6))
    let others := fun (u : State) => ∀ q : Rail, q ≠ r → u.stepOf q.val = s.stepOf q.val ∧ u.stg q.val = s.stg q.val
    let blocked := fun (u : State) => ∀ q : Rail, q ≠ r → u.stg q.val = s.stg q.val
      ∧ (u.stepOf q.val = s.stepOf q.val ∨ (s.stepOf q.val = 1 ∧ u.stepOf q.val = 6))
    let fixed := fun (u : State) => u.act = s.act ∧ u.stag = s.stag ∧ u.tb = s.tb ∧ (u.on = true → u.feeds = s.feeds) ∧ u.sched = s.sched
    let counted := fun (u : State) => u.rd F.SEQ_CNT0_START_FAIL (s.leadRail i) = min 65535 (s.rd F.SEQ_CNT0_START_FAIL (s.leadRail i) + 1)
    (ready → s.stgLost i = false → s.hot i = false → ∀ v d, Does (.primingStepStart r v d) s fun u => u.stepOf i = 2
        ∧ (idle v → u.stg i = s.stg i) ∧ (¬idle v → u.stg i = 1) ∧ u.rd F.SEQ_LAST_EVENT 0 = 1 ∧ u.rd F.SEQ_LAST_RAIL 0 = i
        ∧ (u.stages.at i).setpt = none ∧ bitOf (u.rd F.SEQ_PRIMED_MASK 0) i = true ∧ others u ∧ fixed u)
    ∧ (¬ready → ∀ v, Does (.primingStepStart r v false) s fun u => Only [] s u)
    ∧ (ready → ∀ v d, s.stgLost i = true ∨ s.hot i = true → Does (.primingStepStart r v d) s fun u =>
        u.rd F.SQ_RSTAT_CAUSE i = (if s.stgLost i then 4 else 3) ∧ u.rd F.SQ_RSTAT_START_FAILED i = 1 ∧ counted u ∧ fixed u)
    ∧ (s.stepOf i = 2 → s.rampOver i = true → bitOf s.seq.joinAfterRamp i = false → s.seq.shedPend = false → Does (.powerGood r) s fun u => u.stepOf i = 3
        ∧ u.rd F.SQ_RSTAT_BACKFEED i = 0 ∧ u.rd F.SQ_RSTAT_T_PG i = s.sinceStep i ∧ u.rd F.WM_MSTAT_PG i = 1 ∧ bitOf (u.rd F.SEQ_GOOD_MASK 0) i = true
        ∧ blocked u ∧ fixed u)
    ∧ ((s.stepOf i ≠ 2 ∨ s.rampOver i = false ∨ bitOf s.seq.joinAfterRamp i = true) → (s.stepOf i ≠ 3 ∨ ¬level) → Does (.powerGood r) s fun u =>
        Only [] s u)
    ∧ (s.stepOf i = 3 → level → Does (.powerGood r) s fun u => u.rd F.WM_MSTAT_PG i = 1 ∧ (u.stages.at i).oldSet = none
        ∧ Only [F.WM_MSTAT_PG.key i, F.WM_MSTAT_BLANK.key i] { s with stages := u.stages } u)
    ∧ (s.stepOf i ≠ 2 → Does (.pgDeadlinePassed r) s fun u => Only [] s u)
    ∧ (s.stepOf i = 2 → Does (.pgDeadlinePassed r) s fun u => u.rd F.SQ_RSTAT_CAUSE i = 1 ∧ u.rd F.SQ_RSTAT_START_FAILED i = 1 ∧ counted u ∧ fixed u
        ∧ (u.stages.at i).setpt = none
        ∧ (s.safe = false → bitOf s.seq.joinAfterRamp i = false → bitOf s.seq.finishRamp i = false →
            (s.seq.retries.at i < s.cf F.SQ_CFG_SF_RETRIES i → u.stepOf i = 4 ∧ u.seq.retries.at i = s.seq.retries.at i + 1 ∧ others u)
            ∧ (s.cf F.SQ_CFG_SF_RETRIES i ≤ s.seq.retries.at i → u.stepOf i = 5
              ∧ (s.cf F.SQ_CFG_STANDPIPE i = 0 → s.cf F.SQ_CFG_SF_POLICY i = 0 →
                  (u.seq.latchAfter = some i ∨ (u.rd F.SEQ_STAT_LATCHED 0 = 1 ∧ u.rd F.SEQ_STAT_LATCH_RAIL 0 = i))
                  ∧ ∀ q : Rail, s.stepOf q.val = 3 → u.stepOf q.val = 7)
              ∧ (s.cf F.SQ_CFG_STANDPIPE i = 1 ∨ s.cf F.SQ_CFG_SF_POLICY i = 1 → s.seq.shedPend = false →
                  (∀ q : Rail, q ≠ r → s.stepOf q.val = 3 → u.stepOf q.val = if bitOf (s.withDependants (2 ^ i)) q.val then 7 else 3)
                  ∧ (∀ q : Rail, s.stepOf q.val = 1 → bitOf s.seq.primeScope q.val = true → bitOf (s.deps q.val) i = true → u.stepOf q.val = 6))))
        ∧ (s.safe = true → u.stepOf i = 5))
    ∧ (s.stepOf i = 4 → s.stgLost i = false → s.hot i = false → ∀ v d, Does (.startRetry r v d) s fun u => u.stepOf i = 2
        ∧ (idle v → u.stg i = s.stg i) ∧ (¬idle v → u.stg i = 1) ∧ Told 8 7 s u ∧ u.rd F.SEQ_LAST_EVENT 0 = 6 ∧ others u ∧ fixed u)
    ∧ (s.stepOf i ≠ 4 → ∀ v, Does (.startRetry r v false) s fun u => Only [] s u)
    ∧ (s.power.primeDue = true → s.power.checking = false → s.op = 0 → s.flag F.SEQ_STAT_LATCHED 0 = false → s.power.st = .run →
        Does .autoPrimeStart s fun u => u.power.primeDue = false ∧ fixed u
          ∧ (bitOf s.autoMask i = true → s.stepOf i = 0 → s.deps i = 0 → u.stepOf i = 1)
          ∧ (s.stepOf i = 3 → s.seq.shedPend = false → u.stepOf i = 3) ∧ (bitOf s.autoMask i = false → s.seq.shedPend = false → u.stepOf i = s.stepOf i))
    ∧ (s.power.primeDue = false ∨ s.power.checking = true ∨ s.op ≠ 0 → Does .autoPrimeStart s fun u => Only [] s u)

/-- From R231, R235, R236, R237, R238, R295: a running fault of a GOOD rail is counted, asks for PFW_N and drains its scope; in SAFE it
turns the rail off; during a drain it ends the rail's step in FAULTED; in PRIMING it is a start failure, unless it is an under-voltage;
of a rail that is off it is nothing. From R229, R230, R234, R247, R248: the latch and the lanes of the sequencer. It rests on readings
of the model, not of the spec alone, where log 17 and 29 say so. -/
def Obligations.FaultsOfRails : Prop :=
  (∀ (s : State) (r : Rail) (cause : Byte), s.on = true → s.follower r.val = false →
     let i := r.val
     let fixed := fun (u : State) => u.act = s.act ∧ u.stag = s.stag ∧ u.tb = s.tb ∧ (u.on = true → u.feeds = s.feeds) ∧ u.sched = s.sched
     (s.stepOf i = 3 → Does (.runningFault r cause) s fun u => u.rd F.SQ_RSTAT_RUN_FAULT i = 1 ∧ u.rd F.SQ_RSTAT_CAUSE i = cause.toNat ∧ fixed u
         ∧ (cause = 5 → u.rd F.SEQ_CNT1_OC i = min 65535 (s.rd F.SEQ_CNT1_OC i + 1)) ∧ (cause = 6 → u.rd F.SEQ_CNT0_UV i = min 65535 (s.rd F.SEQ_CNT0_UV i + 1))
         ∧ (cause = 7 → u.rd F.SEQ_CNT1_OV i = min 65535 (s.rd F.SEQ_CNT1_OV i + 1))
         ∧ (s.safe = false → u.stepOf i = 7 ∧ Told 8 2 s u ∧ u.rd F.SEQ_STAT_PFW_REQ 0 = 1 ∧ u.rd F.PFW_STAT_SEQ 0 = 1 ∧ u.rd F.PFW_STAT_ASSERTED 0 = 1
             ∧ (s.op ≠ 0 ∨ u.op = 6) ∧ bitOf u.seq.lead i = true
             ∧ (∀ q : Rail, s.stepOf q.val = 3 → u.stepOf q.val = if bitOf (s.runScope i) q.val then 7 else 3)
             ∧ (∀ q : Rail, 5 ≤ s.stepOf q.val → u.stepOf q.val = s.stepOf q.val) ∧ u.stages = s.stages)
         ∧ (s.safe = true → u.stepOf i = 0xA ∧ (u.stages.at i).discharge = true
             ∧ (∀ q : Rail, q ≠ r → bitOf (s.withDependants (2 ^ i)) q.val = true → primedStep (s.stepOf q.val) = true → u.stepOf q.val = 0)))
     ∧ (s.stepOf i = 2 → cause ≠ 6 → Does (.runningFault r cause) s fun u => u.rd F.SQ_RSTAT_START_FAILED i = 1 ∧ u.rd F.SQ_RSTAT_CAUSE i = cause.toNat ∧ fixed u
         ∧ u.rd F.SEQ_CNT0_START_FAIL i = min 65535 (s.rd F.SEQ_CNT0_START_FAIL i + 1)
         ∧ (s.safe = false → s.seq.retries.at i < s.cf F.SQ_CFG_SF_RETRIES i → bitOf s.seq.joinAfterRamp i = false → bitOf s.seq.finishRamp i = false → u.stepOf i = 4))
     ∧ ((s.stepOf i = 8 ∨ s.stepOf i = 9) → Does (.runningFault r cause) s fun u => u.stepOf i = 0xA ∧ u.rd F.SQ_RSTAT_CAUSE i = cause.toNat
         ∧ u.rd F.FB_STAT_LAST 8 ≠ 2 ∧ (u.stages.at i).discharge = s.con F.SQ_DRAIN_ACT_DIS i ∧ fixed u
         ∧ (s.seq.shedPend = false → ∀ q : Rail, q ≠ r → u.stepOf q.val = s.stepOf q.val ∨ (s.stepOf q.val = 1 ∧ u.stepOf q.val = 6)))
     ∧ (s.stepOf i ≠ 2 ∨ cause = 6 → s.stepOf i ≠ 3 → s.stepOf i ≠ 8 → s.stepOf i ≠ 9 → Does (.runningFault r cause) s fun u => Only [] s u))
  ∧ (∀ (s : State) (m : Master) (lane : Fin 3), s.on = true →
       let k := lane.val
       let sync := if k = 0 then F.SEQ_LANE_SYNC0 else if k = 1 then F.SEQ_LANE_SYNC1 else F.SEQ_LANE_SYNC2
       let recent := (s.seq.laneTimes.at k).filter (fun t => decide (s.now ≤ t + 3600000000))
       let last := [F.SEQ_LAST_EVENT.key 0, F.SEQ_LAST_CAUSE.key 0, F.SEQ_LAST_RAIL.key 0]
       let retired := [F.UNIT_STAT_SEQ_LANE_OK.key 0, F.SEQ_LANE_RETIRED.key 0]
       (s.flag F.SEQ_STAT_LATCHED 0 = true → s.draining = false → Does (.seqUnlatch m 1) s fun u => u.out.err = some 0
           ∧ u.rd F.SEQ_STAT_LATCHED 0 = 0 ∧ u.rd F.SEQ_STAT_LATCH_RAIL 0 = 0xFF ∧ u.rd F.SEQ_LAST_EVENT 0 = 0xC
           ∧ Only (F.SEQ_STAT_LATCHED.key 0 :: F.SEQ_STAT_LATCH_RAIL.key 0 :: last) s { u with ring := s.ring } ∧ (∀ q : Rail, u.stepOf q.val = s.stepOf q.val))
       ∧ (s.flag F.SEQ_STAT_LATCHED 0 = false → Does (.seqUnlatch m 1) s fun u => Refuses m 5 0x1408 s u)
       ∧ (s.flag F.SEQ_STAT_LATCHED 0 = true → s.draining = true → Does (.seqUnlatch m 1) s fun u => Refuses m 4 0x1408 s u)
       ∧ (bitOf s.lanes k = false → ∀ p, Does (.laneDivergence lane p) s fun u => Only [] s u)
       ∧ (s.lanes ≠ 7 → bitOf s.lanes k = true → ∀ p, Does (.laneDivergence lane p) s fun u => Told 8 0xA s u ∧ u.lanes = s.lanes
           ∧ u.seq = { s.seq with lanesLost := true } ∧ Only [] { s with seq := u.seq } u)
       ∧ (s.lanes = 7 → recent.length < 2 → Does (.laneDivergence lane false) s fun u => u.rd sync 0 = min 255 (s.rd sync 0 + 1) ∧ u.lanes = 7
           ∧ Told 8 8 s u ∧ u.rd F.SEQ_LAST_EVENT 0 = 0xD ∧ Only (sync.key 0 :: last) { s with seq := u.seq } { u with ring := s.ring })
       ∧ (s.lanes = 7 → ∀ (p : Bool), (p = true ∨ 2 ≤ recent.length) → Does (.laneDivergence lane p) s fun u => u.lanes = clrBit 7 k
           ∧ bitOf (u.rd F.SEQ_LANE_RETIRED 0) k = true ∧ u.rd F.FB_STAT_LAST 8 = 8 ∧ u.rd F.SEQ_LAST_EVENT 0 = 0xE
           ∧ Only (sync.key 0 :: last ++ retired) { s with seq := u.seq } { u with ring := s.ring }))

/-- From R223, R227, R228, R231, R239, R242, R247: drain steps. One starts when its lead has passed and its dependants have ended, and ends
OFF, FAULTED where the rail had a running fault, or with BACKFEED; the chip reset that waits for a drain follows it. It rests on
readings of the model, not of the spec alone, where log 29 says so. -/
def Obligations.RailsDrain : Prop :=
  ∀ (s : State) (r : Rail), s.on = true →
    let i := r.val
    let st := s.stg i
    let ready := s.stepOf i = 7 ∧ bitOf s.seq.lead i = false ∧ s.drainLets i = true
    let others := fun (u : State) => s.seq.shedPend = false → ∀ q : Rail, q ≠ r → u.stg q.val = s.stg q.val
      ∧ (u.stepOf q.val = s.stepOf q.val ∨ (s.stepOf q.val = 1 ∧ u.stepOf q.val = 6))
    let fixed := fun (u : State) => u.act = s.act ∧ u.stag = s.stag ∧ u.tb = s.tb ∧ (u.on = true → u.feeds = s.feeds) ∧ u.sched = s.sched
    let ended := if s.flag F.SQ_RSTAT_RUN_FAULT i then 0xA else 0
    (ready → switching st = true → Does (.drainStepStart r) s fun u => u.stepOf i = 8 ∧ u.stg i = 5 ∧ u.rd F.SEQ_LAST_EVENT 0 = 3
        ∧ u.rd F.SEQ_LAST_RAIL 0 = i ∧ others u ∧ fixed u)
    ∧ (ready → i ≠ 0 → st = 0 → Does (.drainStepStart r) s fun u => u.stepOf i = ended ∧ u.stg i = 0 ∧ others u ∧ fixed u)
    ∧ (¬ready → Does (.drainStepStart r) s fun u => Only [] s u)
    ∧ (∀ m : BitVec 24, Does (.pfwLeadEnd m) s fun u => fixed u ∧ (bitOf m.toNat i = true → bitOf u.seq.lead i = false)
        ∧ (bitOf m.toNat i = false → s.seq.shedPend = false → bitOf u.seq.lead i = bitOf s.seq.lead i ∨ u.seq.lead = 0)
        ∧ (s.stepOf i = 7 → bitOf m.toNat i = true → s.cf F.SQ_CFG_DELAY_D i ≠ 0 → u.stepOf i = 7)
        ∧ (s.stepOf i = 7 → mAnd m.toNat (s.stepMask (· == 7)) = 2 ^ i → s.cf F.SQ_CFG_DELAY_D i = 0 → s.drainLets i = true → switching st = true →
            u.stepOf i = 8 ∧ u.stg i = 5)
        ∧ (s.stepOf i ≠ 7 → s.seq.shedPend = false → u.stg i = st ∧ (u.stepOf i = s.stepOf i ∨ (s.stepOf i = 1 ∧ u.stepOf i = 6))))
    ∧ (s.stepOf i = 8 → Does (.drainStepEnd r) s fun u => u.stepOf i = ended ∧ others u ∧ fixed u
        ∧ (i = 0 ∨ st ≠ 0 → (u.stages.at i).discharge = s.con F.SQ_DRAIN_ACT_DIS i) ∧ (s.stgLost i = false → st ≠ 9 → (i ≠ 0 ∨ st ≠ 4) → u.stg i = 0))
    ∧ (s.stepOf i = 9 → Does (.drainStepEnd r) s fun u => u.stepOf i = ended ∧ (u.stages.at i).discharge = false ∧ others u ∧ fixed u)
    ∧ (s.stepOf i ≠ 8 → s.stepOf i ≠ 9 → Does (.drainStepEnd r) s fun u => Only [] s u)
    ∧ (s.stepOf i = 8 → Does (.drainTimeout r) s fun u => u.stepOf i = 9 ∧ (u.stages.at i).discharge = true ∧ others u ∧ fixed u
        ∧ (s.stgLost i = false → st ≠ 9 → (i ≠ 0 ∨ st ≠ 4) → u.stg i = 0))
    ∧ (s.stepOf i ≠ 8 → Does (.drainTimeout r) s fun u => Only [] s u)
    ∧ (s.stepOf i = 9 → Does (.dischargeTimeout r) s fun u => u.stepOf i = ended ∧ u.rd F.SQ_RSTAT_BACKFEED i = 1 ∧ (u.stages.at i).discharge = false
        ∧ u.rd F.SEQ_CNT3_BACKFEED (s.leadRail i) = min 65535 (s.rd F.SEQ_CNT3_BACKFEED (s.leadRail i) + 1) ∧ others u ∧ fixed u)
    ∧ (s.stepOf i ≠ 9 → Does (.dischargeTimeout r) s fun u => (u.stages.at i).discharge = false ∧ Only [] { s with stages := u.stages } u)
    ∧ (∀ k, s.power.resetAfterDrain = some k → s.draining = false → s.safe = false → Does .resetDrainDone s fun u => u.power.inReset = true
        ∧ u.power.resetAfterDrain = none ∧ u.power.kind = k)
    ∧ ((s.power.resetAfterDrain = none ∨ s.draining = true ∨ s.safe = true) → Does .resetDrainDone s fun u => Only [] s u)

/-- From R251, R256, R258 to R260, R262, R271, R302: the window monitors. An output that goes out or comes back shows in WM_MSTAT and
OUT_WIN or OUT_RST and counts where its rail's step state lets it; while it is held after a level change nothing follows; a perturbation
delays it; an output back below its warning level ends the sink after an over-voltage. From R263, R264, R265, R302: the supply monitor,
which a perturbation delays as any other, and PFW_N. From R266 to R270: trips are counted, a run of them reports to its stage; the DAC
audit marks a DAC on its second bad reading and clears it on a passing one; a readback sets VALID. It rests on readings of the model,
not of the spec alone, where log 17 and 30 say so. -/
def Obligations.Supervision : Prop :=
  (∀ (s : State) (mon : Fin 32) (k : MonCmp) (mv : Int), s.on = true →
     let m := mon.val
     let held := s.flag F.WM_MSTAT_BLANK m || !s.cmpOn m k || (decide (m < 24) && s.follower m)
     let isRst := k = .rstLo ∨ k = .rstHi
     let win := s.flag F.WM_MSTAT_BELOW_WARN m || s.flag F.WM_MSTAT_ABOVE_WARN m
     let rst := s.flag F.WM_MSTAT_BELOW_RST m || s.flag F.WM_MSTAT_ABOVE_RST m
     let low := k = .rstLo ∨ k = .warnLo
     let late := s.monDelayed m
     let sunk := fun (u : State) => ∀ q : Rail, u.stages.at q.val = if q.val = m then ({ s.stages.at m with ovSink := (u.stages.at m).ovSink } : Stage) else s.stages.at q.val
     let outs := [F.WM_OUT_MASK.key 0, F.WM_RST_OUT_MASK.key 0, (cmpFld k).key m]
     (held = true → ∀ e, Does (.monitorCrossing mon k e mv) s fun u => Only [] s u)
     ∧ (held = false → late = true → ∀ e, e ≠ .qualified → Does (.monitorCrossing mon k e mv) s fun u => Only [] { s with wmon := u.wmon } u
         ∧ u.wmon = { s.wmon with late := s.wmon.late ++ [⟨s.now + ceilDiv (s.rd F.PT_WM_DLY_DELAY 0) 100, m, k, e, mv⟩] })
     ∧ (held = false → late = false → s.rd (cmpFld k) m = 0 → m ≠ 24 → Does (.monitorCrossing mon k .out mv) s fun u => u.rd (cmpFld k) m = 1
         ∧ (isRst → bitOf (u.rd F.WM_RST_OUT_MASK 0) m = true) ∧ (¬isRst → bitOf (u.rd F.WM_OUT_MASK 0) m = true ∧ u.rd F.WM_MSTAT_PG m = 0)
         ∧ (m < 24 → isRst → qualState (decide (k = .rstLo)) (s.stepOf m) = true →
             u.rd F.WM_MSTAT_RST_EXC m = min 255 (s.rd F.WM_MSTAT_RST_EXC m + 1) ∧ Told 9 8 s u)
         ∧ (m < 24 → isRst → qualState (decide (k = .rstLo)) (s.stepOf m) = false → u.rd F.WM_MSTAT_RST_EXC m = s.rd F.WM_MSTAT_RST_EXC m ∧ u.due = [])
         ∧ (m < 24 → ¬isRst → win = false → s.stepOf m = 3 → u.rd F.WM_MSTAT_WARN_EXC m = min 255 (s.rd F.WM_MSTAT_WARN_EXC m + 1) ∧ Told 9 7 s u)
         ∧ (m < 24 → ¬isRst → s.stepOf m ≠ 3 → u.rd F.WM_MSTAT_WARN_EXC m = s.rd F.WM_MSTAT_WARN_EXC m ∧ u.due = [])
         ∧ (25 ≤ m → isRst → rst = false → u.rd F.WM_MSTAT_RST_EXC m = min 255 (s.rd F.WM_MSTAT_RST_EXC m + 1) ∧ Told 9 5 s u)
         ∧ (25 ≤ m → ¬isRst → win = false → u.rd F.WM_MSTAT_WARN_EXC m = min 255 (s.rd F.WM_MSTAT_WARN_EXC m + 1) ∧ Told 9 9 s u)
         ∧ Only (F.WM_MSTAT_PG.key m :: F.WM_MSTAT_WARN_EXC.key m :: F.WM_MSTAT_RST_EXC.key m :: outs) s u)
     ∧ (held = false → late = false → s.rd (cmpFld k) m = 1 → m ≠ 24 → Does (.monitorCrossing mon k .back mv) s fun u => u.rd (cmpFld k) m = 0 ∧ sunk u
         ∧ (m < 24 → k = .warnHi → (u.stages.at m).ovSink = false) ∧ (k ≠ .warnHi → u.stages = s.stages) ∧ Only outs { s with stages := u.stages } u)
     ∧ (held = false → (¬isRst ∨ s.rd (cmpFld k) m = 0 ∨ 24 ≤ m ∨ qualState (decide (k = .rstLo)) (s.stepOf m) = false) →
         Does (.monitorCrossing mon k .qualified mv) s fun u => Only [] s u)
     ∧ (held = false → isRst → s.rd (cmpFld k) m = 1 → m < 24 → s.stepOf m = 3 →
         Does (.monitorCrossing mon k .qualified mv) s fun u => u.rd F.SQ_RSTAT_RUN_FAULT m = 1 ∧ u.rd F.SQ_RSTAT_CAUSE m = (if low then 6 else 7))
     ∧ (held = false → k = .rstHi → s.rd (cmpFld k) m = 1 → m < 24 → (s.stepOf m = 7 ∨ s.stepOf m = 8 ∨ s.stepOf m = 9) →
         Does (.monitorCrossing mon k .qualified mv) s fun u => u.stepOf m = 0xA ∧ u.rd F.SQ_RSTAT_CAUSE m = 7)
     ∧ (s.flag F.WM_MSTAT_BLANK m = true → late = false → ∀ b, Does (.dacBlankEnd mon b mv) s fun u => u.rd F.WM_MSTAT_BLANK m = 0 ∧ sunk u
         ∧ (s.cmpOn m .warnLo = true → s.follower m = false → s.rd F.WM_MSTAT_BELOW_WARN m ≤ 1 → u.rd F.WM_MSTAT_BELOW_WARN m = b2n b.warnLo)
         ∧ (s.cmpOn m .rstHi = true → s.follower m = false → s.rd F.WM_MSTAT_ABOVE_RST m ≤ 1 → u.rd F.WM_MSTAT_ABOVE_RST m = b2n b.rstHi)
         ∧ (m ≠ 24 → Outside (fun a => 0x1800 ≤ a && a < 0x1A00) s u))
     ∧ (s.flag F.WM_MSTAT_BLANK m = false → ∀ b, Does (.dacBlankEnd mon b mv) s fun u => Only [] s u))
  ∧ (∀ (s : State) (mv : Int), s.on = true →
       let raised := s.power.st = .run ∧ s.rd F.PE_STAT_NO_FEED 0 = 0
       let exc := [F.WM_MSTAT_WARN_EXC.key 24, F.WM_MSTAT_RST_EXC.key 24]
       let now := s.monDelayed 24 = false
       let late := fun (k : MonCmp) (e : MonEdge) (u : State) => Only [] { s with wmon := u.wmon } u
         ∧ u.wmon = if s.cmpActs 24 k then { s.wmon with late := s.wmon.late ++ [⟨s.now + ceilDiv (s.rd F.PT_WM_DLY_DELAY 0) 100, 24, k, e, mv⟩] } else s.wmon
       let warn := now ∧ s.cmpActs 24 .warnLo = true
       let lost := now ∧ s.cmpActs 24 .rstLo = true
       let pfw := [F.PFW_STAT_SUPPLY.key 0, F.PFW_STAT_ASSERTED.key 0, F.PFW_STAT_ASSERTS.key 0]
       let shown := [F.WM_OUT_MASK.key 0, F.WM_RST_OUT_MASK.key 0, F.SUP_STAT_BELOW_WARN.key 0, F.SUP_STAT_BELOW_RST.key 0, F.WM_MSTAT_BELOW_WARN.key 24,
         F.WM_MSTAT_BELOW_RST.key 24]
       (¬now → (Does (.supplyWarning mv) s (late .warnLo .out)) ∧ (Does (.supplyDip mv) s (late .warnLo .back)) ∧ Does (.supplyLoss mv) s (late .rstLo .out))
       ∧ (warn → raised → Does (.supplyWarning mv) s fun u => u.rd F.SUP_STAT_BELOW_WARN 0 = 1 ∧ u.rd F.PFW_STAT_SUPPLY 0 = 1 ∧ u.rd F.PFW_STAT_ASSERTED 0 = 1
           ∧ (s.rd F.PFW_STAT_ASSERTED 0 = 0 → u.rd F.PFW_STAT_ASSERTS 0 = min 255 (s.rd F.PFW_STAT_ASSERTS 0 + 1))
           ∧ (s.rd F.PFW_STAT_ASSERTED 0 = 1 → u.rd F.PFW_STAT_ASSERTS 0 = s.rd F.PFW_STAT_ASSERTS 0) ∧ u.rd F.FB_STAT_LAST 9 = (if s.flag F.PFW_STAT_ASSERTED 0 then 1 else 3)
           ∧ u.rd F.WM_MSTAT_WARN_EXC 24 = min 255 (s.rd F.WM_MSTAT_WARN_EXC 24 + 1) ∧ u.rd F.WM_MSTAT_RST_EXC 24 = s.rd F.WM_MSTAT_RST_EXC 24
           ∧ Only (exc ++ pfw ++ shown) { s with wmon := u.wmon } u)
       ∧ (warn → ¬raised → Does (.supplyWarning mv) s fun u => u.rd F.SUP_STAT_BELOW_WARN 0 = 1 ∧ u.due = [] ∧ Only shown { s with wmon := u.wmon } u)
       ∧ (warn → raised → s.rd F.PFW_STAT_SUPPLY 0 = 1 → s.wmon.supRst = false → Does (.supplyDip mv) s fun u => u.rd F.SUP_STAT_BELOW_WARN 0 = 0
           ∧ u.rd F.SUP_STAT_DIPS 0 = min 255 (s.rd F.SUP_STAT_DIPS 0 + 1) ∧ u.rd F.PFW_STAT_SUPPLY 0 = 0 ∧ Told 9 6 s u
           ∧ (s.severe 9 = false → u.severe 9 = true → s.rd F.WELL_STAT_HO 0 = 0 → u.rd F.WELL_STAT_HO 0 = 1)
           ∧ ((u.faults.srcs.at (srcKey 9 6)).severe = false → Only (F.SUP_STAT_DIPS.key 0 :: pfw ++ shown) { s with wmon := u.wmon } u))
       ∧ (warn → ¬raised → Does (.supplyDip mv) s fun u => u.rd F.SUP_STAT_BELOW_WARN 0 = 0 ∧ u.rd F.PFW_STAT_SUPPLY 0 = 0 ∧ u.due = []
           ∧ Only (pfw ++ shown) { s with wmon := u.wmon } u)
       ∧ (lost → raised → Does (.supplyLoss mv) s fun u => u.rd F.SUP_STAT_BELOW_RST 0 = 1 ∧ u.rd F.SUP_STAT_LOSSES 0 = min 255 (s.rd F.SUP_STAT_LOSSES 0 + 1)
           ∧ u.rd F.PFW_STAT_SUPPLY 0 = s.rd F.PFW_STAT_SUPPLY 0 ∧ Told 9 2 s u
           ∧ u.rd F.WM_MSTAT_RST_EXC 24 = min 255 (s.rd F.WM_MSTAT_RST_EXC 24 + 1) ∧ u.rd F.WM_MSTAT_WARN_EXC 24 = s.rd F.WM_MSTAT_WARN_EXC 24
           ∧ Only (F.SUP_STAT_LOSSES.key 0 :: exc ++ shown) { s with wmon := u.wmon } u)
       ∧ (lost → ¬raised → Does (.supplyLoss mv) s fun u => u.due = [] ∧ Only shown { s with wmon := u.wmon } u)
       ∧ (now → ¬warn → (Does (.supplyWarning mv) s fun u => Only [] s u) ∧ Does (.supplyDip mv) s fun u => Only [] s u)
       ∧ (now → ¬lost → Does (.supplyLoss mv) s fun u => Only [] s u)
       ∧ (s.pfwMask = 0 → Does .pfwRelease s fun u => u.rd F.PFW_STAT_ASSERTED 0 = 0 ∧ Only [F.PFW_STAT_ASSERTED.key 0] s u)
       ∧ (s.pfwMask ≠ 0 → Does .pfwRelease s fun u => Only [] s u))
  ∧ (∀ (s : State) (m : Master) (t : Fin 36) (d : Fin 164) (v : Int), s.on = true → s.rd F.WM_AUDIT_PASSES 0 < 65536 →
       let i := t.val
       let ov := (12 ≤ i ∧ i < 24) ∨ i = 32 ∨ i = 33 ∨ i = 35
       let tripped := fun (u : State) => u.rd F.TC_STAT_TRIPS i = min (2 ^ F.TC_STAT_TRIPS.width - 1) (s.rd F.TC_STAT_TRIPS i + 1)
         ∧ (i < 32 → bitOf (u.rd F.TC_TRIPPED0_MASK 0) i = true) ∧ (32 ≤ i → bitOf (u.rd F.TC_TRIPPED1_MASK 0) (i - 32) = true)
       let stays := fun (u : State) => Only [F.TC_STAT_TRIPS.key i, F.TC_TRIPPED0_MASK.key 0, F.TC_TRIPPED1_MASK.key 0] s u
       let mark := fun (u : State) => (if d.val < 128 then bitOf (u.rd F.WM_MSTAT_DAC_FAIL (d.val / 4)) (d.val % 4) else u.flag F.TC_STAT_DAC_FAIL (d.val - 128) : Bool)
       let audited := s.audits d.val = true
       let full := setBit s.wmon.auditSeen d.val = 2 ^ 164 - 1
       let marks := [F.WM_MSTAT_DAC_FAIL.key (d.val / 4), F.TC_STAT_DAC_FAIL.key (d.val - 128), F.WM_AUDIT_FAILS.key 0, F.WM_AUDIT_LAST_FAIL.key 0,
         F.WM_AUDIT_PASSES.key 0]
       (s.tripHeard i = true → Does (.trip t false v) s fun u => tripped u ∧ stays u)
       ∧ (s.tripHeard i = false → ∀ p, Does (.trip t p v) s fun u => Only [] s u)
       ∧ (s.tripHeard i = true → ∀ r, tripRail i = some r → (s.stg (s.leadRail r) = 8 ∨ (¬ov ∧ (s.stg (s.leadRail r) = 1 ∨ s.stg (s.leadRail r) = 4 ∨ s.stg (s.leadRail r) = 5))) →
           Does (.trip t true v) s fun u => tripped u ∧ u.due = [] ∧ stays u)
       ∧ (s.tripHeard i = true → ∀ r, tripRail i = some r → s.stg (s.leadRail r) = 2 → r ≤ 12 → Does (.trip t true v) s fun u => tripped u ∧ Told 10 2 s u
           ∧ (1 ≤ r → u.rd F.FB_STAT_LAST 6 = (if ov then 7 else 8))
           ∧ (1 ≤ r → ¬ov → u.rd F.B_EVT_OC (s.leadRail r - 1) = min 255 (s.rd F.B_EVT_OC (s.leadRail r - 1) + 1)))
       ∧ (s.tripHeard i = true → tripRail i = none → Does (.trip t true v) s fun u => tripped u ∧ Told 10 2 s u ∧ u.rd F.FB_STAT_LAST 11 = (if ov then 5 else 6))
       ∧ (audited → ∀ (off : Nat), off ≤ s.cf F.WM_GCFG_AUDIT_TOL 0 → Does (.dacAuditReading d off none) s fun u => mark u = false ∧ u.due = []
           ∧ u.rd F.WM_AUDIT_PASSES 0 = (if full then s.rd F.WM_AUDIT_PASSES 0 + 1 else s.rd F.WM_AUDIT_PASSES 0) % 65536
           ∧ (full → u.wmon.auditSeen = 0) ∧ (¬full → bitOf u.wmon.auditSeen d.val = true) ∧ u.rd F.WM_AUDIT_FAILS 0 = s.rd F.WM_AUDIT_FAILS 0
           ∧ Only marks { s with wmon := u.wmon } u)
       ∧ (audited → ∀ (off : Nat), s.cf F.WM_GCFG_AUDIT_TOL 0 < off →
           (s.wmon.retest ≠ d.val + 1 → Does (.dacAuditReading d off none) s fun u => u.wmon.retest = d.val + 1 ∧ Only [] { s with wmon := u.wmon } u)
           ∧ (s.wmon.retest = d.val + 1 → Does (.dacAuditReading d off none) s fun u => mark u = true ∧ u.wmon.retest = 0
             ∧ u.rd F.WM_AUDIT_FAILS 0 = min 255 (s.rd F.WM_AUDIT_FAILS 0 + 1) ∧ u.rd F.WM_AUDIT_LAST_FAIL 0 = d.val
             ∧ (d.val < 128 → Told 9 4 s u) ∧ (128 ≤ d.val → Told 10 1 s u) ∧ Only marks { s with wmon := u.wmon } u))
       ∧ (¬audited → ∀ (off : Nat), Does (.dacAuditReading d off none) s fun u => Only [] s u)
       ∧ ((s.wmon.readback = 0 → Does (.dacReadbackRequest m (BitVec.ofNat 32 d.val)) s fun u => u.out.err = some 0 ∧ u.wmon.readback = d.val + 1 ∧ u.rd F.WM_RB_DATA_VALID 0 = 0
             ∧ Only [F.WM_RB_DATA_VALID.key 0] { s with wmon := u.wmon } u)
           ∧ (s.wmon.readback ≠ 0 → Does (.dacReadbackRequest m (BitVec.ofNat 32 d.val)) s fun u => Refuses m 4 0x1810 s u))
       ∧ (∀ x : Fin 256, 164 ≤ x.val → Does (.dacReadbackRequest m (BitVec.ofNat 32 x.val)) s fun u => Refuses m 1 0x1810 s u)
       ∧ (∀ x, s.wmon.readback ≠ 0 → Does (.dacReadbackDone x) s fun u => u.rd F.WM_RB_DATA_VALID 0 = 1 ∧ u.rd F.WM_RB_DATA_VALUE 0 = x % 65536
           ∧ u.wmon.readback = 0 ∧ Only [F.WM_RB_DATA_VALID.key 0, F.WM_RB_DATA_VALUE.key 0] { s with wmon := u.wmon } u)
       ∧ (∀ x, s.wmon.readback = 0 → Does (.dacReadbackDone x) s fun u => Only [] s u))

/-- From R282, R284, R285, R287: FH_CTL of the block that the master's FH_SEL names. SEV_CLR ends the severity of every source of the block
and forgets their event times; HIST_CLR empties its history; neither touches another block. It rests on readings of the model, not of
the spec alone, where log 18 says so. -/
def Obligations.SeverityAndHistory : Prop :=
  ∀ (s : State) (m : Master) (k : Nat) (b : Fin 23), s.on = true → s.rd F.FH_SEL_BLOCK m.idx = b.val →
    (Does (.sevClr m 2) s fun u => u.out.err = some 0 ∧ u.severe b.val = false ∧ u.frozen b.val = false
        ∧ (k / 256 = b.val → u.faults.srcs.at k = {}) ∧ (k / 256 ≠ b.val → u.faults.srcs.at k = s.faults.srcs.at k)
        ∧ u.faults.hist = s.faults.hist ∧ Only [] s u)
    ∧ (Does (.histClr m 1) s fun u => u.out.err = some 0 ∧ u.faults.hist.at b.val = [] ∧ u.rd F.FH_INFO_ENTRIES b.val = 0
        ∧ (k ≠ b.val → u.faults.hist.at k = s.faults.hist.at k) ∧ u.faults.srcs = s.faults.srcs ∧ u.severe b.val = s.severe b.val ∧ Only [] s u)
    ∧ (Does (.sevClr m 3) s fun u => u.severe b.val = false ∧ u.faults.hist.at b.val = [] ∧ Only [] s u)

/-- From R304, R305: a perturbation session opens with the two keys of one master within 1 ms and not otherwise, and ends by PT_CTL.LOCK or
at its end, with every kind. From R302, R304, R305, R306, R310: the settings of the four kinds. A non-zero value starts its kind for
PT_TTL seconds, at most to the session's end; zero ends it; at its end the register is 0. It rests on readings of the model, not of the
spec alone, where log 37 says so. -/
def Obligations.Perturbations : Prop :=
  (∀ (s : State) (m : Master) (n : BitVec 16), s.on = true →
     let key : Word := n.zeroExtend 32
     let refused := fun (e : Nat) (u : State) => u.out.err = some e ∧ u.pert.session = s.pert.session ∧ u.rd F.LAST_ERR_CODE m.idx = e
       ∧ u.rd F.PT_STAT_REFUSED 0 = min (2 ^ F.PT_STAT_REFUSED.width - 1) (s.rd F.PT_STAT_REFUSED 0 + 1) ∧ Told 0x16 5 s u
       ∧ Only [F.PT_STAT_REFUSED.key 0, F.LAST_ERR_CODE.key m.idx, F.LAST_ERR_COUNT.key m.idx, F.LAST_ERR_ADDR.key m.idx]
           { s with pert := u.pert } { u with ring := s.ring }
     let free := s.rd F.PT_STAT_ALLOWED 0 ≠ 0 ∧ s.safe = false ∧ s.pert.session = none
     let ends := fun (u : State) => u.pert.session = none ∧ u.rd F.PT_STAT_UNLOCKED 0 = 0 ∧ u.rd F.PT_STAT_ACTIVE 0 % 16 = 0
       ∧ (∀ k : Fin 4, u.pert.kindEnd.at (k.val + 1) = 0 ∧ u.kindWord (k.val + 1) = 0) ∧ Told 0x16 2 s u
     (s.rd F.PT_STAT_ALLOWED 0 = 0 → Does (.ptKeyWrite m key) s fun u => refused 3 u)
     ∧ (s.rd F.PT_STAT_ALLOWED 0 ≠ 0 → (s.safe = true ∨ s.pert.session ≠ none) → Does (.ptKeyWrite m key) s fun u => refused 5 u)
     ∧ (free → s.pert.key = none → n = 0x7E1A → Does (.ptKeyWrite m key) s fun u => u.out.err = some 0 ∧ u.pert.key = some (m, s.now)
         ∧ u.pert.session = none ∧ Only [] { s with pert := u.pert } u)
     ∧ (free → s.pert.key = none → n ≠ 0x7E1A → Does (.ptKeyWrite m key) s fun u => refused 1 u)
     ∧ (free → ∀ o t, s.pert.key = some (o, t) →
         (n = 0x91C5 → o = m → s.now ≤ t + 1000 → Does (.ptKeyWrite m key) s fun u => u.out.err = some 0 ∧ u.pert.session = some m
           ∧ u.pert.sessionEnd = s.now + 600000000 ∧ u.rd F.PT_STAT_UNLOCKED 0 = 1
           ∧ u.rd F.PT_STAT_UNLOCKS 0 = min (2 ^ F.PT_STAT_UNLOCKS.width - 1) (s.rd F.PT_STAT_UNLOCKS 0 + 1) ∧ Told 0x16 1 s u
           ∧ Only [F.PT_STAT_UNLOCKED.key 0, F.PT_STAT_UNLOCKS.key 0] { s with pert := u.pert, logb := u.logb } { u with ring := s.ring })
         ∧ (n ≠ 0x91C5 ∨ o ≠ m ∨ t + 1000 < s.now → Does (.ptKeyWrite m key) s fun u => refused 1 u ∧ u.pert.key = none))
     ∧ (s.pert.session = some m → Does (.ptLock m 1) s fun u => u.out.err = some 0 ∧ ends u)
     ∧ (s.pert.session = none → (Does (.ptLock m 1) s fun u => Refuses m 3 0x3E04 s u) ∧ (Does (.ptClearAll m 2) s fun u => Refuses m 3 0x3E04 s u)
         ∧ (Does .ptSessionExpiry s fun u => Only [] s u))
     ∧ (s.pert.session = some m.other → (Does (.ptLock m 1) s fun u => Refuses m 10 0x3E04 s u) ∧ (Does (.ptClearAll m 2) s fun u => Refuses m 10 0x3E04 s u)
         ∧ (Does .ptSessionExpiry s fun u => ends u))
     ∧ (s.pert.session = some m → s.wmon.late = [] → Does (.ptClearAll m 2) s fun u => u.out.err = some 0 ∧ u.pert.session = some m
         ∧ (∀ k : Fin 4, s.pert.kindEnd.at (k.val + 1) ≠ 0 → u.pert.kindEnd.at (k.val + 1) = 0 ∧ u.kindWord (k.val + 1) = 0)
         ∧ Outside (fun a => (0x2200 ≤ a && a < 0x2400) || 0x3E00 ≤ a) s u))
  ∧ (∀ (s : State) (m : Master) (n : BitVec 16) (k : Fin 4), s.on = true →
       let w : Word := n.zeroExtend 32
       let until_ := min (s.now + s.rd F.PT_TTL_TTL 0 * 1000000) s.pert.sessionEnd + 1
       let others := fun (j : Nat) (u : State) => (∀ i, i ≠ j → u.pert.kindEnd.at i = s.pert.kindEnd.at i) ∧ u.pert.session = s.pert.session
         ∧ Outside (fun a => (0x2200 ≤ a && a < 0x2400) || 0x3E00 ≤ a) s u ∧ u.act = s.act ∧ u.stag = s.stag ∧ u.stages = s.stages
       let started := fun (j : Nat) (u : State) => u.out.err = some 0 ∧ u.pert.kindEnd.at j = until_ ∧ bitOf (u.rd F.PT_STAT_ACTIVE 0) (j - 1) = true
         ∧ Told 0x16 3 s u ∧ others j u
       let ended := fun (j : Nat) (u : State) => u.out.err = some 0 ∧ u.pert.kindEnd.at j = 0 ∧ Told 0x16 3 s u
         ∧ (j = 4 → s.wmon.late = [] → others j u) ∧ (j ≠ 4 → others j u)
       (s.pert.session = none → (Does (.ptDbWrite m w) s fun u => Refuses m 3 0x3E14 s u) ∧ (Does (.ptWmDlyWrite m w) s fun u => Refuses m 3 0x3E24 s u))
       ∧ (s.pert.session = some m.other → Does (.ptSkewWrite m w) s fun u => Refuses m 10 0x3E1C s u)
       ∧ (s.pert.session = some m →
           (n ≠ 0 → (Does (.ptDbWrite m (w + 0x00010000)) s fun u => started 1 u ∧ u.rd F.PT_DB_DELAY 0 = n.toNat ∧ u.rd F.PT_DB_RING 0 = 1)
             ∧ (Does (.ptSkewWrite m w) s fun u => started 3 u ∧ u.rd F.PT_SKEW_SKEW 0 = n.toNat)
             ∧ (s.rd F.PT_WM_MASK_MASK 0 ≠ 0 → Does (.ptWmDlyWrite m w) s fun u => started 4 u ∧ u.rd F.PT_WM_DLY_DELAY 0 = n.toNat))
           ∧ (n.toNat % 256 ≠ 0 → Does (.ptBpWrite m (BitVec.ofNat 32 (0x10000 + (n.toNat % 256) * 256))) s fun u => started 2 u ∧ u.rd F.PT_BP_DUTY 0 = n.toNat % 256)
           ∧ (Does (.ptDbWrite m 0) s fun u => ended 1 u) ∧ (Does (.ptBpWrite m 0) s fun u => ended 2 u) ∧ (Does (.ptSkewWrite m 0) s fun u => ended 3 u)
           ∧ (Does (.ptWmDlyWrite m 0) s fun u => ended 4 u))
       ∧ (s.pert.kindEnd.at (k.val + 1) ≠ 0 → Does (.ptKindExpiry k) s fun u => u.pert.kindEnd.at (k.val + 1) = 0 ∧ u.kindWord (k.val + 1) = 0
           ∧ bitOf (u.rd F.PT_STAT_ACTIVE 0) k.val = false ∧ Told 0x16 4 s u
           ∧ (k.val = 3 → s.wmon.late = [] → others 4 u) ∧ (k.val ≠ 3 → others (k.val + 1) u))
       ∧ (s.pert.kindEnd.at (k.val + 1) = 0 → Does (.ptKindExpiry k) s fun u => Only [] s u))

/-- From R315, R318, R319, R321, R325, R332: the hand-over. It needs a converter that may source and a pump that cannot carry the load; from
RUN the device enters HOLD with the charger suspended, in SAFE it stays in SAFE, elsewhere nothing starts; after tHO_LEAD the rails
outside the hold set are shed. From R240, R320, R322, R323, R329: the hand-back, the charger's dwell and the cutoff. It rests on
readings of the model, not of the spec alone, where log 15, 16 and 30 say so. -/
def Obligations.HandOvers : Prop :=
  (∀ (s : State) (r : Rail), s.on = true →
     let ho := s.rd F.WELL_STAT_HO 0
     let able := s.wellSources = true ∧ (s.stg 0 = 4 ∨ s.stg 0 = 6 ∨ ho = 1) ∧ (ho = 0 ∨ ho = 1 ∨ ho = 6)
     let charges := 1 ≤ s.chg ∧ s.chg ≤ 6 ∧ s.chgMay = true ∧ s.con F.WELL_CFG_EN 0 = true ∧ s.rd F.WELL_STAT_VALVE 0 = 1 ∧ s.rd F.WELL_CSTAT_CHG_FAULT 0 = 0
     let draws := s.rd F.EST_STAT_DRAW 0 = 1
     let told := fun (u : State) => Told 0x0B 1 s u ∧ u.rd F.WELL_EVT_HO 0 = min 255 (s.rd F.WELL_EVT_HO 0 + 1)
       ∧ u.rd F.PFW_STAT_HANDOVER 0 = 1 ∧ u.rd F.PFW_STAT_ASSERTED 0 = 1 ∧ (ho = 1 ↔ u.well.pre = true)
       ∧ (draws → u.rd F.EST_STAT_DRAW 0 = 0 ∧ u.rd F.EST_EVT_ABANDONED 0 = min 255 (s.rd F.EST_EVT_ABANDONED 0 + 1) ∧ u.rd F.FB_STAT_LAST 0x0C = 5)
       ∧ (¬draws → u.stages = s.stages ∧ Outside (fun a => a = 0x10 || a = 0x181C || (0x1C00 ≤ a && a < 0x1C60)) s u)
       ∧ u.seq = s.seq ∧ u.act = s.act ∧ u.stag = s.stag ∧ (u.on = true → u.feeds = s.feeds) ∧ u.tb = s.tb ∧ u.sched = s.sched
     (able → s.power.st = .run → Does .handoverDetect s fun u => u.power = { s.power with st := .hold } ∧ u.rd F.PSTATE_PREV_STATE 0 = PState.run.code
         ∧ u.rd F.WELL_STAT_HO 0 = 2 ∧ u.well.leadPend = true ∧ u.well.hoDone = false ∧ u.rd F.PFW_STAT_SUPPLY 0 = 0 ∧ told u
         ∧ (charges → u.chg = 7 ∧ u.well.requal = true))
     ∧ (able → s.power.st = .safe → Does .handoverDetect s fun u => u.power = s.power ∧ u.rd F.PFW_STAT_SUPPLY 0 = s.rd F.PFW_STAT_SUPPLY 0
         ∧ 3 ≤ u.rd F.WELL_STAT_HO 0 ∧ u.rd F.WELL_STAT_HO 0 ≤ 4 ∧ u.well.leadPend = false ∧ u.well.hoDone = true ∧ told u ∧ (charges → u.chg = 7))
     ∧ ((¬able ∨ (s.power.st ≠ .run ∧ s.power.st ≠ .safe)) → Does .handoverDetect s fun u => Only [] s u)
     ∧ (s.well.leadPend = false → Does .handoverLeadEnd s fun u => Only [] s u)
     ∧ (s.well.leadPend = true → s.safe = true → Does .handoverLeadEnd s fun u => u.well.leadPend = false ∧ u.well.hoDone = true
         ∧ Only [F.WELL_STAT_HO.key 0] { s with well := u.well } u)
     ∧ (s.well.leadPend = true → s.safe = false → Does .handoverLeadEnd s fun u => u.well.leadPend = false ∧ (s.power.afterCutoff = none → u.power.st = s.power.st)
         ∧ u.act = s.act ∧ u.stag = s.stag ∧ (u.on = true → u.feeds = s.feeds)
         ∧ (s.stepOf r.val = 3 → bitOf s.holdSet r.val = false → s.seq.shedPend = false → bitOf u.seq.shed r.val = true
             ∧ (u.stepOf r.val = 0 ∨ u.stepOf r.val = 7 ∨ u.stepOf r.val = 8 ∨ u.stepOf r.val = 0xA))
         ∧ (s.draining = false → s.seq.shedPend = false → s.stepOf r.val = 3 → bitOf s.holdSet r.val = true → u.stepOf r.val = 3)))
  ∧ (∀ (s : State) (r : Rail), s.on = true →
       let ho := s.rd F.WELL_STAT_HO 0
       let may := s.well.hoDone = true ∧ s.anyStable = true ∧ (ho = 3 ∨ ho = 4) ∧ s.stg 0 ≠ 6 ∧ s.draining = false
         ∧ (s.power.st = .hold ∨ (s.safe = true ∧ s.stg 0 ≠ 0))
       let rest := fun (u : State) => u.act = s.act ∧ u.stag = s.stag ∧ (u.on = true → u.feeds = s.feeds) ∧ u.tb = s.tb ∧ u.sched = s.sched
       let ramped := s.stg 0 = 1 ∨ s.stg 0 = 2 ∨ s.stg 0 = 3
       (may → Does .handbackStart s fun u => u.rd F.WELL_STAT_HO 0 = 5 ∧ u.power = s.power ∧ u.well.lend = false ∧ (s.well.lend = true → Told 0x0B 0x0E s u) ∧ rest u ∧ u.seq = s.seq
           ∧ (s.stg 0 = 0 ∨ s.stg 0 = 4 → u.stg 0 = 1) ∧ (s.stg 0 = 2 → s.setCode 0 ≠ s.bankSet 0 → u.stg 0 = 3) ∧ (s.stg 0 ≠ 0 → s.stg 0 ≠ 4 → u.setCode 0 = s.bankSet 0))
       ∧ (¬may → Does .handbackStart s fun u => Only [] s u)
       ∧ (ho = 5 → ramped → s.seq.handover = false → s.power.afterCutoff = none → Does .handbackRampEnd s fun u => u.rd F.WELL_STAT_HO 0 = 6 ∧ u.rd F.PFW_STAT_HANDOVER 0 = 0 ∧ Told 0x0B 3 s u
           ∧ u.rd F.WELL_EVT_HB 0 = min 255 (s.rd F.WELL_EVT_HB 0 + 1) ∧ u.well.hoDone = false ∧ u.stg 0 = 2 ∧ rest u
           ∧ (s.safe = true → u.power = s.power ∧ u.seq = s.seq) ∧ (s.safe = false → u.power.st = .run ∧ u.rd F.PSTATE_PREV_STATE 0 = s.power.st.code)
           ∧ (s.chg = 7 → s.rd F.WELL_CSTAT_CHG_FAULT 0 = 0 → u.chgMay = true → u.chg = 7)
           ∧ (s.safe = false → s.con F.SEQ_CFG2_AUTO_RESTART 0 = true → s.rd F.SEQ_STAT_LATCHED 0 = 0 → s.busyOp = false → s.seq.shed = 2 ^ r.val →
               s.stepOf r.val = 0 → u.seq.shed = 0 ∧ ((u.stepOf r.val = 1 ∧ u.op = 0x0C) ∨ u.stepOf r.val = 6)))
       ∧ (ho ≠ 5 ∨ ¬ramped → Does .handbackRampEnd s fun u => Only [] s u)
       ∧ (ho = 6 → Does .chgDwellEnd s fun u => u.rd F.WELL_STAT_HO 0 = 0 ∧ Only [F.WELL_STAT_HO.key 0, F.WELL_CSTAT_CHG.key 0, F.WELL_CSTAT_SUSP.key 0, F.EST_STAT_WINDOW.key 0]
             { s with well := u.well } u
           ∧ (s.chg = 7 → s.chgMay = true → s.rd F.WELL_CSTAT_CHG_FAULT 0 = 0 → s.power.st ≠ .hold → s.well.lend = false → s.rd F.EST_STAT_DRAW 0 = 0 →
               s.well.floorLow = false → s.well.floorOff = false → 1 ≤ s.rd F.WELL_CSTAT_ZONE 0 → s.rd F.WELL_CSTAT_ZONE 0 ≤ 3 → s.well.requal = true → u.chg = 1))
       ∧ (ho ≠ 6 → Does .chgDwellEnd s fun u => Only [] s u)
       ∧ (s.power.st = .hold → s.power.afterCutoff = none → Does .holdupCutoff s fun u => rest u ∧ u.well.lend = false
           ∧ u.rd F.FB_STAT_LAST 0x0B = (if s.well.lend = true then 0x0E else 0x0D)
           ∧ (s.primed = 0 → s.busyOp = false → s.draining = false → u.power.st = .dormant ∧ u.power.off = true ∧ u.rd F.WELL_STAT_VALVE 0 = s.rd F.WELL_STAT_VALVE 0)
           ∧ (s.stepOf r.val = 3 → s.busyOp = false → u.power.st = .hold → u.power.afterCutoff = some .dormant
               ∧ (u.stepOf r.val = 0 ∨ u.stepOf r.val = 7 ∨ u.stepOf r.val = 8 ∨ u.stepOf r.val = 0xA)))
       ∧ (s.safe = true → s.anyFeed = false → Does .holdupCutoff s fun u => u.power.st = .ship ∧ u.power.off = true
           ∧ u.rd F.WELL_STAT_VALVE 0 = 0 ∧ Told 0x0B 0x0D s u ∧ rest u ∧ u.seq = s.seq)
       ∧ ((s.power.st = .run ∨ (s.power.st = .hold ∧ s.power.afterCutoff ≠ none) ∨ (s.power.st = .safe ∧ s.anyFeed = true)) →
           Does .holdupCutoff s fun u => Only [] s u))

/-- From R42, R324, R325, R329, R331, R332, R335: the commands of WELL_CTL, each refused where its conditions are not met, the lend and the
pack. It rests on readings of the model, not of the spec alone, where log 30 says so. -/
def Obligations.WellCommands : Prop :=
  ∀ (s : State) (m : Master), s.on = true → s.barred m = false → s.rd F.EST_STAT_DRAW 0 ≤ 1 →
    let ho := s.rd F.WELL_STAT_HO 0
    let busy := s.draining = true ∨ s.power.afterCutoff ≠ none ∨ ho = 1 ∨ ho = 2 ∨ ho = 5 ∨ s.well.leadPend = true
    let hold := s.power.st = .hold
    let refused := fun (e : Nat) (u : State) => Refuses m e 0x1C30 s u
    let excess := ((holdSum (fun f i => s.cf f i)).add ⟨s.cf F.WELL_LEND_I_LEND 0 * 50 * (s.cf F.WELL_CFG_VREG 0 * 10), 1⟩).gt ⟨200000000, 1⟩
    let rest := fun (u : State) => u.act = s.act ∧ u.stag = s.stag ∧ (u.on = true → u.feeds = s.feeds) ∧ u.tb = s.tb ∧ u.sched = s.sched
    let well := fun (u : State) => rest u ∧ u.power = s.power ∧ u.seq = s.seq ∧ u.stages = s.stages ∧ Outside (fun a => 0x1C40 ≤ a && a < 0x1C60 || (0x1E00 ≤ a && a < 0x2000)) s u
    (Does (.wellDormant m 0) s fun u => refused 1 u) ∧ (Does (.wellShip m 0x5C000002) s fun u => refused 1 u)
    ∧ (¬hold → (Does (.wellDormant m 0x5C000002) s fun u => refused 5 u) ∧ (Does (.wellShip m 0x5C000004) s fun u => refused 5 u)
        ∧ (Does (.lendStart m 8) s fun u => refused 5 u))
    ∧ (hold → busy → (Does (.wellDormant m 0x5C000002) s fun u => refused 4 u) ∧ (Does (.wellShip m 0x5C000004) s fun u => refused 4 u))
    ∧ (hold → ¬busy → s.primed = 0 → s.busyOp = false →
        (Does (.wellDormant m 0x5C000002) s fun u => u.power.st = .dormant ∧ u.power.off = true ∧ u.rd F.WELL_STAT_VALVE 0 = s.rd F.WELL_STAT_VALVE 0 ∧ rest u)
        ∧ (Does (.wellShip m 0x5C000004) s fun u => u.power.st = .ship ∧ u.power.off = true ∧ u.rd F.WELL_STAT_VALVE 0 = 0 ∧ rest u))
    ∧ (hold → s.well.lend = true → Does (.lendStart m 8) s fun u => refused 4 u)
    ∧ (hold → s.well.lend = false → excess = true → Does (.lendStart m 8) s fun u => refused errBudget u)
    ∧ (hold → s.well.lend = false → excess = false → Does (.lendStart m 8) s fun u => u.out.err = some 0 ∧ u.well.lend = true ∧ well u
        ∧ (s.rd F.WELL_STAT_CONV 0 = 1 → s.con F.WELL_CFG_EN 0 = true → s.pack = true → s.rd F.WELL_STAT_VALVE 0 = 1 → u.rd F.WELL_STAT_CONV 0 = 2))
    ∧ (s.well.lend = false → (Does (.lendStop m 16) s fun u => refused 5 u) ∧ (∀ b, Does (.lendAutoStop b) s fun u => Only [] s u))
    ∧ (s.well.lend = true → (Does (.lendStop m 16) s fun u => u.out.err = some 0 ∧ u.well.lend = false ∧ Told 0x0B 0x0E s u ∧ well u)
        ∧ (∀ b, Does (.lendAutoStop b) s fun u => u.well.lend = false ∧ Told 0x0B 0x0E s u ∧ well u))
    ∧ (s.rd F.WELL_CSTAT_CHG_FAULT 0 = 0 → Does (.clrChg m 32) s fun u => refused 5 u)
    ∧ (s.rd F.WELL_CSTAT_CHG_FAULT 0 = 1 → Does (.clrChg m 32) s fun u => u.out.err = some 0 ∧ u.rd F.WELL_CSTAT_CHG_FAULT 0 = 0
        ∧ u.rd F.WELL_CSTAT_FLT_CAUSE 0 = 0 ∧ u.chg ≠ 8 ∧ well u ∧ (s.chg = 8 → hold → u.chg = 0))
    ∧ (hold ∨ s.chg = 8 → Does (.chgRestart m 64) s fun u => refused 5 u)
    ∧ (s.power.st = .run → s.chg ≠ 8 → s.chgMay = true → s.rd F.WELL_CSTAT_CHG_FAULT 0 = 0 → Does (.chgRestart m 64) s fun u => u.out.err = some 0 ∧ well u
        ∧ ((u.chg = 1 ∧ u.suspCode = 0) ∨ (u.chg = 7 ∧ u.well.phaseLeft = 1)))
    ∧ (s.rd F.WELL_STAT_VALVE 0 = 1 ∧ s.rd F.WELL_STAT_VALVE_FAULT 0 = 0 → Does .valveFault s fun u => u.rd F.WELL_STAT_VALVE_FAULT 0 = 1 ∧ Told 0x0B 0xA s u
        ∧ Only [F.WELL_STAT_VALVE_FAULT.key 0] s u)
    ∧ (s.rd F.WELL_STAT_VALVE 0 = 0 ∨ s.rd F.WELL_STAT_VALVE_FAULT 0 = 1 → Does .valveFault s fun u => Only [] s u)
    ∧ (s.pack = true → Does (.packPresenceChange true) s fun u => Only [] s u)
    ∧ (s.pack = false → Does (.packPresenceChange false) s fun u => Only [] s u)
    ∧ (s.pack = false → Does (.packPresenceChange true) s fun u => u.pack = true ∧ u.rd F.WELL_CSTAT_CHG_FAULT 0 = 0 ∧ u.est.resyncNext = true ∧ well u
        ∧ (s.con F.WELL_CFG_EN 0 = true → s.rd F.WELL_STAT_VALVE 0 = 1 → s.rd F.WELL_STAT_CONV 0 = 0 → s.well.lend = false → u.rd F.WELL_STAT_CONV 0 = 1))
    ∧ (s.pack = true → Does (.packPresenceChange false) s fun u => u.pack = false ∧ Told 0x0B 0xB s u ∧ u.chg = 0 ∧ u.rd F.EST_STAT_WINDOW 0 = 0
        ∧ (u.on = true → u.rd F.EST_REMAIN_REMAIN 0 = 0xFFFF)
        ∧ u.rd F.EST_STAT_DRAW 0 = 0 ∧ rest u ∧ (hold ∨ (s.power.st = .safe ∧ s.anyFeed = false) → u.power.st = .ship ∧ u.power.off = true)
        ∧ (s.power.st = .run → u.power = s.power))

/-- From R325 to R328, R341, R344: the charger's phases, the faults of its timers when a count has run out, the zones of the pack's
temperature with 2 °C on either side of a boundary, and foldback. It rests on readings of the model, not of the spec alone, where log 30
says so. -/
def Obligations.ChargerPhases : Prop :=
  ∀ (s : State) (code : Fin 65536), s.on = true →
    let z := s.zoneOf code.val
    let t := ntcTemp (s.cf F.WELL_NTC_NOM 0) (s.cf F.WELL_NTC_BETA 0) code.val
    let edge := fun (f : Fld) => 8 * ofField 8 (s.cf f 0)
    let inRange := 2 * 65536 ≤ 100 * code.val ∧ 100 * code.val ≤ 98 * 65536
    let limit := (if s.chg = 2 then s.cf F.WELL_CHG_T_T_PRE 0 * 60000000 else s.cf F.WELL_CHG_T_T_FAST 0 * 360000000)
    let spent := 2 * limit ≤ s.well.count ∨ 2 * limit ≤ s.well.wall
    let n := s.cf F.WELL_PACK_CELLS 0
    let full := s.cf F.WELL_CHG_V_V_CHG 0 * n - (if s.rd F.WELL_CSTAT_ZONE 0 = 3 then s.cf F.WELL_ADJ_WARM_DV 0 * 10 * n else 0)
    let again := full - s.cf F.WELL_CHG_V_RECHG 0 * 10 * n
    let pre := s.cf F.WELL_CHG_V_V_PRE 0 * 20 * n
    let keys := [F.WELL_CSTAT_CHG.key 0, F.WELL_CSTAT_SUSP.key 0, F.EST_STAT_WINDOW.key 0]
    let at_ := fun (p : Nat) (u : State) => u.chg = p ∧ u.rd F.WELL_CSTAT_SUSP 0 = 0 ∧ Only keys { s with well := u.well } u
    let fresh := fun (p : Nat) (u : State) => at_ p u ∧ u.well.count = 0 ∧ u.well.wall = 0
    let done := fun (u : State) => u.chg = 6 ∧ Told 0x0B 0x12 s u
    (∀ v : Fin 32768, s.chg = 1 →
        ((v.val < pre → Does (.chargePhaseChange (.voltage v.val)) s fun u => fresh 2 u ∧ u.rd F.EST_STAT_WINDOW 0 = 0)
        ∧ (pre ≤ v.val → v.val < again → Does (.chargePhaseChange (.voltage v.val)) s fun u => fresh 3 u)
        ∧ (pre ≤ v.val → again ≤ v.val → Does (.chargePhaseChange (.voltage v.val)) s fun u => done u ∧ Only keys { s with well := u.well } u)))
    ∧ (∀ v : Fin 32768, s.chg = 3 → (full ≤ v.val → Does (.chargePhaseChange (.voltage v.val)) s fun u => at_ 4 u ∧ u.well = s.well)
        ∧ (v.val < full → Does (.chargePhaseChange (.voltage v.val)) s fun u => Only [] s u))
    ∧ (s.chg = 2 → (Does (.chargePhaseChange .preHeld) s fun u => fresh 3 u))
    ∧ (s.chg = 4 → s.cf F.WELL_CHG_T_T_TOPOFF 0 ≠ 0 → Does (.chargePhaseChange .tapered) s fun u => fresh 5 u)
    ∧ ((s.chg = 5 → Does (.chargePhaseChange .topoffOver) s fun u => done u ∧ u.rd F.EST_STAT_WINDOW 0 = 1 ∧ u.rd F.EST_QC_QC 0 = s.cUse * 10000 % 2 ^ 32
        ∧ Only (F.EST_QC_QC.key 0 :: keys) { s with well := u.well, est := u.est } u)
      ∧ (s.chg = 4 → s.cf F.WELL_CHG_T_T_TOPOFF 0 = 0 → Does (.chargePhaseChange .tapered) s fun u => done u ∧ u.rd F.EST_STAT_WINDOW 0 = 1))
    ∧ (s.chg = 6 → Does (.chargePhaseChange .recharge) s fun u => fresh 3 u)
    ∧ ((s.chg ≠ 2 → Does (.chargePhaseChange .preHeld) s fun u => Only [] s u) ∧ (s.chg ≠ 4 → Does (.chargePhaseChange .tapered) s fun u => Only [] s u)
        ∧ (s.chg ≠ 5 → Does (.chargePhaseChange .topoffOver) s fun u => Only [] s u) ∧ (s.chg ≠ 6 → Does (.chargePhaseChange .recharge) s fun u => Only [] s u))
    ∧ ((2 ≤ s.chg ∧ s.chg ≤ 4 → spent → Does .chargeTimerExpiry s fun u => u.rd F.WELL_CSTAT_CHG_FAULT 0 = 1 ∧ u.rd F.WELL_CSTAT_FLT_CAUSE 0 = (if s.chg = 2 then 1 else 2)
        ∧ Told 0x0B 4 s u ∧ u.rd F.WELL_EVT_CHG_FLT 0 = min 255 (s.rd F.WELL_EVT_CHG_FLT 0 + 1) ∧ u.chg = (if s.chgMay = true then 8 else 0)
        ∧ Only (F.WELL_CSTAT_CHG_FAULT.key 0 :: F.WELL_CSTAT_FLT_CAUSE.key 0 :: F.WELL_EVT_CHG_FLT.key 0 :: keys) { s with well := u.well } u)
      ∧ (¬(2 ≤ s.chg ∧ s.chg ≤ 4) ∨ ¬spent → Does .chargeTimerExpiry s fun u => Only [] s u))
    ∧ (¬inRange → z = 5)
    ∧ (inRange → edge F.WELL_ZONE_T1 ≤ edge F.WELL_ZONE_T2 → edge F.WELL_ZONE_T2 ≤ edge F.WELL_ZONE_T3 → edge F.WELL_ZONE_T3 ≤ edge F.WELL_ZONE_T4 →
        (t < edge F.WELL_ZONE_T1 - 16 → z = 0) ∧ (edge F.WELL_ZONE_T1 + 16 ≤ t → t < edge F.WELL_ZONE_T2 - 16 → z = 1)
        ∧ (edge F.WELL_ZONE_T2 + 16 ≤ t → t < edge F.WELL_ZONE_T3 - 16 → z = 2) ∧ (edge F.WELL_ZONE_T3 + 16 ≤ t → t < edge F.WELL_ZONE_T4 - 16 → z = 3)
        ∧ (edge F.WELL_ZONE_T4 + 16 ≤ t → z = 4))
    ∧ ((s.rd F.WELL_CSTAT_ZONE 0 = z → Does (.packZoneChange code) s fun u => Only [] s u)
      ∧ (s.rd F.WELL_CSTAT_ZONE 0 ≠ z → Does (.packZoneChange code) s fun u => u.rd F.WELL_CSTAT_ZONE 0 = z
          ∧ Told 0x0B (if z = 5 then 0xC else 0x10) s u ∧ Only (F.WELL_CSTAT_ZONE.key 0 :: keys) { s with well := u.well } u
          ∧ (1 ≤ s.chg ∧ s.chg ≤ 6 → s.chgMay = true → s.rd F.WELL_CSTAT_CHG_FAULT 0 = 0 → (z = 0 ∨ 4 ≤ z) → u.chg = 7 ∧ u.well.phaseLeft = s.chg)
          ∧ (s.chg = 7 → s.chgMay = true → s.rd F.WELL_CSTAT_CHG_FAULT 0 = 0 → (z = 1 ∨ z = 2 ∨ z = 3) → u.suspCode = 0 → s.well.requal = false →
              u.chg = s.well.phaseLeft ∨ s.well.phaseLeft = 1 ∨ s.requalNow = true)))
    ∧ (∀ c : Fin 200, (c.val ≤ s.cf F.WELL_ADJ_T_FOLD 0 → Does (.foldbackChange (c.val * 8)) s fun u => u.rd F.WELL_CSTAT_FOLD 0 = 0 ∧ u.rd F.WELL_CSTAT_DILATED 0 = 0
            ∧ u.well = { s.well with dieTemp := c.val * 8 }
            ∧ Only [F.WELL_CSTAT_FOLD.key 0, F.WELL_CSTAT_DILATED.key 0] { s with well := u.well } u)
        ∧ (s.cf F.WELL_ADJ_T_FOLD 0 < c.val → Does (.foldbackChange (c.val * 8)) s fun u => u.rd F.WELL_CSTAT_FOLD 0 = 1
            ∧ u.rd F.WELL_CSTAT_DILATED 0 = (if s.cf F.WELL_ADJ_T_FOLD 0 + 10 < c.val then 1 else 0) ∧ (s.rd F.WELL_CSTAT_FOLD 0 = 0 → Told 0x0B 0x11 s u)
            ∧ u.well = { s.well with dieTemp := c.val * 8 }
            ∧ Only [F.WELL_CSTAT_FOLD.key 0, F.WELL_CSTAT_DILATED.key 0] { s with well := u.well } u))

/-- From R337 to R343, R348, R349: one sample of the estimator. SoC_V is the place of the open-circuit voltage in the table of the
chemistry; the coulomb count moves by what has flowed while the DATA island is powered, and is set from SoC_V once the pack has become
present; conflict, levels and the time that remains follow. At rest in DORMANT the sample sets both, and the valve opens below the pack
floor (what the loss of the last supply does is SupplyLost's). From R340: what one impedance cell learns from two consecutive fast
samples. It rests on readings of the model, not of the spec alone, where log 14 and 38 say so. -/
def Obligations.EstimatorSamples : Prop :=
  (∀ (s : State) (r : EstReading) (n : Fin 31) (z : Fin 48), 3 ≤ s.cf F.WELL_PACK_CELLS 0 → s.rd F.EST_EFC_EFC 0 < 2 ^ 32 → s.rd F.EST_STAT_CONFLICT 0 ≤ 1 →
     let cells := s.cf F.WELL_PACK_CELLS 0
     let ocv := fun (k : Nat) => s.cf F.EST_OCV_V (s.cf F.WELL_PACK_CHEM 0 * 32 + k) * 1000
     let rises := ∀ k : Fin 31, ocv k.val < ocv (k.val + 1)
     let cell : Nat := r.vbat * 10000 / cells
     let v : Int := cell - r.cur * (s.impedance s.est.socV r.temp : Nat) / 15000000
     let full := s.cUse * 10000
     let data := bitOf (s.rd F.UNIT_STAT_ISLAND_OK 0) 7
     let counted : Int := max (-2147483648) (min 2147483647 (ofField 32 (s.rd F.EST_QC_QC 0) + if data then r.dq else 0))
     let inTable := fun (v : Int) (u : State) => (v < ocv 0 → u.est.socV = 0) ∧ (ocv 31 ≤ v → u.est.socV = 1000000)
       ∧ (rises → (ocv n.val : Int) ≤ v → v < ocv (n.val + 1) →
           u.est.socV = (n.val * 1000000 + (v.toNat - ocv n.val) * 1000000 / (ocv (n.val + 1) - ocv n.val)) / 31)
     let measured := fun (u : State) => u.rd F.WELL_MEAS_V_PACK 0 = r.vbat % 2 ^ 16 ∧ u.rd F.WELL_MEAS_I_PACK 0 = toField 16 r.cur ∧ u.rd F.WELL_MEAS2_T_PACK 0 = toField 16 r.temp
     let part := if s.est.efcOf = full ∨ s.est.efcOf = 0 then s.est.efcRest else s.est.efcRest * full / s.est.efcOf
     let shown := fun (u : State) => u.rd F.EST_STAT_SOC 0 = u.est.socV / 5000 ∧ u.est.last = some r
     let synced := fun (u : State) => u.rd F.EST_QC_QC 0 = u.est.socV * s.cUse / 100
     let rest := fun (u : State) => u.act = s.act ∧ u.stag = s.stag ∧ (u.power = s.power → u.feeds = s.feeds) ∧ u.tb = s.tb ∧ u.sched = s.sched ∧ u.seq = s.seq ∧ u.stages = s.stages
       ∧ u.well = s.well
     (s.on = true → s.pack = false → Does (.estSample r) s fun u => Only [] s u)
     ∧ (s.on = true → s.pack = true → Does (.estSample r) s fun u =>
         inTable v u ∧ shown u ∧ u.rd F.EST_STAT_SLOW 0 = (if r.slow = true then 1 else 0)
         ∧ (s.est.resyncNext = true → synced u ∧ u.est.resyncNext = false) ∧ (s.est.resyncNext = false → ofField 32 (u.rd F.EST_QC_QC 0) = counted)
         ∧ (r.charged = true → u.rd F.EST_STAT_WINDOW 0 = 0) ∧ (r.charged = false → u.rd F.EST_STAT_WINDOW 0 = s.rd F.EST_STAT_WINDOW 0)
         ∧ (let off := (((u.est.socV * s.cUse / 100 : Nat) : Int) - ofField 32 (u.rd F.EST_QC_QC 0)).natAbs * 100
            (u.rd F.EST_STAT_CONFLICT 0 = 1 ↔ (if s.rd F.EST_STAT_CONFLICT 0 = 1 ∧ s.est.resyncNext = false then 10 * full ≤ off else 15 * full < off)))
         ∧ (let low := s.cf F.EST_LVL_SOC_WARN 0 * 10000
            (u.rd F.EST_STAT_LOW 0 = 1 ↔ (if s.rd F.EST_STAT_LOW 0 = 1 then u.socW < low + 20000 else u.socW < low)))
         ∧ (u.rd F.EST_STAT_CONFLICT 0 = 0 → u.socW = u.est.socV)
         ∧ (0 ≤ r.cur → u.rd F.EST_REMAIN_REMAIN 0 = 0xFFFF) ∧ (r.cur < 0 → u.rd F.EST_REMAIN_REMAIN 0 = min 0xFFFF (u.socW * s.cUse * 6 / (10000 * r.cur.natAbs)))
         ∧ (0 ≤ r.dq ∨ data = false → u.rd F.EST_EFC_EFC 0 = s.rd F.EST_EFC_EFC 0)
         ∧ (r.dq < 0 → data = true → 0 < full → u.rd F.EST_EFC_EFC 0 = min 0xFFFFFFFF (s.rd F.EST_EFC_EFC 0 + (part + r.dq.natAbs * 100) / full))
         ∧ (∀ l, s.est.last = some l → (r.cur - l.cur).natAbs < 500 → u.rd F.EST_Z_Z z.val = s.rd F.EST_Z_Z z.val)
         ∧ measured u ∧ Outside (fun a => (0x1C4C ≤ a && a < 0x1C54) || (0x1E18 ≤ a && a < 0x1E38)) s u ∧ rest u)
     ∧ ((s.power.off = false ∨ s.power.st ≠ .dormant ∨ s.pack = false) → Does (.dormantSample r) s fun u => Only [] s u)
     ∧ (s.power.off = true → s.power.st = .dormant → s.pack = true → Does (.dormantSample r) s fun u =>
         inTable cell u ∧ synced u ∧ shown u ∧ u.rd F.EST_STAT_CONFLICT 0 = 0
         ∧ u.rd F.EST_EVT_DORM_SAMPLES 0 = min 255 (s.rd F.EST_EVT_DORM_SAMPLES 0 + 1) ∧ u.est.kept ≠ none
         ∧ (let low := decide (r.vbat < (s.cf F.WELL_PACK_V_CUT 0 - 150) * cells)
            (low = true → u.rd F.WELL_STAT_VALVE 0 = 0) ∧ (low = false → u.rd F.WELL_STAT_VALVE 0 = s.rd F.WELL_STAT_VALVE 0))
         ∧ u.power = s.power ∧ (s.rd F.EST_STAT_CONFLICT 0 = 0 → u.rd F.EST_REMAIN_REMAIN 0 = s.rd F.EST_REMAIN_REMAIN 0)
         ∧ measured u ∧ rest u))
  ∧ (∀ (s : State) (r l : EstReading) (d : Fin 4000) (b : Fin 8) (t : Fin 6), s.on = true → s.pack = true → s.cf F.WELL_PACK_CELLS 0 = 4 →
       let di : Int := 500 + d.val
       let now : EstReading := { r with cur := l.cur + di, slow := false }
       let soc := s.socOf ((((now.vbat * 10000 / 4 : Nat) : Int)) - now.cur * (s.impedance s.est.socV now.temp : Nat) / 15000000)
       let meas : Int := ((((now.vbat * 10000 / 4 : Nat) : Int)) - ((l.vbat * 10000 / 4 : Nat) : Int)) / di
       let k := t.val * 8 + b.val
       let old := s.rd F.EST_Z_Z k
       let here := min 7 (soc / 125000) = b.val ∧ min 5 (max 0 ((r.temp + 220) / 120)) = (t.val : Int)
       let pair := s.est.last = some l ∧ s.rd F.EST_STAT_SLOW 0 = 0 ∧ soc < s.est.socV + 10000 ∧ s.est.socV < soc + 10000
       (pair → here → 1 ≤ meas → meas ≤ 5000 → (old : Int) ≤ 2 * meas → meas ≤ 4 * (old : Int) → Does (.estSample now) s fun u =>
           (u.rd F.EST_Z_Z k : Int) = old + (meas - old) / 8 ∧ u.rd F.EST_Z_UPDATES k = min 255 (s.rd F.EST_Z_UPDATES k + 1)
           ∧ ∀ j : Fin 48, j.val ≠ k → u.rd F.EST_Z_Z j.val = s.rd F.EST_Z_Z j.val ∧ u.rd F.EST_Z_UPDATES j.val = s.rd F.EST_Z_UPDATES j.val)
       ∧ ((¬pair ∨ ¬here ∨ meas < 1 ∨ 5000 < meas ∨ 2 * meas < old ∨ 4 * (old : Int) < meas) → s.est.last = some l ∨ s.est.last = none →
           Does (.estSample now) s fun u => u.rd F.EST_Z_Z k = old ∧ u.rd F.EST_Z_UPDATES k = s.rd F.EST_Z_UPDATES k))

/-- From R341, R344 to R347, R350: the learning draw, what its end learns, and the commands of EST_CTL. It rests on readings of the model,
not of the spec alone, where log 14 and 38 say so. -/
def Obligations.LearningDraw : Prop :=
  ∀ (s : State) (m : Master) (k : Fin 48), s.on = true → s.barred m = false → s.rd F.EST_STAT_DRAW 0 ≤ 1 → s.rd F.EST_STAT_CONFLICT 0 ≤ 1 →
    let refused := fun (e : Nat) (u : State) => Refuses m e 0x1E38 s u
    let draws := s.rd F.EST_STAT_DRAW 0 = 1
    let ready := s.cf F.EST_CFG_LEARN_EN 0 = 1 ∧ s.power.st = .run ∧ s.anyStable = true ∧ s.rd F.EST_STAT_WINDOW 0 = 1
    let cold := s.rd F.WELL_CSTAT_ZONE 0 = 0 ∨ s.rd F.WELL_CSTAT_ZONE 0 = 4 ∨ s.rd F.WELL_CSTAT_FOLD 0 = 1
    let rest := fun (u : State) => u.act = s.act ∧ u.stag = s.stag ∧ u.feeds = s.feeds ∧ u.tb = s.tb ∧ u.sched = s.sched ∧ u.seq = s.seq ∧ u.power = s.power
    let back := fun (u : State) => u.rd F.EST_STAT_DRAW 0 = 0 ∧ (s.stg 0 ≠ 4 → s.well.pre = false → u.setCode 0 = s.bankSet 0) ∧ (s.stg 0 = 4 ∨ s.well.pre = true → u.stages = s.stages)
      ∧ (s.chg = 7 → s.well.requal = true → s.chgMay = true → s.rd F.WELL_CSTAT_CHG_FAULT 0 = 0 → u.suspCode = 0 → u.chg = 1) ∧ rest u
    let ended := fun (u : State) => back u ∧ u.rd F.EST_EVT_ABANDONED 0 = min 255 (s.rd F.EST_EVT_ABANDONED 0 + 1) ∧ Told 0x0C 5 s u
      ∧ u.rd F.EST_CAP_C_LEARN 0 = s.rd F.EST_CAP_C_LEARN 0
    let q := s.est.qDraw
    let c := s.rd F.EST_CAP_C_LEARN 0
    let fits := 500000 ≤ q ∧ q ≤ 60000000 ∧ (c = 0 ∨ (7 * c * 10000 ≤ 10 * q ∧ 10 * q ≤ 13 * c * 10000))
    let excess := fun (u : State) => back u ∧ u.rd F.EST_QC_QC 0 = 0 ∧ u.rd F.EST_STAT_WINDOW 0 = 0 ∧ u.rd F.EST_REMAIN_Q_DRAW 0 = min 0xFFFF (q / 10000)
      ∧ u.logb.pend.any (fun p => p.1 = 111) = true
    (¬ready → Does (.learnStart m 1) s fun u => refused 5 u)
    ∧ (ready → draws → Does (.learnStart m 1) s fun u => refused 4 u)
    ∧ (ready → ¬draws → cold → Does (.learnStart m 1) s fun u => refused 0x10 u)
    ∧ (ready → ¬draws → ¬cold → s.partnerDraws = true → Does (.learnStart m 1) s fun u => refused 0xC u)
    ∧ (ready → ¬draws → ¬cold → s.partnerDraws = false → Does (.learnStart m 1) s fun u => u.out.err = some 0 ∧ u.rd F.EST_STAT_DRAW 0 = 1
        ∧ u.setCode 0 = s.cf F.WELL_CFG_VREG 0 - 30 ∧ rest u
        ∧ (s.chg = 6 → s.chgMay = true → s.rd F.WELL_CSTAT_CHG_FAULT 0 = 0 → u.chg = 7 ∧ u.well.phaseLeft = 6 ∧ u.well.requal = true))
    ∧ (¬draws → Does (.learnStop m 2) s fun u => refused 5 u)
    ∧ (draws → Does (.learnStop m 2) s fun u => u.out.err = some 0 ∧ ended u)
    ∧ (¬draws → Does .endOfDischarge s fun u => Only [] s u)
    ∧ (draws → fits → Does .endOfDischarge s fun u => excess u ∧ Told 0x0C 3 s u ∧ u.rd F.EST_CAP_LEARNS 0 = min 255 (s.rd F.EST_CAP_LEARNS 0 + 1)
        ∧ (c = 0 → u.rd F.EST_CAP_C_LEARN 0 = q / 10000)
        ∧ (0 < c → (u.rd F.EST_CAP_C_LEARN 0 : Int) = ((c : Int) + (((q / 10000 : Nat) : Int) - c) * (s.cf F.EST_CFG_LEARN_WT 0 : Nat) / 8)
            ∨ 8 < s.cf F.EST_CFG_LEARN_WT 0))
    ∧ (draws → ¬fits → Does .endOfDischarge s fun u => excess u ∧ Told 0x0C 4 s u ∧ u.rd F.EST_CAP_REJECTS 0 = min 255 (s.rd F.EST_CAP_REJECTS 0 + 1)
        ∧ u.rd F.EST_CAP_C_LEARN 0 = c)
    ∧ (s.pack = false → Does (.resync m 4) s fun u => refused 5 u)
    ∧ (s.pack = true → Does (.resync m 4) s fun u => u.out.err = some 0 ∧ u.rd F.EST_QC_QC 0 = s.est.socV * s.cUse / 100 ∧ u.rd F.EST_STAT_CONFLICT 0 = 0
        ∧ (s.rd F.EST_STAT_CONFLICT 0 = 0 → u.rd F.EST_REMAIN_REMAIN 0 = s.rd F.EST_REMAIN_REMAIN 0)
        ∧ Outside (fun a => a = 0x1E20 || a = 0x1E2C || a = 0x1E30) s u ∧ rest u)
    ∧ (Does (.newPack m 8) s fun u => refused 1 u)
    ∧ (Does (.newPack m 0x3B000008) s fun u => u.out.err = some 0 ∧ u.rd F.EST_CAP_C_LEARN 0 = 0 ∧ u.rd F.EST_CAP_LEARNS 0 = 0 ∧ u.rd F.EST_CAP_REJECTS 0 = 0
        ∧ u.rd F.EST_EFC_EFC 0 = 0 ∧ u.rd F.EST_Z_Z k.val = 0xC8 ∧ u.rd F.EST_Z_UPDATES k.val = 0 ∧ u.rd F.EST_STAT_WINDOW 0 = 0
        ∧ u.rd F.EST_STAT_DRAW 0 = 0 ∧ u.logb.pend.any (fun p => p == (111, false)) = true ∧ rest u)
    ∧ (Does .impedanceSave s fun u => u.logb.pend.any (fun p => p.1 = 111) = true ∧ Only [] { s with logb := u.logb } u)

/-- From R359, R361 to R363, R365, R368, R371 to R374, R377: presence, the link, its loss, and the gates. It rests on readings of the model,
not of the spec alone, where log 34 says so. -/
def Obligations.TwinStatesAndGates : Prop :=
  ∀ (s : State) (k : Fin 8) (ma : Int), s.on = true → s.closed < 256 →
    let st := s.twSt
    let hb := s.rd F.TW_STAT_HB 0 = 1
    let pres := s.rd F.TW_STAT_PRESENT 0 = 1
    let quiet := fun (u : State) => u.act = s.act ∧ u.stag = s.stag ∧ u.power = s.power ∧ u.seq = s.seq ∧ u.stages = s.stages ∧ u.feeds = s.feeds
      ∧ u.well = s.well ∧ u.tb = s.tb
    let shown := fun (u : State) => u.rd F.TW_STAT_SAFE_TO_PULL 0 = (if u.twSt = 8 then 1 else 0)
      ∧ u.rd F.TW_STAT_DROOP 0 = (if u.twSt = 2 ∨ u.twSt = 3 ∨ u.twSt = 6 ∨ u.twSt = 9 then u.closed
        else if u.twSt = 4 ∨ u.twSt = 5 ∨ u.twSt = 7 then mAnd u.closed s.twin.apart else 0) ∧ quiet u
    let go := fun (n : Nat) (u : State) => u.twSt = n ∧ shown u
    let cleared := fun (u : State) => u.twin.asked = false ∧ u.twin.acked = false ∧ u.twin.boundary = none ∧ u.twin.ramp = 0 ∧ u.twin.closing = 0
    let readied := fun (u : State) => ∀ j : Fin 8, bitOf u.closed j.val = (bitOf s.closed j.val || (bitOf s.twin.closing j.val && s.mayClose j.val))
    let good := s.mayClose k.val = true ∧ s.stepOf (s.cf F.TW_SLOT_RAIL k.val) = 3
    let others := fun (u : State) => ∀ j : Fin 8, j ≠ k → bitOf u.closed j.val = bitOf s.closed j.val
    let alone := ∀ j : Fin 8, j ≠ k → usedSlot s.cf j.val = true → bitOf s.closed j.val = false
    ((st = 1 → Does .presentDebounced s fun u => u.rd F.TW_STAT_PRESENT 0 = 1 ∧ (¬hb → go 2 u) ∧ (hb → s.twin.fresh = false → go 3 u)
        ∧ (hb → 3 ≤ u.twSt))
      ∧ (st ≠ 1 → Does .presentDebounced s fun u => Only [F.TW_STAT_PRESENT.key 0] s u ∧ u.rd F.TW_STAT_PRESENT 0 = 1))
    ∧ ((st = 0 ∨ st = 1) → Does .partnerRemoval s fun u => u.rd F.TW_STAT_PRESENT 0 = 0 ∧ cleared u
        ∧ Only [F.TW_STAT_PRESENT.key 0] { s with twin := u.twin } u)
    ∧ (2 ≤ st → Does .partnerRemoval s fun u => go 1 { u with stages := s.stages } ∧ u.rd F.TW_STAT_PRESENT 0 = 0 ∧ u.rd F.TW_STAT_HB 0 = s.rd F.TW_STAT_HB 0 ∧ u.rd F.TW_STAT_TIME_REF 0 = 1 ∧ Told 0xD 2 s u ∧ cleared u
        ∧ u.rd F.TW_EVT_REMOVALS 0 = min 255 (s.rd F.TW_EVT_REMOVALS 0 + 1) ∧ readied u
        ∧ (usedSlot s.cf k.val = true → bitOf s.closed k.val = true → s.stg (s.cf F.TW_SLOT_RAIL k.val) = 2 →
          (u.stages.at (s.cf F.TW_SLOT_RAIL k.val)).loop.ref = s.setUv (s.cf F.TW_SLOT_RAIL k.val)))
    ∧ ((st = 2 ∨ st = 6) → Does .twinLinkUp s fun u => u.rd F.TW_STAT_HB 0 = 1 ∧ go 3 u)
    ∧ (st ≠ 2 → st ≠ 6 → Does .twinLinkUp s fun u => u.rd F.TW_STAT_HB 0 = 1 ∧ Only [F.TW_STAT_HB.key 0] { s with twin := u.twin } u)
    ∧ (¬hb → Does .heartbeatLoss s fun u => Only [] s u)
    ∧ (hb → Does .heartbeatLoss s fun u => u.rd F.TW_STAT_HB 0 = 0 ∧ u.rd F.TW_LINK_LOSSES 0 = min 255 (s.rd F.TW_LINK_LOSSES 0 + 1) ∧ cleared u
        ∧ (¬pres → u.twSt = st) ∧ (pres → st = 7 → go 8 u ∧ u.closed % 256 = 0 ∧ Told 0xD 6 s u)
        ∧ (pres → (st = 3 ∨ st = 4 ∨ st = 5 ∨ st = 9) → go 6 u ∧ Told 0xD 1 s u ∧ readied u)
        ∧ (pres → (st = 0 ∨ st = 1 ∨ st = 2 ∨ st = 6 ∨ st = 8) → u.twSt = st))
    ∧ (st = 2 → ¬hb → Does .linkWaitTimeout s fun u => go 6 u)
    ∧ ((st ≠ 2 ∨ hb) → Does .linkWaitTimeout s fun u => Only [] s u)
    ∧ (∀ b, Does (.ejectNLevelChange b) s fun u => u.rd F.TW_STAT_EJECT 0 = (if b = true then 1 else 0) ∧ Only [F.TW_STAT_EJECT.key 0] s u)
    ∧ (good → st = 4 → Does (.gateMatch k) s fun u => bitOf u.twin.closing k.val = true ∧ u.closed = s.closed ∧ Only [] { s with twin := u.twin } u)
    ∧ (good → (st = 1 ∨ st = 2 ∨ st = 6) → Does (.gateMatch k) s fun u => bitOf u.closed k.val = true ∧ others u ∧ u.twSt = st ∧ shown u
        ∧ (s.cf F.TW_SLOT_RAIL k.val ≤ 20 → u.rd F.WM_MSTAT_BLANK (s.cf F.TW_SLOT_RAIL k.val) = 1))
    ∧ ((¬good ∨ st = 0 ∨ st = 3 ∨ st = 5 ∨ 7 ≤ st) → Does (.gateMatch k) s fun u => Only [] s u)
    ∧ (bitOf s.twin.ramp k.val = false → Does (.shareRampEnd k) s fun u => Only [] s u)
    ∧ (bitOf s.twin.ramp k.val = true → st = 7 → Does (.shareRampEnd k) s fun u => bitOf u.closed k.val = false ∧ bitOf u.twin.ramp k.val = false ∧ others u
        ∧ (alone → go 8 u) ∧ (bitOf s.closed k.val = true → ¬alone → u.twSt = 7))
    ∧ (bitOf s.twin.ramp k.val = true → st = 4 → Does (.shareRampEnd k) s fun u => bitOf u.twin.ramp k.val = false ∧ u.closed = s.closed ∧ quiet u
        ∧ (s.twin.ramp = 2 ^ k.val → s.twin.closing = 0 → (∀ j : Fin 8, usedSlot s.cf j.val = true → bitOf s.closed j.val = true ∧ bitOf s.twin.pClosed j.val = true) →
            go 5 u ∧ Told 0xD 5 s u ∧ u.rd F.TW_EVT_JOINS 0 = min 255 (s.rd F.TW_EVT_JOINS 0 + 1))
        ∧ (usedSlot s.cf k.val = true → bitOf s.closed k.val = false ∨ bitOf s.twin.pClosed k.val = false → u.twSt = 4))
    ∧ ((usedSlot s.cf k.val = true ∧ bitOf s.closed k.val = true) → Does (.twinGateReverse k ma) s fun u => bitOf u.closed k.val = false ∧ others u ∧ u.rd F.FB_STAT_LAST 0xD = 7
        ∧ u.rd F.TW_EVT_REV_OPEN 0 = min 255 (s.rd F.TW_EVT_REV_OPEN 0 + 1) ∧ shown u ∧ (st ≠ 7 → Told 0xD 7 s u ∧ u.twSt = st)
        ∧ (st = 7 → (alone → u.twSt = 8) ∧ (¬alone → u.twSt = 7)))
    ∧ ((usedSlot s.cf k.val = false ∨ bitOf s.closed k.val = false) → Does (.twinGateReverse k ma) s fun u => Only [] s u)

/-- From R368, R369, R373, R375, R377, R381: the commands and messages of leaving, joining and lending. It rests on readings of the model,
not of the spec alone, where log 14 and 34 say so. -/
def Obligations.TwinMessages : Prop :=
  ∀ (s : State) (m : Master) (n : BitVec 32) (b : Byte), s.on = true → s.barred m = false →
    let st := s.twSt
    let hb := s.rd F.TW_STAT_HB 0 = 1
    let isB := s.rd F.TW_STAT_ROLE 0 = 1
    let pir := s.pMirror
    let other := s.rd F.TW_PARTNER_STATE 0 = 5
    let troubled := bitOf (s.rd F.TW_PARTNER_FLAGS 0) 4 = true ∨ bitOf (s.rd F.TW_PARTNER_FLAGS 0) 5 = true ∨ s.rd F.TW_PARTNER_PSTATE 0 = 4
    let carried := ∀ k : Fin 8, usedSlot s.cf k.val = true → bitOf (mirAt pir 158 1) k.val = true
    let carries := ∀ k : Fin 8, usedSlot s.cf k.val = true → s.carries k.val = true
    let refuses := fun (e : Nat) (u : State) => u.out.err = some e ∧ u.rd F.LAST_ERR_CODE m.idx = e ∧ Told 0xD 4 s u ∧ u.twin.asked = false ∧ u.twSt = st
      ∧ Only [F.LAST_ERR_CODE.key m.idx, F.LAST_ERR_COUNT.key m.idx, F.LAST_ERR_ADDR.key m.idx] { s with twin := u.twin } { u with ring := s.ring }
    let tells := fun (x : Nat × Nat) (u : State) => u.out.twin = (if st = 0 then [] else [x])
      ∧ u.twin.msgs = if st = 0 then s.twin.msgs else s.twin.msgs.filter (fun y => y.1 != x.1) ++ [(x.1, x.2, 16)]
    let naks := fun (why : Nat) (u : State) => tells (3, why) u ∧ Only [] { s with twin := { s.twin with msgs := u.twin.msgs } } u
    let live := st = 5 ∧ s.safe = false
    let may := live ∧ other ∧ ¬troubled ∧ carried ∧ s.twin.acked = false
    (¬live → Does (.twLeave m 1) s fun u => refuses 5 u)
    ∧ (live → (¬other ∨ troubled ∨ ¬carried ∨ s.twin.acked = true) → Does (.twLeave m 1) s fun u => refuses 0xC u)
    ∧ (may → s.twin.asked = false → (Does (.twLeave m 1) s fun u => u.out.err = some 0 ∧ u.twin.asked = true ∧ tells (1, 0) u ∧ Only [] { s with twin := u.twin } u)
        ∧ (s.rd F.TW_STAT_EJECT 0 = 1 → Does .ejectDebounced s fun u => u.twin.asked = true ∧ u.twin.byEject = true ∧ tells (1, 0) u
            ∧ Only [] { s with twin := u.twin } u))
    ∧ (s.rd F.TW_STAT_EJECT 0 = 0 → Does .ejectDebounced s fun u => Only [] s u)
    ∧ (¬live → s.rd F.TW_STAT_EJECT 0 = 1 → Does .ejectDebounced s fun u => Told 0xD 4 s u ∧ u.twin.asked = false ∧ Only [] { s with twin := u.twin } u)
    ∧ ((st ≠ 3 → Does (.twJoin m 2) s fun u => Refuses m 5 0x2030 s u)
      ∧ (st = 3 → Does (.twJoin m 2) s fun u => u.out.err = some 0 ∧ (s.twin.fresh = false → u.twin.join = true ∧ Only [] { s with twin := u.twin } u)
          ∧ (s.twin.fresh = true → u.twSt = 4 ∨ u.twSt = 5 ∨ u.twSt = 9)))
    ∧ ((¬(st = 8 ∨ st = 9) ∨ ¬hb → Does (.twRejoin m 4) s fun u => Refuses m 5 0x2030 s u)
      ∧ ((st = 8 ∨ st = 9) → hb → Does (.twRejoin m 4) s fun u => u.out.err = some 0 ∧ u.twSt ≠ 8 ∧ (s.twin.fresh = false → u.twSt = 3)))
    ∧ (¬hb → (Does .leaveReq s fun u => Only [] s u) ∧ (Does .lendReq s fun u => Only [] s u) ∧ (Does .twinLendStop s fun u => Only [] s u))
    ∧ (hb → st ≠ 5 → Does .leaveReq s (naks 1))
    ∧ (hb → st = 5 → s.safe = true ∨ s.rd F.SEQ_STAT_LATCHED 0 = 1 → Does .leaveReq s (naks 2))
    ∧ (hb → live → s.rd F.SEQ_STAT_LATCHED 0 = 0 → ¬carries → Does .leaveReq s (naks 3))
    ∧ (hb → live → s.rd F.SEQ_STAT_LATCHED 0 = 0 → carries → ¬isB → s.twin.asked = true → Does .leaveReq s (naks 4))
    ∧ (hb → live → s.rd F.SEQ_STAT_LATCHED 0 = 0 → carries → isB ∨ s.twin.asked = false → Does .leaveReq s fun u => u.twin.acked = true ∧ u.twin.asked = false
        ∧ (s.twin.asked = true → Told 0xD 4 s u) ∧ u.twin.boundary ≠ none ∧ tells (2, u.twin.boundary.getD 0) u ∧ Only [] { s with twin := u.twin, free := u.free } u)
    ∧ ((s.twin.asked = true ∧ st = 5) → Does (.leaveAck n) s fun u => (u.twSt = 7 ∨ u.twSt = 8)
        ∧ (u.twSt = 8 ↔ ∀ k : Fin 8, usedSlot s.cf k.val = true → bitOf s.closed k.val = false) ∧ u.twin.boundary = some n.toNat ∧ u.twin.asked = false ∧ u.closed = s.closed)
    ∧ ((s.twin.asked = false ∨ st ≠ 5) → Does (.leaveAck n) s fun u => Only [] s u)
    ∧ (s.twin.asked = true → Does (.leaveNak b) s fun u => u.twin.asked = false ∧ Told 0xD 4 s u ∧ u.rd F.TW_STAT_SAFE_TO_PULL 0 = s.rd F.TW_STAT_SAFE_TO_PULL 0
        ∧ Only [] { s with twin := u.twin } u)
    ∧ (s.twin.asked = false → Does (.leaveNak b) s fun u => Only [] s u)
    ∧ (s.twin.boundary = none → Does .leaveBoundary s fun u => Only [] s u)
    ∧ (∀ ahead : Fin 1000, 1 ≤ ahead.val → s.twin.boundary = some ((s.strokes + ahead.val) % 2 ^ 32) → Does .leaveBoundary s fun u => Only [] s u)
    ∧ (s.twin.boundary = some (s.strokes % 2 ^ 32) → Does .leaveBoundary s fun u => u.twin.boundary = none ∧ u.closed = s.closed
        ∧ (st = 7 → u.rd F.TW_STAT_TIME_REF 0 = 0 ∧ (∀ k : Fin 8, bitOf u.twin.ramp k.val = (bitOf s.twin.ramp k.val || (usedSlot s.cf k.val && bitOf s.closed k.val)))
            ∧ ((∀ k : Fin 8, usedSlot s.cf k.val = false ∨ bitOf s.closed k.val = false) → u.twSt = 8))
        ∧ (st ≠ 7 → s.twin.acked = true → u.rd F.TW_STAT_TIME_REF 0 = 1 ∧ u.twSt = st))
    ∧ (hb → s.power.st ≠ .hold ∨ s.well.lend = true → Does .lendReq s fun u => Only [] s u)
    ∧ (hb → s.well.lend = true → Does .twinLendStop s fun u => u.well.lend = false ∧ Told 0xB 0xE s u)
    ∧ (hb → s.power.st = .hold → s.well.lend = false → Does .lendReq s fun u =>
        u.well.lend = !(((holdSum (fun f i => s.cf f i)).add ⟨s.cf F.WELL_LEND_I_LEND 0 * 50 * (s.cf F.WELL_CFG_VREG 0 * 10), 1⟩).gt ⟨200000000, 1⟩))
    ∧ (let auto := s.cf F.TW_CFG_AUTO_LEND 0 = 1 ∧ s.cf F.TW_CFG_EN 0 = 1 ∧ s.rd F.TW_STAT_PRESENT 0 = 1 ∧ ¬hb ∧ s.power.st = .hold ∧ s.well.lend = false
       (¬auto → Does .autoLendWaitEnd s fun u => Only [] s u)
       ∧ (auto → Does .autoLendWaitEnd s fun u =>
           u.well.lend = !(((holdSum (fun f i => s.cf f i)).add ⟨s.cf F.WELL_LEND_I_LEND 0 * 50 * (s.cf F.WELL_CFG_VREG 0 * 10), 1⟩).gt ⟨200000000, 1⟩)))

/-- From R359, R365 to R369, R372, R375: frames and mirror passes. Outside OFF a device sends a frame after each other, with the next
sequence, the next chunk of the mirror that it held as the pass began, and the first message that repeats. A frame that this model's
device `p` would send is read as what `p` holds; a broken one is counted. A whole mirror pass is judged in CHECK slot by slot; a new
commit sequence brings CONFLICT and LEFT back to CHECK. It rests on readings of the model, not of the spec alone, where log 34 says so. -/
def Obligations.FramesAndMirrors : Prop :=
  ∀ (s p : State) (q arg : Byte) (msg : Fin 6) (chunk : Fin 40) (k : Fin 8), s.on = true → p.twSt < 16 → p.closed < 256 → p.rd F.TW_I_OWN k.val < 65536 →
    p.rd F.TW_STAT_ROLE 0 ≤ 1 → p.rd F.TW_STAT_TIME_REF 0 ≤ 1 → p.rd F.PE_STAT_MATE 0 ≤ 1 → p.twin.pass.length = 200 →
    let st := s.twSt
    let body := p.frameBody q.toNat msg.val arg.toNat chunk.val
    let frame := body ++ bytes 4 (crc32c body)
    let put := p.sendFrame
    let news := p.twin.msgs.filter (fun x => x.1 != 1 || p.twin.asked)
    let out := ({ p with twin := { p.twin with pass := if p.twin.txChunk = 0 then p.mirrorBytes else p.twin.pass } } : State).frameBody p.twin.txSeq
      ((news.head?.map fun x => x.1).getD 0) ((news.head?.map fun x => x.2.1).getD 0) p.twin.txChunk
    let quiet := fun (u : State) => u.act = s.act ∧ u.stag = s.stag ∧ u.power = s.power ∧ u.seq = s.seq ∧ u.stages = s.stages ∧ u.feeds = s.feeds ∧ u.well = s.well
    let m := (List.range 40).flatMap (fun i => s.twin.chunks.at i)
    let whole := s.rd F.TW_STAT_HB 0 = 1 ∧ m.length = 200 ∧ mirAt m 196 4 = crc32c (m.take 196)
    let same := ∀ j : Fin 8, slotDiffers (entryOf s.cf j.val) (mirEntry m 24 j.val) = false
    let far := fun (u : State) => s.locked = true ∧ mirAt m 157 1 % 8 = 2 ∧ s.cf F.TW_CFG_ANG_TOL 0 * 16 < (ofField 16 (u.rd F.TW_CHECK_ANG_DIFF 0)).natAbs
    let agrees := fun (u : State) => same ∧ ¬far u ∧ (s.twin.pRole = true ↔ s.rd F.TW_STAT_ROLE 0 = 0)
    let swapped := s.twin.mirror ≠ none ∧ mirAt s.pMirror 4 2 ≠ mirAt m 4 2
    let lends := bitOf (mirAt m 156 1) 1 = true
    let soc := s.rd F.EST_STAT_SOC 0
    let level := 2 * s.cf F.TW_CFG_LEND_SOC 0
    (∀ f, Does (.twinFrame f true) s fun u => u.rd F.TW_LINK_CODE_ERR 0 = min (2 ^ F.TW_LINK_CODE_ERR.width - 1) (s.rd F.TW_LINK_CODE_ERR 0 + 1)
        ∧ Only [F.TW_LINK_CODE_ERR.key 0] s u)
    ∧ (∀ f : List Byte, f.length ≠ 39 ∨ mirAt f 35 4 ≠ crc32c (f.take 35) → Does (.twinFrame f false) s fun u =>
        u.rd F.TW_LINK_CRC_ERR 0 = min (2 ^ F.TW_LINK_CRC_ERR.width - 1) (s.rd F.TW_LINK_CRC_ERR 0 + 1)
        ∧ u.twin.crcSince = s.twin.crcSince + 1 ∧ Only [F.TW_LINK_CRC_ERR.key 0] { s with twin := u.twin } u)
    ∧ Does (.twinFrame frame false) s (fun u => u.rd F.TW_PARTNER_STATE 0 = p.twSt ∧ u.twin.pRole = p.flag F.TW_STAT_ROLE 0 ∧ u.twin.pClosed = p.closed
        ∧ u.rd F.TW_I_PARTNER k.val = p.rd F.TW_I_OWN k.val ∧ u.rd F.TW_STAT_PARTNER_LEFT 0 = (if p.twSt = 8 then 1 else 0)
        ∧ u.twin.chunks.at chunk.val = (p.twin.pass.drop (5 * chunk.val)).take 5 ∧ quiet u ∧ u.tb = s.tb ∧ u.closed = s.closed
        ∧ (st = 5 → p.twSt = 8 → u.twSt = 1 ∧ u.rd F.TW_STAT_TIME_REF 0 = 1) ∧ (st ≠ 4 → st ≠ 5 ∨ p.twSt ≠ 8 → u.twSt = st))
    ∧ (p.twSt = 0 → put = p)
    ∧ (p.twSt ≠ 0 → put.out.frame = out ++ bytes 4 (crc32c out) ∧ put.twin.txSeq = (p.twin.txSeq + 1) % 256 ∧ put.twin.txChunk = (p.twin.txChunk + 1) % 40
        ∧ (p.twin.txChunk = 0 → put.twin.pass = p.mirrorBytes)
        ∧ (∀ c a n, news.head? = some (c, a, n) → put.twin.msgs = (if 1 < n then (c, a, n - 1) :: news.drop 1 else news.drop 1) ∧ (c = 1 → n ≤ 1 → put.twin.asked = false)))
    ∧ (¬whole → Does .mirrorPass s fun u => u.twin.chunks = {} ∧ u.twin.mirror = s.twin.mirror ∧ Only [] { s with twin := u.twin } u)
    ∧ (whole → Does .mirrorPass s fun u => u.twin.mirror = some m ∧ u.rd F.TW_PARTNER_CRC_CRC 0 = mirAt m 0 4 ∧ u.rd F.TW_PARTNER_PSTATE 0 = mirAt m 7 1
        ∧ u.rd F.TW_PARTNER_SOC 0 = mirAt m 155 1 ∧ u.rd F.TW_PARTNER_FLAGS 0 = mirAt m 156 1 ∧ quiet u ∧ u.closed = s.closed
        ∧ (s.power.st = .hold → soc ≠ 0xFF → soc < level → ¬lends → u.out.twin = if st = 0 then [] else [(4, 0)]) ∧ (soc ≠ 0xFF → level ≤ soc → lends → u.out.twin = if st = 0 then [] else [(5, 0)])
        ∧ (soc = 0xFF ∨ (s.power.st ≠ .hold ∧ ¬lends) → u.out.twin = [])
        ∧ (∀ t40 own, s.twin.pTime = some (t40, own) →
            let base := mirAt m 8 8
            let d : Int := base + ofField 40 ((t40 + 2 ^ 40 - base % 2 ^ 40) % 2 ^ 40) - own
            u.twin.cntDiff = (d + 0x8000) / 0x10000 ∧ u.rd F.TW_CHECK_ANG_DIFF 0 = toField 16 (d - (d + 0x8000) / 0x10000 * 0x10000))
        ∧ (st = 3 → bitOf (u.rd F.TW_CHECK_DISAGREE 0) k.val = slotDiffers (entryOf s.cf k.val) (mirEntry m 24 k.val))
        ∧ (st = 3 → ¬agrees u → u.twSt = 9 ∧ (far u → u.rd F.FB_STAT_LAST 0xD = 9) ∧ (¬far u → Told 0xD 3 s u))
        ∧ (st = 3 → agrees u → s.cf F.TW_CFG_AUTO_JOIN 0 = 1 ∨ s.twin.join = true → (u.twSt = 4 ∨ u.twSt = 5))
        ∧ (st = 3 → u.rd F.TW_STAT_TIME_REF 0 = (if s.twin.based = s.twin.pBased then 1 - s.rd F.TW_STAT_ROLE 0 else if s.twin.based = true then 1 else 0)
            ∧ (u.rd F.TW_STAT_TIME_REF 0 = 0 → u.twin.cntDiff ≠ 0 → u.tb.stepPend = some (u.twin.cntDiff, 2)))
        ∧ (st = 3 → agrees u → s.cf F.TW_CFG_AUTO_JOIN 0 = 0 → s.twin.join = false → u.twSt = 3)
        ∧ ((st = 8 ∨ st = 9) → ¬swapped → u.twSt = st) ∧ (st = 8 → swapped → u.twSt ≠ 8)
        ∧ (st ≠ 3 → st ≠ 8 → st ≠ 9 → u.twSt = st))

/-- From R302, R386, R387, R392: doorbells. An accepted one moves HOST_POS and lets the ring fetch, within 8 descriptors,
Max_Read_Request_Size and the ring's end; a refused one is counted and leaves HOST_POS. From R388, R401, R404, R405: the states of the
rings, the link, D3hot and Bus Master Enable. No bank and no rail changes. It rests on readings of the model, not of the spec alone,
where log 9 and 32 say so. -/
def Obligations.RingsAndLink : Prop :=
  (∀ (s : State) (c : Fin 8) (q : Fin 16) (w : Word) (be : BitVec 4), s.on = true → s.rd F.RG_CFG_DEPTH_LOG2 c.val ≤ 12 → s.rd F.RG_CFG_DEPTH_LOG2 (8 + q.val) ≤ 12 →
     let keys := [F.HR_EVT_DB_REFUSED.key 0]
     let size := fun (r : Nat) => 2 ^ s.rd F.RG_CFG_DEPTH_LOG2 r
     let dist := fun (r a b : Nat) => (b + 2 * size r - a) % (2 * size r)
     let val := w.toNat
     let r := 8 + q.val
     let fits := fun (r : Nat) => val < 8192 ∧ be = 15 ∧ s.ringSt r = 1 ∧ val < 2 * size r
     let dev := s.devPos c.val
     let cmdOk := fits c.val ∧ dist c.val dev (s.hostPos c.val) ≤ dist c.val dev val ∧ dist c.val dev val ≤ size c.val
     let recOk := fits r ∧ dist r (s.hostPos r) val ≤ dist r (s.hostPos r) (s.devPos r)
     let refused := fun (u : State) => u.rd F.HR_EVT_DB_REFUSED 0 = min 255 (s.rd F.HR_EVT_DB_REFUSED 0 + 1) ∧ Told 0xE 7 s u ∧ u.out.fetch = [] ∧ Only keys s u
     let delays := s.pert.kindEnd.at 1 ≠ 0 ∧ bitOf (s.rd F.PT_DB_RING 0) c.val = true
     let idle := s.linkRuns = true ∧ s.ring.reading.at c.val = 0 ∧ bitOf s.pert.delayed c.val = false
     let n := fun (goal : Nat) => min (min (dist c.val dev goal) (size c.val - dev % size c.val)) (min 8 (2 ^ (2 + s.rd F.HR_STAT_MRRS 0)))
     let addr := s.rd F.RG_BASE_HI_BASE_HI c.val * 2 ^ 32 + s.rd F.RG_BASE_LO_BASE c.val * 64 + dev % size c.val * 32
     let fetches := fun (goal : Nat) (u : State) => u.out.fetch = [(c.val, addr, n goal * 32)] ∧ u.ring.reading.at c.val = n goal
     (cmdOk → Does (.cmdDoorbell c w be) s fun u => u.hostPos c.val = val ∧ u.devPos c.val = dev
         ∧ (delays → bitOf u.pert.delayed c.val = true ∧ u.out.fetch = [] ∧ Only [F.RG_HOST_HOST_POS.key c.val] { s with pert := u.pert } u)
         ∧ (¬delays → (idle → n val ≠ 0 → fetches val u) ∧ (¬idle ∨ n val = 0 → u.out.fetch = [])
             ∧ Only [F.RG_HOST_HOST_POS.key c.val] s { u with ring := { u.ring with reading := s.ring.reading } }))
     ∧ (¬cmdOk → Does (.cmdDoorbell c w be) s refused)
     ∧ (recOk → Does (.recDoorbell q w be) s fun u => u.hostPos r = val ∧ u.out.fetch = [] ∧ Only [F.RG_HOST_HOST_POS.key r] s u)
     ∧ (¬recOk → Does (.recDoorbell q w be) s refused)
     ∧ (bitOf s.pert.delayed c.val = false → Does (.doorbellDelayEnd c) s fun u => Only [] s u)
     ∧ (bitOf s.pert.delayed c.val = true → Does (.doorbellDelayEnd c) s fun u => bitOf u.pert.delayed c.val = false
         ∧ (s.ringSt c.val = 1 → s.linkRuns = true → s.ring.reading.at c.val = 0 → n (s.hostPos c.val) ≠ 0 → fetches (s.hostPos c.val) u)
         ∧ Only [] { s with pert := u.pert } { u with ring := { u.ring with reading := s.ring.reading } }))
  ∧ (∀ (s : State) (m : Master) (n : BitVec 5) (x : LinkCfg) (c : Fin 8), s.on = true → s.barred m = false →
       let r := n.toNat
       let st := s.ringSt r
       let quiet := fun (u : State) => u.act = s.act ∧ u.stag = s.stag ∧ u.power = s.power ∧ u.seq = s.seq ∧ u.stages = s.stages ∧ u.feeds = s.feeds
         ∧ u.well = s.well ∧ u.tb = s.tb ∧ u.twin = s.twin
       let off := fun (k : Nat) (u : State) => u.ringSt k = 0 ∧ u.rd F.RG_STAT_CAUSE k = 0 ∧ u.devPos k = 0 ∧ u.hostPos k = 0 ∧ u.ring.reading.at k = 0 ∧ u.ring.held.at k = []
       let dropped := fun (k : Nat) (u : State) => u.ring.queue.at k = [] ∧ (s.rd F.RG_EVT_DROPS k + (s.ring.queue.at k).length < 65536 →
         u.rd F.RG_EVT_DROPS k = s.rd F.RG_EVT_DROPS k + (s.ring.queue.at k).length)
       let halted := fun (k cause : Nat) (u : State) => u.ringSt k = 2 ∧ u.rd F.RG_STAT_CAUSE k = cause ∧ u.ring.reading.at k = 0
       let shallow := 8 ≤ r ∧ tooShallow (2 ^ s.rd F.RG_CFG_DEPTH_LOG2 r) (s.cf F.RG_DECL_RATE r) (s.cf F.RG_SVC_SVC r) = true
       let base := s.rd F.RG_BASE_LO_BASE r ≠ 0 ∨ s.rd F.RG_BASE_HI_BASE_HI r ≠ 0
       let bme := s.rd F.HR_STAT_BME 0 = 1
       let refused := fun (e : Nat) (u : State) => Refuses m e 0x2204 s u
       let up := s.rd F.HR_STAT_LINK 0 = 2
       let still := s.ring.held = {} ∧ s.ring.queue = {}
       (24 ≤ r → (Does (.ringEnable m n) s fun u => refused 1 u) ∧ (Does (.ringDisable m n) s fun u => refused 1 u))
       ∧ (r < 24 → (st ≠ 0 ∨ ¬bme → Does (.ringEnable m n) s fun u => refused 5 u)
           ∧ (st = 0 → bme → ¬base → Does (.ringEnable m n) s fun u => refused 1 u)
           ∧ (st = 0 → bme → base → shallow → Does (.ringEnable m n) s fun u => refused 7 u)
           ∧ (st = 0 → bme → base → ¬shallow → Does (.ringEnable m n) s fun u => u.out.err = some 0 ∧ u.ringSt r = 1 ∧ u.devPos r = 0 ∧ u.hostPos r = 0
               ∧ Only [F.RG_STAT_STATE.key r, F.RG_STAT_DEV_POS.key r, F.RG_HOST_HOST_POS.key r] s u)
           ∧ (st = 0 → Does (.ringDisable m n) s fun u => refused 5 u)
           ∧ (st ≠ 0 → Does (.ringDisable m n) s fun u => u.out.err = some 0 ∧ off r u ∧ (8 ≤ r → s.ring.held.at r = [] → dropped r u) ∧ quiet u
               ∧ (s.ring.held.at r).all (fun d => d.launch != 0 || u.ring.dispatched.contains d) = true ∧ s.ring.timed.all (u.ring.timed.contains ·) = true))
       ∧ (s.ring.reading.at c.val = 0 → Does (.dmaReadError c) s fun u => Only [] s u)
       ∧ (s.ring.reading.at c.val ≠ 0 → s.ringSt c.val = 1 → Does (.dmaReadError c) s fun u => halted c.val 2 u ∧ Told 0xE 6 s u ∧ u.devPos c.val = s.devPos c.val
           ∧ Only [F.RG_STAT_STATE.key c.val, F.RG_STAT_CAUSE.key c.val] s { u with ring := { u.ring with reading := s.ring.reading, dropDue := s.ring.dropDue } })
       ∧ (Does .busMasterCleared s fun u => u.rd F.HR_STAT_BME 0 = 0 ∧ quiet u ∧ (r < 24 → st = 1 → halted r 3 u ∧ u.devPos r = s.devPos r) ∧ (r < 24 → st ≠ 1 → u.ringSt r = st)
           ∧ (8 ≤ r → r < 24 → st = 1 → u.ring.queue.at r = []))
       ∧ (Does .linkDown s fun u => u.rd F.HR_STAT_LINK 0 = 0 ∧ u.rd F.HR_STAT_SPEED 0 = 0 ∧ (r < 24 → still → st ≠ 0 → off r u) ∧ quiet u ∧ (still → u.ring.timed = s.ring.timed)
           ∧ (s.pert.session = some .pcie → u.pert.session = none) ∧ (s.pert.session ≠ some .pcie → u.pert = s.pert)
           ∧ (up → u.rd F.HR_EVT_LINK_DOWN 0 = min 255 (s.rd F.HR_EVT_LINK_DOWN 0 + 1) ∧ Told 0xE 1 s u) ∧ (¬up → u.rd F.FB_STAT_EVENTS 0xE = s.rd F.FB_STAT_EVENTS 0xE))
       ∧ (∀ b, Does (.hotReset b) s fun u => u.rd F.HR_EVT_HOT_RESET 0 = min 255 (s.rd F.HR_EVT_HOT_RESET 0 + 1) ∧ (r < 24 → still → st ≠ 0 → off r u) ∧ quiet u
           ∧ u.rd F.HR_STAT_BME 0 = 0 ∧ u.rd F.HR_STAT_MSIX_EN 0 = 0 ∧ u.rd F.HR_STAT_D3HOT 0 = 0 ∧ u.rd F.HR_STAT_MPS 0 = 0 ∧ u.rd F.HR_STAT_MRRS 0 = 2
           ∧ (r < 24 → u.rd F.RG_BASE_LO_BASE r = 0 ∧ u.rd F.RG_BASE_HI_BASE_HI r = 0 ∧ u.rd F.RG_CFG_DEPTH_LOG2 r = 4 ∧ u.rd F.RG_CFG_SEQ_CHK r = 0)
           ∧ (b = true → u.rd F.HR_STAT_LINK 0 = s.rd F.HR_STAT_LINK 0) ∧ (b = false → u.rd F.HR_STAT_LINK 0 = 0) ∧ u.pert.session ≠ some .pcie)
       ∧ (bitOf (s.rd F.UNIT_STAT_ISLAND_OK 0) 8 = true → x.mps < 8 → x.mrrs < 8 → Does (.linkUp x) s fun u => u.rd F.HR_STAT_BME 0 = (if x.bme = true then 1 else 0)
           ∧ u.rd F.HR_STAT_MPS 0 = x.mps ∧ u.rd F.HR_STAT_MRRS 0 = x.mrrs ∧ (r < 24 → ¬up ∨ x.bme = true ∨ st ≠ 1 → u.ringSt r = st) ∧ quiet u ∧ u.rd F.HR_STAT_LINK 0 = 2
           ∧ (up → x.bme = false → r < 24 → st = 1 → halted r 3 u ∧ u.devPos r = s.devPos r)
           ∧ (up → (x.bme = true → u.due = []) ∧ u.rd F.HR_STAT_SPEED 0 = s.rd F.HR_STAT_SPEED 0)
           ∧ (¬up → x.gen2 = true → Told 0xE 2 s u ∧ u.rd F.HR_STAT_SPEED 0 = 2)
           ∧ (¬up → x.gen2 = false → u.rd F.HR_STAT_SPEED 0 = 1
               ∧ u.rd F.FB_STAT_LAST 0xE = (if 1250000 < s.rd F.HR_RATE_TOTAL 0 ∧ s.ring.rateSaid = false then 9 else 8)))
       ∧ (bitOf (s.rd F.UNIT_STAT_ISLAND_OK 0) 8 = false → Does (.linkUp x) s fun u => Only [] s u)
       ∧ ((up → Does .d3hotEntry s fun u => u.rd F.HR_STAT_D3HOT 0 = 1 ∧ u.linkRuns = false ∧ Only [F.HR_STAT_D3HOT.key 0] s u) ∧ (¬up → Does .d3hotEntry s fun u => Only [] s u))
       ∧ (s.rd F.HR_STAT_D3HOT 0 = 1 → Does .d0Entry s fun u => u.rd F.HR_STAT_D3HOT 0 = 0 ∧ (r < 24 → u.ringSt r = st)
           ∧ Only [F.HR_STAT_D3HOT.key 0] s { u with ring := { u.ring with reading := s.ring.reading } }
           ∧ (s.ringSt c.val = 1 → up → bme → s.ring.reading.at c.val = 0 → bitOf s.pert.delayed c.val = false → s.posDiff c.val (s.devPos c.val) (s.hostPos c.val) ≠ 0 →
               u.ring.reading.at c.val ≠ 0)))

/-- From R289, R382, R383: MSI-X. Message Control enables or masks; a write of BAR2 sets a double word of the table, whose Vector Control
masks or unmasks its vector, and nothing elsewhere. While MSI-X is enabled, the link up, in D0 and with Bus Master Enable set, what a
mask held pending goes once no mask holds it, and where MSI-X becomes enabled a message goes for each vector with a pending block. From
R399, R400, R302: one memory write of a record ring and its messages. It rests on readings of the model, not of the spec alone, where
log 9 and 32 say so. -/
def Obligations.RecordsWritten : Prop :=
  (∀ (s : State) (en fm : Bool) (v : Fin 32) (b : Fin 23) (k : Fin 3) (w : Word) (off : BitVec 12), s.on = true → s.ring.vecOpen < 2 ^ 32 → s.ring.vecPend < 2 ^ 32 →
     let sends := s.rd F.HR_STAT_LINK 0 = 2 ∧ s.rd F.HR_STAT_D3HOT 0 = 0 ∧ s.rd F.HR_STAT_BME 0 = 1
     let was := s.rd F.HR_STAT_MSIX_EN 0 = 1
     let masked := s.rd F.HR_STAT_MSIX_FMASK 0 = 1
     let held := bitOf s.ring.vecPend v.val = true
     let dues := fun (n : Fin 23) => s.cf F.FB_CFG_IRQ_EN n.val = 1 ∧ s.pend n.val = true ∧ s.cf F.FB_CFG_VEC n.val = v.val
     let starts := ¬was ∧ s.rd F.HR_STAT_MSIX_EN 0 = 0 ∧ s.cf F.FH_GCFG_IRQ_MODE 0 ≠ 1
     let opens := bitOf s.ring.vecOpen v.val = true
     let goes := fun (u : State) => u.out.msix.contains v.val = true ∧ bitOf u.ring.vecPend v.val = false
     let stays := fun (u : State) => u.out.msix.contains v.val = false ∧ bitOf u.ring.vecPend v.val = true
     let silent := fun (u : State) => u.out.msix = [] ∧ u.ring.vecPend = s.ring.vecPend
     let entry := fun (j : Nat) => BitVec.ofNat 12 (0x800 + 16 * v.val + 4 * j)
     let table := fun (u : State) => Only [] s { u with ring := { u.ring with vecOpen := s.ring.vecOpen, vecTab := s.ring.vecTab } }
     (Does (.msixEnabled en fm) s fun u => u.rd F.HR_STAT_MSIX_EN 0 = (if en = true then 1 else 0) ∧ u.rd F.HR_STAT_MSIX_FMASK 0 = (if fm = true then 1 else 0)
         ∧ (en = false ∨ ¬sends → silent u) ∧ (fm = true → u.out.msix = [])
         ∧ (en = true → sends → fm = false → opens → held ∨ (starts ∧ dues b) → goes u)
         ∧ (en = true → sends → fm = true ∨ ¬opens → held ∨ (starts ∧ dues b) → stays u)
         ∧ (¬held → (¬starts ∨ ∀ n : Fin 23, ¬dues n) → s.rd F.HR_STAT_MSIX_EN 0 ≤ 1 → u.out.msix.contains v.val = false ∧ bitOf u.ring.vecPend v.val = false)
         ∧ Only [F.HR_STAT_MSIX_EN.key 0, F.HR_STAT_MSIX_FMASK.key 0] s u)
     ∧ (Does (.msixVectorUnmasked (.functionMask fm)) s fun u => u.rd F.HR_STAT_MSIX_FMASK 0 = (if fm = true then 1 else 0) ∧ u.ring.vecOpen = s.ring.vecOpen
         ∧ (fm = true ∨ ¬was ∨ ¬sends → silent u) ∧ (fm = false → was → sends → held → (opens → goes u) ∧ (¬opens → stays u))
         ∧ Only [F.HR_STAT_MSIX_FMASK.key 0] s u)
     ∧ (Does (.msixVectorUnmasked (.bar2 (entry 3) w)) s fun u => bitOf u.ring.vecOpen v.val = decide (w.toNat % 2 = 0)
         ∧ (∀ n : Fin 32, n ≠ v → bitOf u.ring.vecOpen n.val = bitOf s.ring.vecOpen n.val) ∧ u.bar2Word (entry 3).toNat = w.toNat % 2 ∧ u.ring.vecTab = s.ring.vecTab
         ∧ (w.toNat % 2 = 1 ∨ ¬held ∨ masked ∨ ¬was ∨ ¬sends → silent u)
         ∧ (w.toNat % 2 = 0 → held → s.rd F.HR_STAT_MSIX_FMASK 0 = 0 → was → sends → u.out.msix = [v.val] ∧ bitOf u.ring.vecPend v.val = false)
         ∧ table u)
     ∧ (Does (.msixVectorUnmasked (.bar2 (entry k.val) w)) s fun u => u.bar2Word (entry k.val).toNat = w.toNat ∧ u.ring.vecOpen = s.ring.vecOpen
         ∧ (∀ j : Nat, j ≠ v.val * 4 + k.val → u.ring.vecTab.at j = s.ring.vecTab.at j) ∧ silent u ∧ table u)
     ∧ (off.toNat < 0x800 ∨ 0xA00 ≤ off.toNat → Does (.msixVectorUnmasked (.bar2 off w)) s fun u => silent u ∧ Only [] s u)
     ∧ s.bar2Word 0xC00 = s.ring.vecPend
     ∧ ((0x180 ≤ off.toNat ∧ off.toNat < 0x800) ∨ (0xA00 ≤ off.toNat ∧ off.toNat / 4 ≠ 0x300) → s.bar2Word off.toNat = 0))
  ∧ (∀ (s : State) (q : Fin 16), s.on = true → s.rd F.RG_CFG_DEPTH_LOG2 (8 + q.val) ≤ 12 →
       let r := 8 + q.val
       let size := 2 ^ s.rd F.RG_CFG_DEPTH_LOG2 r
       let dev := s.devPos r
       let waits := s.ring.queue.at r
       let free := size - (dev + 2 * size - s.hostPos r) % (2 * size)
       let n := min (min waits.length free) (min (size - dev % size) (2 ^ (2 + min 1 (s.rd F.HR_STAT_MPS 0))))
       let goes := s.ringSt r = 1 ∧ s.linkRuns = true ∧ s.heldBack q.val = false ∧ n ≠ 0
       let addr := s.rd F.RG_BASE_HI_BASE_HI r * 2 ^ 32 + s.rd F.RG_BASE_LO_BASE r * 64 + dev % size * 32
       let count := s.ring.irqCount.at r + n
       let lim := s.cf F.RG_IRQ_IRQ_CNT r
       let vec := s.cf F.RG_IRQ_VEC r
       let open_ := s.rd F.HR_STAT_MSIX_EN 0 = 1 ∧ s.rd F.HR_STAT_LINK 0 = 2 ∧ s.rd F.HR_STAT_D3HOT 0 = 0 ∧ s.rd F.HR_STAT_MSIX_FMASK 0 = 0 ∧ bitOf s.ring.vecOpen vec = true
       let due := s.linkRuns = true ∧ lim ≠ 0 ∧ s.cf F.RG_IRQ_IRQ_TIME r ≠ 0 ∧ s.ring.irqAt.at r ≠ 0
       (goes → Does (.recordDmaWrite q) s fun u => u.out.dma = [(addr, (waits.take n).flatMap (fun x => x.wire (decide (dev < size))))]
           ∧ u.ring.queue.at r = waits.drop n ∧ (dev < 2 * size → u.devPos r = (if dev + n = 2 * size then 0 else dev + n)) ∧ Only [F.RG_STAT_DEV_POS.key r] s { u with ring := { u.ring with irqCount := s.ring.irqCount, irqAt := s.ring.irqAt } }
           ∧ (lim = 0 ∨ count < lim → u.out.msix = [] ∧ u.ring.irqCount.at r = count)
           ∧ (lim ≠ 0 → lim ≤ count → u.ring.irqCount.at r = 0 ∧ u.ring.irqAt.at r = 0 ∧ (open_ → u.out.msix = [vec])))
       ∧ (¬goes → Does (.recordDmaWrite q) s fun u => u.out.dma = [] ∧ Only [] s u)
       ∧ (due → Does (.ringIrqTimeout q) s fun u => u.ring.irqCount.at r = 0 ∧ u.ring.irqAt.at r = 0 ∧ (open_ → u.out.msix = [vec])
           ∧ Only [] s { u with ring := { u.ring with irqCount := s.ring.irqCount, irqAt := s.ring.irqAt } })
       ∧ (¬due → Does (.ringIrqTimeout q) s fun u => u.out.msix = [] ∧ Only [] s u)
       ∧ (Does .recordBackPressureEnd s fun u => u.ring.bpHold = false ∧ u.heldBack q.val = false ∧ Only [] s { u with ring := { u.ring with bpHold := s.ring.bpHold } }))

/-- From R386, R390 to R395, R408: a descriptor, its bytes as the host writes them, from its arrival on: the checks in their order, and
where it goes when it passes. From R391 to R393: a descriptor that arrives whole on an ACTIVE ring with a read in flight, of the present
generation, with a valid CRC, a known opcode with the target and payload that R391 gives it, no reserved bit, no sequence check, no
FENCE and no launch time, is accepted outside SAFE where none is held before it: it goes to its executing block, and DEV_POS advances.
From R110, R242, R295, R329, R373, R391, R393 to R395, R405: what the commands do at their blocks. One whose check value has gone, or
that SAFE bars, has no effect but its completion; the others act as the steps and register commands of the same meaning do. A timed
command acts once its slot has come and its context launches have been granted; a swap whose time has come goes first (R74). From R391,
R393, R395: a command alone at its executing block, its check value whole and the device outside SAFE, takes effect where the rules of
its block accept it, and its completion record says so. NOP completes; STEP starts or stops a timer, changes the masked SIG outputs, or
acts as the step of its kind does; CTX_ARM arms a COMMAND context that is not armed and whose slot has room (R106, R110); POWER_STATE
leaves HOLD (R42, R324); CHIP_RESET starts its reset drain (R242); TWIN_LEAVE asks for a leave in LIVE (R373); LEND starts or stops a
lend in HOLD (R329). It rests on readings of the model, not of the spec alone, where log 19 and 32 say so. -/
def Obligations.CommandsExecute : Prop :=
  (∀ (s : State) (c : Fin 8) (op : Fin 10) (gen fence quiet : Bool) (rest : Fin 32) (seq : BitVec 16) (target : Fin 130) (launch : BitVec 64) (p : Word), s.on = true →
     s.rd F.RG_CFG_DEPTH_LOG2 c.val ≤ 12 →
     let size := 2 ^ s.rd F.RG_CFG_DEPTH_LOG2 c.val
     let dev := s.devPos c.val
     let n := s.ring.reading.at c.val
     let flags := b2n quiet + 2 * b2n fence + 4 * rest.val + 128 * b2n gen
     let body : List Byte := bytes 1 op.val ++ bytes 1 flags ++ bytes 2 seq.toNat ++ bytes 4 target.val ++ bytes 8 launch.toNat ++ bytes 12 p.toNat
     let i : Instr := .descriptorReceived c (body ++ bytes 4 (crc32c body))
     let d : Desc := { info := { ring := c, pos := dev, seq := seq.toNat, quiet }, op := op.val, fence, target := target.val, launch := launch.toNat, pay := bytes 12 p.toNat }
     let stays := fun (u : State) => u.ring.dispatched = s.ring.dispatched ∧ u.ring.timed = s.ring.timed ∧ u.ring.held = s.ring.held
     let same := fun (u : State) => { u with ring := { u.ring with reading := s.ring.reading, seqSet := s.ring.seqSet, dispatched := s.ring.dispatched, timed := s.ring.timed, held := s.ring.held } }
     let keys := [F.RG_STAT_DEV_POS.key c.val, F.RG_HOST_EXPECT_SEQ.key c.val, F.RG_EVT_DROPS.key c.val, F.TQ_STAT_PEAK.key 0]
     let went := fun (u : State) => (dev < 2 * size → u.devPos c.val = (if dev + 1 = 2 * size then 0 else dev + 1)) ∧ (1 < n → u.ring.reading.at c.val = n - 1)
     let drops := fun (u : State) => u.rd F.RG_EVT_DROPS c.val = min 65535 (s.rd F.RG_EVT_DROPS c.val + 1)
     let refused := fun (e : Nat) (u : State) => went u ∧ stays u ∧ drops u ∧ Completed d e 2 s u ∧ Only keys s (same u)
     let fits := s.rd F.RG_CFG_SEQ_CHK c.val = 0 ∨ bitOf s.ring.seqSet c.val = false ∨ s.rd F.RG_HOST_EXPECT_SEQ c.val = seq.toNat
     let known := 1 ≤ op.val ∧ op.val ≤ 7
     let args := argsOk op.val target.val (bytes 12 p.toNat) = true
     let t := launch.toNat
     let late := t ≠ 0 ∧ (s.tb.everLocked = false ∨ s.tb.now + 2 ^ 40 < t ∨ t < s.tb.now)
     let barred := s.safe = true ∧ safeRefuses op.val (bytes 12 p.toNat) = true
     let ready := n ≠ 0 ∧ s.ringSt c.val = 1
     let right := ready ∧ (gen = true ↔ dev < size)
     let waits := s.ring.held.at c.val ≠ [] ∨ (fence = true ∧ s.outstanding c.val = true)
     (¬ready → Does i s fun u => Only [] s u)
     ∧ (ready → ¬right → Does i s fun u => u.ringSt c.val = 2 ∧ u.rd F.RG_STAT_CAUSE c.val = 1 ∧ u.devPos c.val = dev ∧ Told 0xE 6 s u ∧ stays u ∧ u.ring.reading.at c.val = 0)
     ∧ (right → Does (.descriptorReceived c (body ++ bytes 4 (crc32c body + 1))) s fun u => went u ∧ stays u ∧ drops u ∧ Told 0xE 4 s u ∧ Completed d 9 2 s u
         ∧ u.rd F.RG_EVT_CRC_FAIL c.val = min 255 (s.rd F.RG_EVT_CRC_FAIL c.val + 1))
     ∧ (right → ¬known → Does i s fun u => refused 1 u)
     ∧ (right → known → rest ≠ 0 → Does i s fun u => refused 2 u)
     ∧ (right → known → rest = 0 → ¬fits ∨ ¬args → Does i s fun u => refused 1 u ∧ (s.rd F.RG_CFG_SEQ_CHK c.val = 1 → u.rd F.RG_HOST_EXPECT_SEQ c.val = (seq.toNat + 1) % 65536))
     ∧ (right → known → rest = 0 → fits → args → late → Does i s fun u => refused (if s.tb.everLocked = false then 5 else if s.tb.now + 2 ^ 40 < t then 1 else 6) u)
     ∧ (right → known → rest = 0 → fits → args → ¬late → barred → Does i s fun u => refused 5 u)
     ∧ (right → known → rest = 0 → fits → args → ¬late → ¬barred → Does i s fun u => went u ∧ Only keys s (same u)
         ∧ (waits → u.ring.held.at c.val = s.ring.held.at c.val ++ [d] ∧ u.ring.dispatched = s.ring.dispatched ∧ u.ring.timed = s.ring.timed)
         ∧ (¬waits → t = 0 ∨ op.val = 3 → u.ring.dispatched = s.ring.dispatched ++ [d] ∧ u.ring.timed = s.ring.timed ∧ u.ring.held = s.ring.held)
         ∧ (¬waits → t ≠ 0 → op.val ≠ 3 → s.ring.timed.length < 32 → u.ring.timed.length = s.ring.timed.length + 1 ∧ u.ring.timed.contains d = true
             ∧ u.ring.dispatched = s.ring.dispatched ∧ (quiet = false → Completed d 0 4 s u))
         ∧ (¬waits → t ≠ 0 → op.val ≠ 3 → 32 ≤ s.ring.timed.length → stays u ∧ drops u ∧ Completed d 4 3 s u)))
  ∧ (∀ (s : State) (c : Fin 8) (op : Fin 8) (quiet : Bool) (seq : BitVec 16) (target : CtxId) (p : Word), s.on = true → s.safe = false →
       let size := 2 ^ s.rd F.RG_CFG_DEPTH_LOG2 c.val
       let dev := s.devPos c.val
       let n := s.ring.reading.at c.val
       let on := if op = 3 then target.val else 0
       let body : List Byte := bytes 1 op.val ++ bytes 1 (b2n quiet + 128 * b2n (decide (dev < size))) ++ bytes 2 seq.toNat ++ bytes 4 on ++ bytes 8 0 ++ bytes 12 p.toNat
       let d : Desc := { info := { ring := c, pos := dev, seq := seq.toNat, quiet }, op := op.val, fence := false, target := on, launch := 0, pay := bytes 12 p.toNat }
       let fits := ((op = 1 ∨ op = 3 ∨ op = 6) → p.toNat = 0)
         ∧ (op = 2 → 1 ≤ stepKind p.toNat ∧ stepKind p.toNat ≤ 8 ∧ stepInRange p.toNat = true ∧ stepClean p.toNat = true)
         ∧ (op = 4 → p.toNat = 1 ∨ p.toNat = 2) ∧ (op = 5 → p.toNat = 0xC35A) ∧ (op = 7 → p.toNat = 0 ∨ p.toNat = 1)
       s.ringSt c.val = 1 → n ≠ 0 → dev < 2 * size → s.rd F.RG_CFG_SEQ_CHK c.val = 0 → s.ring.held.at c.val = [] → op ≠ 0 → fits →
         Does (.descriptorReceived c (body ++ bytes 4 (crc32c body))) s fun u => u.ring.dispatched = s.ring.dispatched ++ [d]
           ∧ u.devPos c.val = (if dev + 1 = 2 * size then 0 else dev + 1) ∧ u.ring.held = s.ring.held ∧ u.ring.timed = s.ring.timed
           ∧ Only [F.RG_STAT_DEV_POS.key c.val] s { u with ring := { u.ring with reading := s.ring.reading, dispatched := s.ring.dispatched } })
  ∧ (∀ (s : State) (c : Fin 8), s.on = true →
       let w := if s.commit.swapAt ≤ s.tb.now then commitSwap s else s
       (w.ring.timed = [] → Does (.timedCommandDue true) s fun u => Only [] w u)
       ∧ (∀ y, takeFirst (fun _ => true) w.ring.timed = some y →
           let due := slotUp y.1.launch ≤ w.tb.now ∧ (w.sched.served = true ∨ slotUp y.1.launch < w.tb.now / 256 * 256)
           (¬due → Does (.timedCommandDue true) s fun u => Only [] w u)
           ∧ (due → w.ring.held.at y.1.info.ring.val = [] →
             (Does (.timedCommandDue false) s fun u => u.ring.timed = y.2 ∧ Told 0xE 5 w u ∧ Completed y.1 9 3 w u)
             ∧ (y.1.op = 1 → Does (.timedCommandDue true) s fun u => u.ring.timed = y.2 ∧ Only [] { w with ring := { w.ring with timed := y.2 } } u
                 ∧ (y.1.info.quiet = false → Completed y.1 0 1 w u))
             ∧ (y.1.op = 2 → w.safe = false → stepKind (ofLeBytes y.1.pay) = 6 → Does (.timedCommandDue true) s fun u => u.ring.timed = y.2
                 ∧ u.sched.sig = (({ w with ring := { w.ring with timed := y.2 } }).stepAct (ofLeBytes y.1.pay)).2.sched.sig)))
       ∧ (takeFirst (fun d : Desc => d.info.ring == c) s.ring.dispatched = none → ∀ ok : Bool,
           Does (.cmdNop c ok) s (fun u => Only [] s u) ∧ Does (.cmdStep c ok) s (fun u => Only [] s u) ∧ Does (.cmdCtxArm c ok) s (fun u => Only [] s u)
           ∧ Does (.cmdPowerState c ok) s (fun u => Only [] s u) ∧ Does (.cmdChipReset c ok) s (fun u => Only [] s u) ∧ Does (.cmdTwinLeave c ok) s (fun u => Only [] s u)
           ∧ Does (.cmdLend c ok) s (fun u => Only [] s u))
       ∧ ∀ x, takeFirst (fun d : Desc => d.info.ring == c) s.ring.dispatched = some x →
       let d := x.1
       let r : State := { s with ring := { s.ring with dispatched := x.2 } }
       let p := ofLeBytes d.pay
       let free := s.ring.held.at c.val = []
       let drops := F.RG_EVT_DROPS.key c.val
       let refused := fun (e : Nat) (u : State) => free → Completed d e 3 s u ∧ u.rd F.RG_EVT_DROPS c.val = min 65535 (s.rd F.RG_EVT_DROPS c.val + 1) ∧ Only [drops] r u
       let gone := fun (u : State) => (free → Only [drops, F.HR_EVT_EXEC_CRC.key 0] r u ∧ Completed d 9 3 s u) ∧ Told 0xE 5 s u
         ∧ u.rd F.HR_EVT_EXEC_CRC 0 = min 255 (s.rd F.HR_EVT_EXEC_CRC 0 + 1)
       let barred := s.safe = true ∧ (safeRefuses d.op d.pay = true ∨ d.op = 5)
       let acts := fun (a : Nat × State) (u : State) => free →
         (a.1 ≠ 0 → u.rd F.RG_EVT_DROPS c.val = min 65535 (s.rd F.RG_EVT_DROPS c.val + 1)) ∧ u.act = a.2.act ∧ u.power = a.2.power ∧ u.seq = a.2.seq ∧ u.stages = a.2.stages ∧ u.well = a.2.well ∧ u.est = a.2.est ∧ u.twin = a.2.twin ∧ u.sched = a.2.sched
         ∧ u.meas = a.2.meas ∧ u.timers = a.2.timers ∧ u.cist = a.2.cist ∧ u.out.twin = a.2.out.twin
       (d.op ≠ 1 → Does (.cmdNop c true) s fun u => Only [] s u) ∧ (d.op ≠ 2 → Does (.cmdStep c true) s fun u => Only [] s u)
       ∧ (d.op = 1 → (Does (.cmdNop c false) s gone) ∧ (Does (.cmdNop c true) s fun u => free → Only [] r u ∧ (d.info.quiet = false → Completed d 0 1 s u)))
       ∧ (d.op = 2 → (Does (.cmdStep c false) s gone) ∧ (barred → Does (.cmdStep c true) s fun u => refused 5 u) ∧ (¬barred → Does (.cmdStep c true) s fun u => acts (r.stepAct p) u))
       ∧ (d.op = 3 → (Does (.cmdCtxArm c false) s gone) ∧ (barred → Does (.cmdCtxArm c true) s fun u => refused 5 u)
           ∧ (¬barred → Does (.cmdCtxArm c true) s fun u => acts (r.askArm d.target d.launch) u
               ∧ ((r.askArm d.target d.launch).1 = 0 → free → u.ctxSt d.target = 1 ∧ (u.ctx d.target).armAt = some d.launch)))
       ∧ (d.op = 4 → (Does (.cmdPowerState c false) s gone) ∧ (barred → Does (.cmdPowerState c true) s fun u => refused 5 u)
           ∧ (¬barred → Does (.cmdPowerState c true) s fun u => acts (r.askPowerState (p == 2)) u ∧ (s.power.st ≠ .hold → refused 5 u)))
       ∧ (d.op = 5 → (Does (.cmdChipReset c false) s gone) ∧ (barred → Does (.cmdChipReset c true) s fun u => refused 5 u)
           ∧ (¬barred → Does (.cmdChipReset c true) s fun u => (free → u.power.resetAfterDrain ≠ none) ∧ (s.power.resetAfterDrain ≠ none → free → Only [] r u)
               ∧ (free → s.power.resetAfterDrain = none → u.power.resetAfterDrain = some .host)))
       ∧ (d.op = 6 → (Does (.cmdTwinLeave c false) s gone) ∧ (Does (.cmdTwinLeave c true) s fun u => acts (r.askLeave false) u))
       ∧ (d.op = 7 → (Does (.cmdLend c false) s gone) ∧ (Does (.cmdLend c true) s fun u => acts (if p = 1 then r.askLendStart else r.askLendStop false) u)))
  ∧ (∀ (s : State) (d : Desc) (t : CtxId) (q : Rail), s.on = true → s.safe = false → s.ring.dispatched = [d] → s.ring.held.at d.info.ring.val = [] →
       let c := d.info.ring
       let r : State := { s with ring := { s.ring with dispatched := [] } }
       let p := ofLeBytes d.pay
       let done := fun (status : Nat) (u : State) => u.on = true → u.ring.dispatched = [] ∧ (d.info.quiet = false → CompletedFirst d 0 status s u)
       let n := bitsOf p 27 25
       let ho := s.rd F.WELL_STAT_HO 0
       let calm := s.draining = false ∧ s.power.afterCutoff = none ∧ ho ≠ 1 ∧ ho ≠ 2 ∧ ho ≠ 5 ∧ s.well.leadPend = false
       let goal := if p = 2 then PState.ship else PState.dormant
       let room := d.launch = 0 ∨ ((s.ctx t.val).prev.all (fun x => decide (x < slotUp d.launch)) = true ∧ s.slotLoad (slotUp d.launch) < 8)
       let partner := s.rd F.TW_PARTNER_STATE 0 = 5 ∧ bitOf (s.rd F.TW_PARTNER_FLAGS 0) 4 = false ∧ bitOf (s.rd F.TW_PARTNER_FLAGS 0) 5 = false
         ∧ s.rd F.TW_PARTNER_PSTATE 0 ≠ 4 ∧ ∀ k : Fin 8, usedSlot s.cf k.val = true → bitOf (mirAt s.pMirror 158 1) k.val = true
       let excess := ((holdSum (fun f i => s.cf f i)).add ⟨s.cf F.WELL_LEND_I_LEND 0 * 50 * (s.cf F.WELL_CFG_VREG 0 * 10), 1⟩).gt ⟨200000000, 1⟩
       (d.op = 1 → Does (.cmdNop c true) s fun u => done 1 u ∧ Only [] r u)
       ∧ (d.op = 2 → stepKind p = 5 → Does (.cmdStep c true) s fun u => done 1 u ∧ bitOf (u.rd F.TM_RUN_RUN 0) n = bitOf p 24)
       ∧ (d.op = 2 → stepKind p = 6 → s.sched.sig < 256 → Does (.cmdStep c true) s fun u => done 1 u ∧ Only [] { r with sched := u.sched } u
           ∧ ∀ b : Fin 8, bitOf u.sched.sig b.val = (if bitOf p (8 + b.val) then bitOf p b.val else bitOf s.sched.sig b.val))
       ∧ (d.op = 2 → (r.stepAct p).1 = 0 → Does (.cmdStep c true) s fun u => done 1 u
           ∧ u.act = (r.stepAct p).2.act ∧ u.seq = (r.stepAct p).2.seq ∧ u.stages = (r.stepAct p).2.stages ∧ u.cist = (r.stepAct p).2.cist
           ∧ u.well = (r.stepAct p).2.well ∧ u.meas = (r.stepAct p).2.meas ∧ u.sched = (r.stepAct p).2.sched ∧ u.timers = (r.stepAct p).2.timers)
       ∧ (d.op = 3 → d.target = t.val → s.ctxSt t.val ≠ 1 → s.ctxSt t.val ≠ 2 → s.ctxSt t.val ≠ 3 → s.mode t.val = 3 → s.con F.SCH_CTL_EN 0 = true → room →
           Does (.cmdCtxArm c true) s fun u => done 5 u ∧ u.ctxSt t.val = 1 ∧ u.ctx t.val = { s.ctx t.val with armAt := some d.launch, armedAt := s.tb.now }
             ∧ Only [F.CTX_STAT_STATE.key t.val] { r with sched := u.sched } u)
       ∧ (d.op = 4 → s.power.st = .hold → calm → (p = 1 ∨ p = 2) → Does (.cmdPowerState c true) s fun u => done 1 u ∧ u.well.lend = false
           ∧ (s.primed = 0 → s.busyOp = false → u.power.st = goal ∧ u.power.off = true)
           ∧ (s.stepOf q.val = 3 → s.busyOp = false → u.power.st = .hold ∧ u.power.afterCutoff = some goal))
       ∧ (d.op = 5 → s.power.resetAfterDrain = none → Does (.cmdChipReset c true) s fun u => done 1 u ∧ (u.on = true → u.power.resetAfterDrain = some .host)
           ∧ (s.stepOf q.val = 3 → s.cf F.SQ_CFG_STANDPIPE q.val = 0 → s.busyOp = false → s.seq.shedPend = false → u.on = true → drainingStep (u.stepOf q.val) = true))
       ∧ (d.op = 6 → s.twSt = 5 → partner → s.twin.acked = false → s.twin.asked = false → Does (.cmdTwinLeave c true) s fun u => done 1 u ∧ u.twin.asked = true
           ∧ u.twin.byEject = false ∧ u.out.twin = [(1, 0)] ∧ Only [] { r with twin := u.twin } u)
       ∧ (d.op = 7 → p = 1 → s.power.st = .hold → s.well.lend = false → excess = false → Does (.cmdLend c true) s fun u => done 1 u ∧ u.well.lend = true)
       ∧ (d.op = 7 → p = 0 → s.well.lend = true → Does (.cmdLend c true) s fun u => done 1 u ∧ u.well.lend = false ∧ Told 0xB 0xE s u))

/-- From R412 to R416, R419, R424: an edge starts or misses PIN runs, what a conversion does to the streams of its converter, which service
takes a slot, and that a sinc decimator's gain is 1 for a steady input. From R418, R424: the periodic open-wire check of an input. It
rests on readings of the model, not of the spec alone, where log 40 says so. -/
def Obligations.StreamsConvert : Prop :=
  (∀ (s : State) (up : Bool) (i : Fin 8) (at_ : ConvSlot) (code : BitVec 16) (asks : List Service) (dac : Fin 164) (level : Fin 65535) (sizes : List (Fin 64)),
     let data := s.power.off = false ∧ bitOf (s.rd F.UNIT_STAT_ISLAND_OK 0) 7 = true
     let mc : Fin 2 := ⟨i.val / 4, by omega⟩
     let slot := at_.slot
     let start := s.tb.now - at_.ago.val
     let x := s.strm i.val
     let trig := s.cf F.MS_CFG_TRIG i.val
     let avg := s.cf F.MS_FILT_AVG i.val
     let raw := s.cf F.MS_FILT_N i.val = 0
     let quiet := ∀ j : Fin 8, (s.strm j.val).run = false
     let block := (blkStreams s.cf).contains i.val = true
     let owns := s.ownerOf mc.val slot = some i.val ∧ trig = 1
     let value := min code.toNat 0xFFFE
     let regs := fun a => 0x2440 ≤ a && a < 0x24C0
     let conv : Bool → List Service → Instr := fun ow l => .adcConversionDone mc at_ code ow l
     let formed := fun (v : Nat) (u : State) => u.rd F.MS_RES_VALUE i.val = v ∧ u.rd F.MS_RES_COUNT i.val = (s.rd F.MS_RES_COUNT i.val + 1) % 65536
     let none' := fun (u : State) => u.rd F.MS_RES_VALUE i.val = s.rd F.MS_RES_VALUE i.val ∧ u.rd F.MS_RES_COUNT i.val = s.rd F.MS_RES_COUNT i.val
     let displaced := fun (u : State) => u.rd F.MS_STAT_DISPLACED i.val = min 65535 (s.rd F.MS_STAT_DISPLACED i.val + 1)
     let meas := fun (u : State) => Outside regs { s with meas := u.meas } u ∧ u.rest = { s with meas := u.meas }.rest
     let full := s.freeSlot 0 (slot / 16) = false ∧ s.freeSlot 1 (slot / 16) = false
     let svc := s.nextService mc.val (slot / 16) asks
     let sinc := fun (v : Nat) => if x.whole = true then { x with wins := (match x.wins with | [] => [[v]] | w :: ws => (v :: w) :: ws) } else x
     let rested := s.meas.lent.at mc.val = 0 ∨ s.meas.lent.at mc.val + 31 ≤ slot
     (s.rd F.MS_RES_COUNT i.val < 65536 → s.rd F.MS_RES_VALUE i.val < 65536 →
     ((¬data ∨ up = s.con F.MEAS_GCFG_TRIG_EDGE 0) → Does (.adcTrigEdge up) s fun u => Only [] { s with timers := { s.timers with adcTrig := up } } u)
     ∧ (data → up ≠ s.con F.MEAS_GCFG_TRIG_EDGE 0 → Does (.adcTrigEdge up) s fun u => u.timers = { s.timers with adcTrig := up } ∧ u.act = s.act ∧ u.stag = s.stag
         ∧ (trig = 2 → x.run = false → (u.strm i.val).run = true ∧ (u.strm i.val).left = s.cf F.MS_CFG_BLOCKS i.val * 8 ∧ (u.strm i.val).ch = none
             ∧ u.rd F.MS_RES_COUNT i.val = 0 ∧ u.rd F.MS_STAT_STATE i.val = (if raw then 2 else 3) ∧ u.rd F.MS_STAT_TRIG_MISSED i.val = s.rd F.MS_STAT_TRIG_MISSED i.val)
         ∧ (trig = 2 → x.run = true → u.strm i.val = x ∧ u.rd F.MS_STAT_TRIG_MISSED i.val = min 255 (s.rd F.MS_STAT_TRIG_MISSED i.val + 1)
             ∧ u.rd F.FB_STAT_LAST 0xF = 3)
         ∧ (trig ≠ 2 → u.strm i.val = x ∧ u.rd F.MS_STAT_TRIG_MISSED i.val = s.rd F.MS_STAT_TRIG_MISSED i.val)
         ∧ ((∀ j : Fin 8, s.cf F.MS_CFG_TRIG j.val = 2 → (s.strm j.val).run = false) → u.due = [])
         ∧ Outside (fun a => 0x2410 ≤ a && a < 0x24C0) s u)
     ∧ (s.on = true → ¬data → Does (conv up asks) s fun u => Only [] s u)
     ∧ (s.on = true → data → quiet → s.ownerOf mc.val slot = none → Does (conv up asks) s fun u => Only [] s u ∧ u.out.served = svc
         ∧ (Service.readback ∈ asks → u.out.served = some .readback)
         ∧ (asks = [.crossCheck, .openWire 3, .audit dac] → u.out.served = some (if dac.val % 2 = mc.val ∨ s.freeSlot (dac.val % 2) (slot / 16) = false
             then .audit dac else .openWire 3))
         ∧ (asks = [.crossCheck] → u.out.served = some .crossCheck) ∧ (asks = [] → u.out.served = none))
     ∧ (s.on = true → data → quiet → owns → ¬block → raw → avg = 0 → Does (conv false []) s fun u => formed value u ∧ u.meas = s.meas ∧ meas u)
     ∧ (s.on = true → data → quiet → owns → ¬block → raw → avg = 0 → Does (conv true []) s fun u => formed 0xFFFF u ∧ u.meas = s.meas ∧ meas u)
     ∧ (s.on = true → data → quiet → owns → ¬block → raw → 0 < avg → Does (conv true []) s fun u => Only [] s u)
     ∧ (s.on = true → data → quiet → owns → raw → 0 < avg → x.cnt < avg → Does (conv false []) s fun u => none' u ∧ meas u
         ∧ u.strm i.val = { x with sum := x.sum + value, cnt := x.cnt + 1, stamp := if x.cnt = 0 then start else x.stamp })
     ∧ (s.on = true → data → quiet → owns → ¬block → raw → 0 < avg → x.cnt = avg → Does (conv false []) s fun u =>
         formed (min 0xFFFE ((x.sum + value + 2 ^ s.cf F.MS_FILT_SHIFT i.val / 2) / 2 ^ s.cf F.MS_FILT_SHIFT i.val)) u ∧ u.strm i.val = { x with sum := 0, cnt := 0 } ∧ meas u)
     ∧ (s.on = true → data → quiet → owns → ¬raw → Does (conv up []) s fun u => none' u ∧ meas u ∧ u.strm i.val = sinc (if up = true then 0xFFFF else value))
     ∧ (1 ≤ sizes.length → sizes.length ≤ 4 → level.val ≤ sincValue sizes.length (sizes.map fun m => List.replicate (m.val + 1) level.val) + 1
         ∧ sincValue sizes.length (sizes.map fun m => List.replicate (m.val + 1) level.val) ≤ level.val + 1)
     ∧ (s.on = true → data → quiet → owns → full → rested → svc.isSome = true → ¬block → avg = 0 → Does (conv up asks) s fun u => displaced u ∧ u.out.served = svc
         ∧ u.rd F.MEAS_EVT_BORROWED 0 = min 65535 (s.rd F.MEAS_EVT_BORROWED 0 + 1) ∧ u.meas.lent.at mc.val = slot + 1
         ∧ (raw → formed 0xFFFF u) ∧ (¬raw → none' u ∧ u.strm i.val = sinc 0xFFFF) ∧ Outside (fun a => a == 0x2414 || regs a) { s with meas := u.meas } u)
     ∧ (s.on = true → data → quiet → owns → ¬(full ∧ rested) → ¬block → raw → avg = 0 → Does (conv false asks) s fun u => u.out.served = none ∧ formed value u ∧ u.meas = s.meas ∧ meas u)
     ∧ (s.on = true → data → 1 < trig → x.run = true → (∀ j : Fin 8, j ≠ i → (s.strm j.val).run = false) → x.first = none → 1 < x.left → ¬block → raw → avg = 0 →
         Does (conv false asks) s fun u => formed value u ∧ u.strm i.val = { x with first := some slot, left := x.left - 1 } ∧ meas u
           ∧ (∀ j : Fin 8, j ≠ i → s.ownerOf mc.val slot = some j.val → s.cf F.MS_CFG_TRIG j.val = 1 →
               u.rd F.MS_STAT_DISPLACED j.val = min 65535 (s.rd F.MS_STAT_DISPLACED j.val + 1))
           ∧ (∀ j : Fin 8, j ≠ i → ¬(s.ownerOf mc.val slot = some j.val ∧ s.cf F.MS_CFG_TRIG j.val = 1) →
               u.rd F.MS_STAT_DISPLACED j.val = s.rd F.MS_STAT_DISPLACED j.val ∧ u.strm j.val = s.strm j.val))
     ∧ (s.on = true → data → 1 < trig → x.run = true → (∀ j : Fin 8, j ≠ i → (s.strm j.val).run = false) → s.ownerOf mc.val slot = none → x.first = none → x.left ≤ 1 → ¬block → raw → avg = 0 →
         Does (conv false asks) s fun u => formed value u ∧ u.strm i.val = {} ∧ u.rd F.MS_STAT_STATE i.val = 1)
     ∧ (s.on = true → data → quiet → owns → raw → avg = 0 → blkStreams s.cf = [i.val] → s.meas.blk.length < 7 → Does (conv false []) s fun u => formed value u
         ∧ u.meas = { s.meas with blk := s.meas.blk ++ [(start, value)] } ∧ meas u)
     ∧ (s.on = true → data → quiet → owns → raw → avg = 0 → blkStreams s.cf = [i.val] → s.meas.blk.length = 7 → Does (conv false []) s fun u => formed value u
         ∧ u.meas = { s.meas with blk := [] } ∧ (∀ q : Fin 16, s.route 2 = some (8 + q.val) → s.ringSt (8 + q.val) = 1 → (s.ring.queue.at (8 + q.val)).length < 32 →
             ((u.ring.queue.at (8 + q.val)).getLast?.map fun r => (r.typ, r.src, r.time, r.pay)) = some (2, 0xF, (s.meas.blk.map (·.1)).headD 0,
               s.meas.blk.flatMap (fun o => bytes 2 o.2) ++ bytes 2 value)))))
  ∧ (∀ (s : State) (n : Fin 16) (up dn : Nat), s.on = true →
       let data := bitOf (s.rd F.UNIT_STAT_ISLAND_OK 0) 7 = true
       let periodic := s.cf F.MEAS_OW_MODE 0 / 4 ^ n.val % 4 = 3
       let used := ∃ j : Fin 8, (s.strm j.val).run = true ∧ (s.strm j.val).ch.getD (s.cf F.MS_CFG_CH j.val) = n.val
       let isOpen := (up - dn) * 3125 > s.cf F.MEAS_GCFG_OW_THR 0 * 1000000
       let was := bitOf (s.rd F.MEAS_STAT_OPEN 0) n.val = true
       let stat := F.MEAS_STAT_OPEN.key 0
       (¬data ∨ ¬periodic ∨ used ∨ (isOpen ↔ was) → Does (.openWireCheck n up dn) s fun u => Only [] s u)
       ∧ (data → periodic → ¬used → isOpen → ¬was → s.rd F.MEAS_STAT_OPEN 0 < 65536 → Does (.openWireCheck n up dn) s fun u => Told 0xF 1 s u
           ∧ u.rd F.MEAS_STAT_OPEN 0 = s.rd F.MEAS_STAT_OPEN 0 + 2 ^ n.val
           ∧ u.rd F.MEAS_EVT_OPEN_EVENTS 0 = min 255 (s.rd F.MEAS_EVT_OPEN_EVENTS 0 + 1) ∧ Only [stat, F.MEAS_EVT_OPEN_EVENTS.key 0] s u)
       ∧ (data → periodic → ¬used → ¬isOpen → was → s.rd F.MEAS_STAT_OPEN 0 < 65536 → Does (.openWireCheck n up dn) s fun u => Told 0xF 2 s u
           ∧ u.rd F.MEAS_STAT_OPEN 0 = s.rd F.MEAS_STAT_OPEN 0 - 2 ^ n.val ∧ Only [stat] s u))

/-- From R439, R441 to R443: the calibration port and the seal. Words are written in their ranges while the die is in CALIBRATION; once it
is SEALED every write is refused and counted, and nothing returns it to CALIBRATION. It rests on readings of the model, not of the spec
alone, where log 20 says so. -/
def Obligations.CalibrationSeals : Prop :=
  ∀ (s : State) (en supply : Bool) (p : Byte) (v : Word) (n : Fin 6) (k : Fin 64), s.met.written < 256 → s.met.calErr < 256 →
    let m := s.met
    let key := v.toNat
    let heard := en = true ∧ m.mvdd = true
    let stays := fun (u : State) => Only [] { s with met := u.met } u
    let answers := fun (e : Nat) (u : State) => u.met.calErr = e ∧ u.out.ack = some (decide (e = 0)) ∧ u.met.sealed = m.sealed ∧ u.met.live = m.live ∧ stays u
    let kept := fun (u : State) => u.met.words = m.words ∧ u.met.written = m.written
    let low := p.toNat = 0x3C ∨ m.calInRange p.toNat key = false
    let missing := m.written ≠ 0xFF
    let wrong := key % 65536 ≠ 0x5EA1 ∨ key / 65536 ≠ m.serial % 65536
    let w : Instr := .calPortWrite en p v supply
    let sl : Instr := .seal en v supply
    (¬heard → (Does w s fun u => u.met = { m with calEn := en } ∧ u.out.ack = none ∧ stays u) ∧ (Does sl s fun u => u.met = { m with calEn := en } ∧ stays u)
        ∧ (Does (.calPortRead en p n.val) s fun u => u.met = { m with calEn := en } ∧ u.out.cal = [] ∧ stays u))
    ∧ (heard → m.sealed = true → (Does w s fun u => answers 0xD u ∧ kept u ∧ u.met.events = min 4095 (m.events + 1) ∧ (s.on = true → Told 0x10 3 s u))
        ∧ (Does sl s fun u => answers 0xD u ∧ kept u ∧ u.met.events = min 4095 (m.events + 1) ∧ u.met.burning = m.burning))
    ∧ (heard → m.sealed = false → m.burning = true → (Does w s fun u => answers 4 u ∧ kept u) ∧ (Does sl s fun u => answers 4 u ∧ kept u ∧ u.met.burning = true))
    ∧ (heard → m.sealed = false → m.burning = false → low → p.toNat ≠ 0x3C → Does w s fun u => answers 1 u ∧ kept u)
    ∧ (heard → m.sealed = false → m.burning = false → ¬low → Does w s fun u => answers 0 u ∧ u.met.word p.toNat = key
        ∧ (k.val * 4 ≠ p.toNat → u.met.word (k.val * 4) = m.word (k.val * 4)) ∧ (∀ b, calBit p.toNat = some b → bitOf u.met.written b = true))
    ∧ (heard → m.sealed = false → m.burning = false → missing → Does sl s fun u => answers 5 u ∧ u.met.burning = false ∧ kept u)
    ∧ (heard → m.sealed = false → m.burning = false → ¬missing → wrong → Does sl s fun u => answers 1 u ∧ u.met.burning = false ∧ kept u)
    ∧ (heard → m.sealed = false → m.burning = false → ¬missing → ¬wrong → supply = false → Does sl s fun u => answers 0xE u ∧ u.met.burning = false ∧ kept u)
    ∧ (heard → m.sealed = false → m.burning = false → ¬missing → ¬wrong → supply = true → Does sl s fun u => answers 0 u ∧ u.met.burning = true ∧ kept u)
    ∧ (heard → Does (.calPortRead en 0x40 1) s fun u => u.out.cal = [m.calErr * 2 ^ 24 + m.written * 2 ^ 16 + (if m.sealed = true then 2 else 1)] ∧ stays u)
    ∧ (heard → n.val ≤ 12 → Does (.calPortRead en 4 n.val) s fun u => u.out.cal.length = n.val ∧ (0 < n.val → u.out.cal.head? = some (m.word 4)) ∧ stays u)
    ∧ (m.burning = true → m.mvdd = true → Does .sealDone s fun u => u.met.sealed = true ∧ u.met.burning = false ∧ u.met.digestOk = true ∧ kept u ∧ u.met.live = m.live
        ∧ u.met.events = m.events ∧ stays u)
    ∧ ((m.burning = false ∨ m.mvdd = false) → Does .sealDone s fun u => Only [] s u)

/-- From R434 to R436, R438, R444 to R448, R450: metering, groups and the energy store. It rests on readings of the model, not of the spec
alone, where log 20 says so. -/
def Obligations.MeteringRuns : Prop :=
  ∀ (s : State) (x : MetSample) (ext : BitVec 64) (a b d : Bool), x.n ≠ 0 →
    let m := s.met
    let stays := fun (u : State) => Only [] { s with met := u.met } u
    let clamp := fun (c : Int) => max (-8808038) (min 8808038 c)
    let i : Int := (if bitOf (m.word 0x24) 0 = true then -1 else 1) * (ofField 32 (m.word 4) * (clamp x.i - ofField 32 (m.word 8)))
    let v : Int := ofField 32 (m.word 0xC) * (clamp x.v - ofField 32 (m.word 0x10))
    let energy : Int := v * i * ((m.word 0x20 * m.word 0x1C * x.n : Nat) : Int)
    let charge : Int := i * ((m.word 0x1C * x.n : Nat) : Int)
    let metered := fun (l : MetStore) => l.eImp = m.live.eImp + energy.toNat ∧ l.eExp = m.live.eExp + (-energy).toNat
      ∧ l.qImp = m.live.qImp + charge.toNat ∧ l.qExp = m.live.qExp + (-charge).toNat
    let excess := x.i ≠ clamp x.i ∨ x.v ≠ clamp x.v ∨ x.c ≠ clamp x.c
    let flags := b2n m.restart + 2 * b2n m.check + 4 * b2n m.ovl + 8 * b2n m.integrity
    let reached := fun (n : Nat) => m.strokeCadence = some n ∧ (if m.back = true then m.lastCount + n - 1 else m.lastCount) ≤ m.time / 65536 / n * n
    let due := m.strokeCadence = none ∨ reached 50 ∨ reached 60
    let stamp := if m.strokeCadence = none then ext.toNat else m.time
    let code := if m.strokeCadence = none ∧ m.timeOk = false then 0 else m.lock
    let restored := if a = true then m.newer else if b = true then m.older else {}
    let bad := a = false ∨ (m.sealed = true ∧ (m.cut = true ∨ d = false)) ∨ m.burning = true
    (m.mvdd = false → (Does (.metStoreSave a [x]) s fun u => Only [] s u) ∧ (Does (.metGroupBoundary ext [x]) s fun u => Only [] s u)
        ∧ (Does (.metCheckDisagree a) s fun u => Only [] s u))
    ∧ (m.mvdd = true → Does (.metStoreSave a [x]) s fun u => metered u.met.live ∧ u.met.newer = { u.met.live with num := m.newer.num + 1 } ∧ u.met.older = m.newer
        ∧ u.met.mvdd = !a ∧ (excess → u.met.ovl = true) ∧ (¬excess → u.met.ovl = m.ovl) ∧ (excess → m.ovl = false → s.on = true → u.rd F.FB_STAT_LAST 0x10 = 8) ∧ stays u
        ∧ (excess → m.ovl = false → s.on = true → u.met.check = m.check → Told 0x10 8 s u)
        ∧ u.met.check = (if m.excess x = true then decide (80000 ≤ m.apart + x.n) || m.check else !decide (80000 ≤ m.close + x.n) && m.check)
        ∧ (u.met.check = true → m.check = false → ¬excess → s.on = true → Told 0x10 4 s u)
        ∧ u.met.words = m.words ∧ u.met.sealed = m.sealed ∧ u.met.queue = m.queue)
    ∧ (m.mvdd = true → due → m.queue.length < 1024 → Does (.metGroupBoundary ext []) s fun u => u.met.queue = m.queue ++ [m.group stamp code] ∧ u.met.lastSeq = m.live.seq
        ∧ u.met.lastFlags = flags ∧ u.met.live = { m.live with seq := (m.live.seq + 3) % 65536 } ∧ u.met.restart = false ∧ u.met.ovl = false ∧ u.met.ext = none
        ∧ u.met.cadence = m.cadNext ∧ u.met.integrity = m.integrity ∧ u.met.check = m.check ∧ u.met.lastCount = m.time / 65536 + 1 ∧ u.met.back = false ∧ stays u)
    ∧ (m.mvdd = true → due → 1024 ≤ m.queue.length → Does (.metGroupBoundary ext []) s fun u => u.met.queue = m.queue.drop 1 ++ [m.group stamp code]
        ∧ u.rd F.MET_LINK_LOST 0 = min 255 (s.rd F.MET_LINK_LOST 0 + 1) ∧ (s.on = true → Told 0x10 6 s u) ∧ Only [F.MET_LINK_LOST.key 0] { s with met := u.met } u)
    ∧ (m.mvdd = true → ¬due → Does (.metGroupBoundary ext []) s fun u => Only [] s u)
    ∧ ((m.group stamp code).map (fun r => (r.typ, r.src, r.time, r.lock, r.seq)) = [(7, 16, stamp, code, m.live.seq % 65536), (7, 16, stamp, code, (m.live.seq + 1) % 65536),
          (7, 16, stamp, code, (m.live.seq + 2) % 65536)]
        ∧ (m.group stamp code).map (fun r => r.pay.length) = [16, 16, 16]
        ∧ ((m.group stamp code).map (·.pay)).head? = some (leBytes 8 (m.live.eImp / eUnit) ++ leBytes 8 (m.live.eExp / eUnit))
        ∧ (m.sealed = false → ((m.group stamp code).map (·.pay)).getLast? = some (List.replicate 16 0)))
    ∧ (s.power.metDie = false ∨ m.mvdd = true → Does (.mvddStart a b d) s fun u => Only [] s u)
    ∧ (s.power.metDie = true → m.mvdd = false → Does (.mvddStart a b d) s fun u => u.met.mvdd = true ∧ u.met.live = { restored with restarts := min 65535 (restored.restarts + 1) }
        ∧ u.met.restart = true ∧ (bad ↔ u.met.integrity = true) ∧ u.met.timeOk = false ∧ u.met.queue = [] ∧ u.met.check = false
        ∧ (m.burning = true → u.met.sealed = true ∧ u.met.burning = false ∧ u.met.digestOk = false ∧ u.met.cut = true) ∧ (m.burning = false → u.met.sealed = m.sealed)
        ∧ (m.sealed = false → m.burning = false → u.met.words = {} ∧ u.met.written = 0) ∧ (m.sealed = true → u.met.words = m.words)
        ∧ (u.met.sealed = true → u.met.digestOk = false → u.met.events = min 4095 (m.events + 1)) ∧ (u.met.sealed = false ∨ u.met.digestOk = true → u.met.events = m.events)
        ∧ (s.on = true → u.rd F.FB_STAT_LAST 0x10 = 9)
        ∧ (s.on = true → u.met.sealed = false ∨ u.met.digestOk = true → ¬bad → Told 0x10 9 s u)
        ∧ (s.on = true → s.rd F.ID_MET_FITTED 0 = 1 → u.met.sent = m.sent ++ [s.cf F.MET_CFG_PULSE_QTY 0 * 4 + s.cf F.MET_CFG_CADENCE 0])
        ∧ Only [] { s with met := u.met, free := u.free } u)
    ∧ (m.mvdd = true → Does (.metCheckDisagree a) s fun u => u.met = { m with check := a } ∧ (a = true → m.check = false → s.on = true → Told 0x10 4 s u)
        ∧ (a = false ∨ m.check = true → u.due = []) ∧ stays u)
    ∧ (Does .metTimeLoss s fun u => u.met = { m with timeOk := false } ∧ stays u)

/-- From R430 to R433, R443, R453: the channels between the dies. It rests on readings of the model, not of the spec alone, where log 20 and
27 say so. -/
def Obligations.MetrologyChannel : Prop :=
  ∀ (s : State) (bad : Option (List Byte)) (crcOk : Bool) (wide : Fin 3),
    let m := s.met
    let home := if wide.val = 0 then 0x2604 else if wide.val = 1 then 0x260C else 0x2610
    let stays := fun (u : State) => Only [] { s with met := u.met } u
    let hears := s.power.metDie = true ∧ m.mvdd = true ∧ s.on = true
    let fitted := s.rd F.ID_MET_FITTED 0 = 1
    let discards := fun (u : State) => u.rd F.MET_LINK_BAD_CMD 0 = min 255 (s.rd F.MET_LINK_BAD_CMD 0 + 1)
    let took := fun (u : State) => u.rd F.MET_STAT_LINK 0 = 1 ∧ u.met.lost = false ∧ (m.lost = true → Told 0x10 2 s u)
    let link := [F.MET_STAT_LINK.key 0]
    let data := bitOf (s.rd F.UNIT_STAT_ISLAND_OK 0) 7 = true
    (s.on = false ∨ s.rd F.MET_STAT_LINK 0 = 0 → Does .metLinkLoss s fun u => Only [] s u)
    ∧ (s.on = true → s.rd F.MET_STAT_LINK 0 = 1 → Does .metLinkLoss s fun u => u.rd F.MET_STAT_LINK 0 = 0 ∧ u.met = { m with lost := true } ∧ Told 0x10 1 s u
        ∧ u.rd F.MET_LINK_LOSSES 0 = min 255 (s.rd F.MET_LINK_LOSSES 0 + 1) ∧ Only (F.MET_LINK_LOSSES.key 0 :: link) { s with met := u.met } u)
    ∧ (s.on = true → Does .metProbeEnd s fun u => u.power = { s.power with metProbeDone := true } ∧ Only [] { s with power := u.power } u)
    ∧ (¬hears → Does (.metTime crcOk) s fun u => Only [] s u)
    ∧ (hears → (Does (.metTime false) s fun u => discards u ∧ Only [F.MET_LINK_BAD_CMD.key 0] s u)
        ∧ (Does (.metTime true) s fun u => u.met.time = s.tb.now / 65536 * 65536 ∧ u.met.lock = s.rd F.TB_STAT_LOCK 0 ∧ u.met.timeOk = true ∧ stays u
            ∧ u.met = { m with time := u.met.time, lock := u.met.lock, timeOk := true, lastCount := if m.timeOk = true then m.lastCount else s.tb.now / 65536, back := m.timeOk && (m.back || decide (s.tb.now / 65536 < m.time / 65536)) }))
    ∧ (m.sent = [] → Does (.metConfig crcOk) s fun u => Only [] s u)
    ∧ (m.sent ≠ [] → let v := m.sent.headD 0
        (s.power.metDie = false ∨ m.mvdd = false → Does (.metConfig crcOk) s fun u => u.met = { m with sent := m.sent.drop 1 } ∧ stays u)
        ∧ (s.power.metDie = true → m.mvdd = true → (Does (.metConfig false) s fun u => u.met = { m with sent := m.sent.drop 1 } ∧ discards u)
            ∧ (m.sealed = false → Does (.metConfig true) s fun u => u.met.cadNext = v % 4 ∧ u.met.pulse = v / 4 % 4 ∧ u.met.events = m.events ∧ stays u
                ∧ u.met = { m with sent := m.sent.drop 1, cadNext := v % 4, pulse := v / 4 % 4 })
            ∧ (m.sealed = true → v = m.pulse * 4 + m.cadNext → Does (.metConfig true) s fun u => u.met = { m with sent := m.sent.drop 1 } ∧ stays u)
            ∧ (m.sealed = true → v ≠ m.pulse * 4 + m.cadNext → Does (.metConfig true) s fun u => u.met = { m with sent := m.sent.drop 1, events := min 4095 (m.events + 1) }
                ∧ (s.on = true → Told 0x10 3 s u) ∧ stays u)))
    ∧ ((¬hears ∨ (¬fitted ∧ s.power.metProbeDone = true)) → Does (.metRead (BitVec.ofNat 14 home) crcOk []) s fun u => Only [] s u)
    ∧ (hears → fitted → (Does (.metRead (BitVec.ofNat 14 home) false []) s fun u => discards u ∧ Only [F.MET_LINK_BAD_CMD.key 0] s u)
        ∧ (Does (.metRead (BitVec.ofNat 14 home) true []) s fun u => took u ∧ u.act = s.act ∧ u.stag = s.stag ∧ Outside (fun a => 0x2604 ≤ a && a < 0x2614) s u
            ∧ (home = 0x2604 → u.rd F.MET_STAT_LIFE 0 = (if m.sealed = true then 2 else 1) ∧ u.rd F.MET_STAT_INTEGRITY 0 = (if m.integrity = true then 1 else 0)
                ∧ u.rd F.MET_STAT_CHECK 0 = (if m.check = true then 1 else 0) ∧ u.rd F.MET_STAT_OVER 0 = (if m.ovl = true then 1 else 0)
                ∧ u.rd F.MET_STAT_TIME_OK 0 = (if m.timeOk = true then 1 else 0) ∧ (m.queue.length ≤ 1024 → u.rd F.MET_STAT_QUEUED 0 = m.queue.length))
            ∧ (home = 0x260C → m.events ≤ 4095 → u.rd F.MET_SEAL_EVENTS 0 = m.events ∧ u.rd F.MET_SEAL_RESTARTS 0 = min 65535 m.live.restarts)
            ∧ (home = 0x2610 → m.lastSeq < 65536 → m.lastFlags < 16 → u.rd F.MET_LAST_SEQ 0 = m.lastSeq ∧ u.rd F.MET_LAST_FLAGS 0 = m.lastFlags)))
    ∧ (hears → ¬fitted → s.power.metProbeDone = false → Does (.metRead (BitVec.ofNat 14 home) true []) s fun u => u.rd F.ID_MET_FITTED 0 = 1 ∧ took u
        ∧ (m.cadNext < 4 → m.pulse < 4 → u.cf F.MET_CFG_CADENCE 0 = m.cadNext ∧ u.cf F.MET_CFG_PULSE_QTY 0 = m.pulse ∧ u.sf F.MET_CFG_CADENCE 0 = m.cadNext))
    ∧ (m.queue = [] ∨ (m.queue.head? ≠ some [] ∧ (¬hears ∨ ¬data)) → Does (.metRecordReceived bad) s fun u => Only [] s u)
    ∧ (∀ g, m.queue.head? = some g → ∀ x, g.head? = some x → hears → data →
        (Does (.metRecordReceived none) s fun u => took u ∧ u.met.queue = (if g.length = 1 then [] else [g.drop 1]) ++ m.queue.drop 1
            ∧ (∀ q : Fin 16, s.route 7 = some (8 + q.val) → s.ringSt (8 + q.val) = 1 → (s.ring.queue.at (8 + q.val)).length < 32 → (u.ring.queue.at (8 + q.val)).getLast? = some { x with raw := none })
            ∧ Only link { s with met := u.met } u)
        ∧ (Does (.metRecordReceived (some [1])) s fun u => u.met.queue = (if g.length = 1 then [] else [g.drop 1]) ++ m.queue.drop 1 ∧ Told 0x10 7 s u
            ∧ u.rd F.MET_LINK_CRC_ERR 0 = min 255 (s.rd F.MET_LINK_CRC_ERR 0 + 1)
            ∧ (∀ q : Fin 16, s.route 7 = some (8 + q.val) → s.ringSt (8 + q.val) = 1 → (s.ring.queue.at (8 + q.val)).length < 32 → (u.ring.queue.at (8 + q.val)).getLast? = some { x with raw := some [1] })
            ∧ Only [F.MET_LINK_CRC_ERR.key 0] { s with met := u.met } u))

/-- From R460: each master reads the calendar through its own shadow. From R454 to R456, R458, R459, R461: the crystal, the seconds and
their alarms, setting, halting and shifting the calendar. It rests on readings of the model, not of the spec alone, where log 35 says
so. -/
def Obligations.CalendarRuns : Prop :=
  (∀ (s : State) (m : Master),
     let now := s.calendar
     let kept := fun (x : Option Shadow) (u : State) => u.rtc = { s.rtc with shadows := u.rtc.shadows } ∧ u.rtc.shadows.at m.idx = x
       ∧ (∀ n : Master, n.idx ≠ m.idx → u.rtc.shadows.at n.idx = s.rtc.shadows.at n.idx) ∧ Only [] { s with rtc := u.rtc } u
     let gives := fun (v : Nat) (u : State) => u.out.err = some 0 ∧ u.out.rdata = some (BitVec.ofNat 32 v)
     (Does (.shadowExpiry m) s fun u => s.on = true → kept none u)
     ∧ (s.on = true → (Does (.rtcSubsecRead m) s fun u => gives (s.rd F.RTC_SUBSEC_SUBSEC 0) u ∧ kept (some now) u)
       ∧ (∀ x, s.rtc.shadows.at m.idx = some x → (Does (.rtcTimeRead m) s fun u => gives x.time u ∧ kept (some x) u) ∧ (Does (.rtcDateRead m) s fun u => gives x.date u ∧ kept none u))
       ∧ (s.rtc.shadows.at m.idx = none → (Does (.rtcTimeRead m) s fun u => gives (now.time + 2 ^ 31) u ∧ kept (some now) u)
         ∧ (Does (.rtcDateRead m) s fun u => gives (now.date + 2 ^ 31) u ∧ kept none u)))
     ∧ (s.rd F.RTC_TIME_SEC 0 < 64 → now.sub = s.rd F.RTC_SUBSEC_SUBSEC 0 ∧ now.time % 64 = s.rd F.RTC_TIME_SEC 0 ∧ now.date / 2 ^ 16 ≥ s.rd F.RTC_DATE_YEAR 0))
  ∧ (∀ (s : State) (m : Master) (day : Bool) (amt : BitVec 16) (a : Fin 24) (b c : Fin 60) (y : Fin 100) (mo : Fin 12) (d : Fin 31),
       let bad := s.rd F.RTC_STAT_XTAL_FAIL 0 = 1
       let halted := s.rd F.RTC_STAT_HALTED 0 = 1
       let left := ofField 16 (s.rd F.RTC_STAT_SHIFT_LEFT 0)
       let sec := s.rd F.RTC_TIME_SEC 0
       let min' := s.rd F.RTC_TIME_MIN 0
       let hour := s.rd F.RTC_TIME_HOUR 0
       let k := fun (f : Fld) => f.key 0
       let date := [k F.RTC_DATE_DAY, k F.RTC_DATE_MONTH, k F.RTC_DATE_YEAR, k F.RTC_TIME_WDAY]
       let sets := [k F.RTC_STAT_DISCONT, k F.RTC_SUBSEC_SUBSEC]
       let rtc := fun (u : State) => { s with rtc := u.rtc }
       let fires := fun (n : Nat) (u : State) => u.rd (if n = 0 then F.RTC_STAT_ALM0 else F.RTC_STAT_ALM1) 0 = 1
       let alarms := [k F.RTC_STAT_ALM0, k F.RTC_STAT_ALM1]
       let w := if day then y.val * 0x10000 + (mo.val + 1) * 0x100 + (d.val + 1) else a.val * 0x10000 + b.val * 0x100 + c.val
       let cal : Instr := .rtcCalendarWrite m day (BitVec.ofNat 32 w)
       let set : Instr := .haltSet m 0xA7000000
       let clr : Instr := .haltClr m 0xA7000000
       let sh : Instr := .rtcShift m (amt.setWidth 32)
       let long := s.rd F.RTC_DATE_DAY 0 > monthDays (s.rd F.RTC_DATE_YEAR 0) (s.rd F.RTC_DATE_MONTH 0)
       (bad → Does .xtalFail s fun u => Only [] s u)
       ∧ (¬bad → Does .xtalFail s fun u => u.rd F.RTC_STAT_XTAL_FAIL 0 = 1 ∧ u.rd F.RTC_STAT_DISCONT 0 = 1 ∧ (s.on = true → Told 0x11 1 s u)
           ∧ Only [k F.RTC_STAT_XTAL_FAIL, k F.RTC_STAT_DISCONT] s u)
       ∧ (¬bad → Does .xtalQualified s fun u => Only [] s u)
       ∧ (bad → Does .xtalQualified s fun u => u.rd F.RTC_STAT_XTAL_FAIL 0 = 0 ∧ u.rtc = { s.rtc with everXtal := true } ∧ Only [k F.RTC_STAT_XTAL_FAIL] (rtc u) u
           ∧ (s.rtc.everXtal = true → s.on = true → Told 0x11 7 s u) ∧ (s.rtc.everXtal = false → u.rd F.FB_STAT_EVENTS 0x11 = s.rd F.FB_STAT_EVENTS 0x11))
       ∧ (halted → Does .rtcSecond s fun u => Only [] s u)
       ∧ (¬halted → Does .rtcSecond s fun u => u.rd F.RTC_SUBSEC_SUBSEC 0 = min 32767 (s.rtc.past - 1) ∧ u.rtc = { s.rtc with past := s.rtc.past - 1 - 32767 }
           ∧ u.rd F.RTC_TIME_SEC 0 = (if sec < 59 then sec + 1 else 0)
           ∧ u.rd F.RTC_TIME_MIN 0 = (if sec < 59 then min' else if min' < 59 then min' + 1 else 0)
           ∧ u.rd F.RTC_TIME_HOUR 0 = (if sec < 59 ∨ min' < 59 then hour else if hour < 23 then hour + 1 else 0)
           ∧ (sec < 59 ∨ min' < 59 ∨ hour < 23 → ∀ f : Fld, f.key 0 ∈ date → u.rd f 0 = s.rd f 0)
           ∧ (59 ≤ sec → 59 ≤ min' → 23 ≤ hour → (s.rd F.RTC_DATE_DAY 0 < monthDays (s.rd F.RTC_DATE_YEAR 0) (s.rd F.RTC_DATE_MONTH 0) →
                 u.rd F.RTC_DATE_DAY 0 = s.rd F.RTC_DATE_DAY 0 + 1 ∧ u.rd F.RTC_DATE_MONTH 0 = s.rd F.RTC_DATE_MONTH 0 ∧ u.rd F.RTC_DATE_YEAR 0 = s.rd F.RTC_DATE_YEAR 0)
               ∧ (monthDays (s.rd F.RTC_DATE_YEAR 0) (s.rd F.RTC_DATE_MONTH 0) ≤ s.rd F.RTC_DATE_DAY 0 → s.rd F.RTC_DATE_YEAR 0 ≤ 99 →
                 u.rd F.RTC_DATE_DAY 0 = 1 ∧ u.rd F.RTC_DATE_MONTH 0 = (if s.rd F.RTC_DATE_MONTH 0 < 12 then s.rd F.RTC_DATE_MONTH 0 + 1 else 1)
                 ∧ u.rd F.RTC_DATE_YEAR 0 = (if s.rd F.RTC_DATE_MONTH 0 < 12 then s.rd F.RTC_DATE_YEAR 0 else (s.rd F.RTC_DATE_YEAR 0 + 1) % 100)
                 ∧ (12 ≤ s.rd F.RTC_DATE_MONTH 0 → s.rd F.RTC_DATE_YEAR 0 = 99 → u.rd F.RTC_STAT_TIME_VALID 0 = 0))
               ∧ u.rd F.RTC_TIME_WDAY 0 = weekday (u.rd F.RTC_DATE_YEAR 0) (u.rd F.RTC_DATE_MONTH 0) (u.rd F.RTC_DATE_DAY 0))
           ∧ (∀ n : Fin 2, s.rd F.ALM_CFG_EN n.val = 1 → s.rd F.ALM_CFG_MASK n.val = 63 → fires n.val u)
           ∧ (∀ n : Fin 2, s.rd F.ALM_CFG_EN n.val = 1 → s.rd F.ALM_CFG_MASK n.val = 62 → sec < 59 → (s.rd F.ALM_TIME_SEC n.val = sec + 1 → fires n.val u)
               ∧ (s.rd F.ALM_TIME_SEC n.val ≠ sec + 1 → (fires n.val u ↔ s.rd (if n.val = 0 then F.RTC_STAT_ALM0 else F.RTC_STAT_ALM1) 0 = 1)))
           ∧ (s.rd F.ALM_CFG_EN 0 ≠ 1 → s.rd F.ALM_CFG_EN 1 ≠ 1 → u.due = [] ∧ u.rd F.FB_STAT_EVENTS 0x11 = s.rd F.FB_STAT_EVENTS 0x11)
           ∧ (s.on = true → s.rd F.ALM_CFG_EN 0 = 1 → s.rd F.ALM_CFG_MASK 0 = 63 → s.rd F.ALM_CFG_EN 1 ≠ 1 → Told 0x11 2 s u)
           ∧ Only (date ++ alarms ++ [k F.RTC_SUBSEC_SUBSEC, k F.RTC_TIME_SEC, k F.RTC_TIME_MIN, k F.RTC_TIME_HOUR, k F.RTC_STAT_TIME_VALID]) (rtc u) u)
       ∧ (s.on = true → s.barred m = false → ¬halted → Does cal s fun u => Refuses m 5 (if day then 0x2818 else 0x2814) s u)
       ∧ (s.on = true → s.barred m = false → halted → Does cal s fun u => u.out.err = some 0 ∧ u.rd F.RTC_STAT_DISCONT 0 = 1 ∧ u.rd F.RTC_SUBSEC_SUBSEC 0 = 0 ∧ u.rtc.written = true
           ∧ u.rtc = { s.rtc with written := true, rest := 0, past := 0, withheld := 0 }
           ∧ (if day then u.rd F.RTC_DATE_DAY 0 = d.val + 1 ∧ u.rd F.RTC_DATE_MONTH 0 = mo.val + 1 ∧ u.rd F.RTC_DATE_YEAR 0 = y.val
               ∧ Only (k F.RTC_DATE_DAY :: k F.RTC_DATE_MONTH :: k F.RTC_DATE_YEAR :: sets) (rtc u) u
             else u.rd F.RTC_TIME_SEC 0 = c.val ∧ u.rd F.RTC_TIME_MIN 0 = b.val ∧ u.rd F.RTC_TIME_HOUR 0 = a.val
               ∧ Only (k F.RTC_TIME_SEC :: k F.RTC_TIME_MIN :: k F.RTC_TIME_HOUR :: sets) (rtc u) u))
       ∧ (s.on = true → halted → Does set s fun u => Refuses m 5 0x2800 s u)
       ∧ (s.on = true → ¬halted → Does set s fun u => u.out.err = some 0 ∧ u.rd F.RTC_STAT_HALTED 0 = 1 ∧ u.rd F.RTC_STAT_DISCONT 0 = 1 ∧ u.rd F.RTC_STAT_SHIFT_LEFT 0 = 0
           ∧ Told 0x11 4 s u ∧ u.rtc = { s.rtc with written := false } ∧ Only [k F.RTC_STAT_HALTED, k F.RTC_STAT_DISCONT, k F.RTC_STAT_SHIFT_LEFT] (rtc u) u)
       ∧ (s.on = true → ¬halted → Does clr s fun u => Refuses m 5 0x2800 s u)
       ∧ (s.on = true → halted → long → Does clr s fun u => Refuses m 1 0x2800 s u)
       ∧ (s.on = true → halted → ¬long → Does clr s fun u => u.out.err = some 0 ∧ u.rd F.RTC_STAT_HALTED 0 = 0
           ∧ u.rd F.RTC_TIME_WDAY 0 = weekday (s.rd F.RTC_DATE_YEAR 0) (s.rd F.RTC_DATE_MONTH 0) (s.rd F.RTC_DATE_DAY 0)
           ∧ (s.rtc.written = true → u.rd F.RTC_STAT_TIME_VALID 0 = 1 ∧ Told 0x11 5 s u) ∧ (s.rtc.written = false → u.rd F.RTC_STAT_TIME_VALID 0 = s.rd F.RTC_STAT_TIME_VALID 0)
           ∧ Only [k F.RTC_STAT_HALTED, k F.RTC_TIME_WDAY, k F.RTC_STAT_TIME_VALID] s u)
       ∧ (s.on = true → (Does (.haltSet m 0x12000000) s fun u => Refuses m 1 0x2800 s u) ∧ (Does (.haltClr m 0xA7000001) s fun u => Refuses m 1 0x2800 s u))
       ∧ (s.on = true → amt = 0 ∨ amt = 0x8000 → Does sh s fun u => Refuses m 1 0x280C s u)
       ∧ (s.on = true → amt ≠ 0 → amt ≠ 0x8000 → s.rd F.RTC_STAT_SHIFT_LEFT 0 ≠ 0 → Does sh s fun u => Refuses m 4 0x280C s u)
       ∧ (s.on = true → amt ≠ 0 → amt ≠ 0x8000 → s.rd F.RTC_STAT_SHIFT_LEFT 0 = 0 → halted → Does sh s fun u => Refuses m 5 0x280C s u)
       ∧ (s.on = true → amt ≠ 0 → amt ≠ 0x8000 → s.rd F.RTC_STAT_SHIFT_LEFT 0 = 0 → ¬halted → Does sh s fun u => u.out.err = some 0
           ∧ u.rd F.RTC_STAT_SHIFT_LEFT 0 = amt.toNat ∧ Only [k F.RTC_STAT_SHIFT_LEFT] (rtc u) u)
       ∧ (left = 0 → Does .shiftComplete s fun u => Only [] s u)
       ∧ (left ≠ 0 → s.rd F.RTC_SUBSEC_SUBSEC 0 < 32768 → Does .shiftComplete s fun u => u.rd F.RTC_STAT_SHIFT_LEFT 0 = 0 ∧ (s.on = true → Told 0x11 6 s u)
           ∧ (0 < left → u.rd F.RTC_SUBSEC_SUBSEC 0 = min 32767 (s.rd F.RTC_SUBSEC_SUBSEC 0 + left.toNat)
             ∧ u.rtc = { s.rtc with past := s.rtc.past + (s.rd F.RTC_SUBSEC_SUBSEC 0 + left.toNat - 32767) })
           ∧ (left < 0 → u.rd F.RTC_SUBSEC_SUBSEC 0 = s.rd F.RTC_SUBSEC_SUBSEC 0 ∧ u.rtc = { s.rtc with withheld := s.rtc.withheld + left.natAbs })
           ∧ Only [k F.RTC_STAT_SHIFT_LEFT, k F.RTC_SUBSEC_SUBSEC] (rtc u) u))

/-- From R465 to R467, R470: the timers start, stop, clear, load, wrap, match and capture. It rests on readings of the model, not of the
spec alone, where log 35 says so. -/
def Obligations.TimersRun : Prop :=
  ∀ (s : State) (m : Master) (t j : Fin 8) (go : BitVec 8) (up : Bool), s.on = true →
    let runs := fun (i : Nat) => bitOf (s.rd F.TM_RUN_RUN 0) i = true
    let cnt := s.rd F.TM_CNT_VALUE t.val
    let top := 0xFFFFFFFF - s.timers.top.at t.val
    let cmp := 0xFFFFFFFF - s.timers.cmp.at t.val
    let level := s.signal (s.cf F.TM_CFG_GATE_SEL t.val)
    let lvl := s.con F.TM_CFG_GATE_LVL t.val
    let counts := runs t.val ∧ (s.cf F.TM_CFG_CLK t.val = 5 ∨ s.con F.TM_CFG_GATE_EN t.val = false ∨ level = lvl)
    let once := s.con F.TM_CFG_ONESHOT t.val = true
    let evt := s.con F.TM_CFG_CMP_EVT t.val = true
    let loaded := fun (i : Nat) (u : State) => u.timers.top.at i = 0xFFFFFFFF - s.rd F.TM_TOP_VALUE i ∧ u.timers.cmp.at i = 0xFFFFFFFF - s.rd F.TM_CMP_VALUE i
    let same := fun (i : Nat) (u : State) => u.timers.top.at i = s.timers.top.at i ∧ u.timers.cmp.at i = s.timers.cmp.at i
    let act := fun (u : State) => { s with timers := { s.timers with top := u.timers.top, cmp := u.timers.cmp } }
    let k := fun (f : Fld) => f.key t.val
    let run := [F.TM_RUN_RUN.key 0]
    let cleared := fun (u : State) => u.rd F.TM_CNT_VALUE t.val = 0 ∧ Only [k F.TM_CNT_VALUE, k F.TM_STAT_CMP] s u
      ∧ (cnt ≠ 0 → cmp = 0 → u.rd F.TM_STAT_CMP t.val = 1 ∧ (evt → Told 0x12 1 s u))
      ∧ (cnt = 0 ∨ cmp ≠ 0 → u.due = [] ∧ u.rd F.TM_STAT_CMP t.val = s.rd F.TM_STAT_CMP t.val)
    let start : Instr := .timerStart m (go.setWidth 32)
    let stop : Instr := .timerStop m ((go.setWidth 32) * 256)
    let ctl := 0x2A5C + 0x20 * t.val
    (Does start s fun u => u.out.err = some 0
        ∧ (bitOf (u.rd F.TM_RUN_RUN 0) j.val = true ↔ runs j.val ∨ bitOf go.toNat j.val = true)
        ∧ (bitOf go.toNat j.val = true → ¬runs j.val → loaded j.val u) ∧ (bitOf go.toNat j.val = false ∨ runs j.val → same j.val u) ∧ Only run (act u) u)
    ∧ (Does stop s fun u => u.out.err = some 0 ∧ (bitOf (u.rd F.TM_RUN_RUN 0) j.val = true ↔ runs j.val ∧ bitOf go.toNat j.val = false) ∧ Only run s u)
    ∧ (go ≠ 0 → Does (.timerStart m ((go.setWidth 32) * 257)) s fun u => Refuses m 1 0x2A00 s u)
    ∧ ((Does (.timerClr m 5 0) s fun u => Refuses m 1 0x2AFC s u) ∧ (Does (.timerLoad m 5 0) s fun u => Refuses m 1 0x2AFC s u))
    ∧ (t ≠ 5 → Does (.timerClr m t 0) s fun u => u.out.err = some 0 ∧ cleared u)
    ∧ (Does (.timerClr m t 2) s fun u => Refuses m 1 ctl s u)
    ∧ (t ≠ 5 → runs t.val → Does (.timerLoad m t 0) s fun u => Refuses m 5 ctl s u)
    ∧ (t ≠ 5 → ¬runs t.val → Does (.timerLoad m t 0) s fun u => u.out.err = some 0 ∧ loaded t.val u ∧ (j ≠ t → same j.val u) ∧ Only [] (act u) u)
    ∧ (¬counts → (Does (.timerWrap t) s fun u => Only [] s u) ∧ (Does (.timerCompare t) s fun u => Only [] s u))
    ∧ (counts → once → cnt ≤ top → Does (.timerWrap t) s fun u => u.rd F.TM_STAT_WRAP t.val = 1 ∧ u.rd F.TM_CNT_VALUE t.val = top
        ∧ (bitOf (u.rd F.TM_RUN_RUN 0) j.val = true ↔ runs j.val ∧ j ≠ t)
        ∧ (cnt < cmp → cmp ≤ top → u.rd F.TM_STAT_CMP t.val = 1 ∧ (evt → Told 0x12 1 s u)) ∧ (cmp ≤ cnt ∨ top < cmp → u.due = [] ∧ u.rd F.TM_STAT_CMP t.val = s.rd F.TM_STAT_CMP t.val)
        ∧ Only (k F.TM_CNT_VALUE :: k F.TM_STAT_WRAP :: k F.TM_STAT_CMP :: run) s u)
    ∧ (counts → ¬once → cnt ≤ top → Does (.timerWrap t) s fun u => u.rd F.TM_STAT_WRAP t.val = 1 ∧ u.rd F.TM_CNT_VALUE t.val = 0 ∧ loaded t.val u ∧ (j ≠ t → same j.val u)
        ∧ ((cmp = 0 ∨ (cnt < cmp ∧ cmp ≤ top)) → u.rd F.TM_STAT_CMP t.val = 1 ∧ (evt → Told 0x12 1 s u))
        ∧ (0 < cmp → cmp ≤ cnt ∨ top < cmp → u.due = [] ∧ u.rd F.TM_STAT_CMP t.val = s.rd F.TM_STAT_CMP t.val)
        ∧ Only [k F.TM_CNT_VALUE, k F.TM_STAT_WRAP, k F.TM_STAT_CMP] (act u) u)
    ∧ (counts → cnt < cmp → cmp ≤ top → Does (.timerCompare t) s fun u => u.rd F.TM_CNT_VALUE t.val = cmp ∧ u.rd F.TM_STAT_CMP t.val = 1
        ∧ (evt → Told 0x12 1 s u) ∧ (¬evt → u.due = [] ∧ u.rd F.FB_STAT_EVENTS 0x12 = s.rd F.FB_STAT_EVENTS 0x12) ∧ Only [k F.TM_CNT_VALUE, k F.TM_STAT_CMP] s u)
    ∧ (cmp ≤ cnt ∨ top < cmp → Does (.timerCompare t) s fun u => Only [] s u)
    ∧ (s.cf F.TM_CFG_CAP_EDGE t.val = 0 → Does (.timerCapture t) s fun u => Only [] s u)
    ∧ (s.cf F.TM_CFG_CAP_EDGE t.val ≠ 0 → Does (.timerCapture t) s fun u => u.rd F.TM_CAPT_VALUE t.val = cnt % 2 ^ 32
        ∧ (cnt < 2 ^ 32 → u.rd F.TM_MAX_VALUE t.val = max cnt (s.rd F.TM_MAX_VALUE t.val)) ∧ u.rd F.TM_STAT_CAP t.val = 1
        ∧ u.rd F.TM_STAT_CAPS t.val = min 65535 (s.rd F.TM_STAT_CAPS t.val + 1) ∧ (s.rd F.TM_STAT_CAP t.val = 1 → u.rd F.TM_STAT_OVR t.val = 1 ∧ Told 0x12 2 s u)
        ∧ (s.rd F.TM_STAT_CAP t.val ≠ 1 → u.due = [] ∧ u.rd F.TM_STAT_OVR t.val = s.rd F.TM_STAT_OVR t.val)
        ∧ Only [k F.TM_CAPT_VALUE, k F.TM_MAX_VALUE, k F.TM_STAT_CAP, k F.TM_STAT_CAPS, k F.TM_STAT_OVR] s u)
    ∧ ((s.cf F.TM_CFG_CLK t.val ≠ 5 ∨ up = false ∨ ¬runs t.val) → s.con F.TM_CFG_CLR_GATE t.val = true → up = lvl → Does (.timerGateActive t up) s cleared)
    ∧ ((s.cf F.TM_CFG_CLK t.val ≠ 5 ∨ up = false ∨ ¬runs t.val) → s.con F.TM_CFG_CLR_GATE t.val = false ∨ up ≠ lvl → Does (.timerGateActive t up) s fun u => Only [] s u)
    ∧ (s.cf F.TM_CFG_CLK t.val = 5 → runs t.val → s.con F.TM_CFG_CLR_GATE t.val = false → cnt < top → Does (.timerGateActive t true) s fun u =>
        u.rd F.TM_CNT_VALUE t.val = cnt + 1 ∧ (cnt + 1 = cmp → u.rd F.TM_STAT_CMP t.val = 1) ∧ (cnt + 1 ≠ cmp → u.due = [] ∧ u.rd F.TM_STAT_CMP t.val = s.rd F.TM_STAT_CMP t.val)
        ∧ Only [k F.TM_CNT_VALUE, k F.TM_STAT_CMP] s u)

/-- From R475 to R482, R485, R487: the watchdog starts and stops, judges serves, expires slots and climbs the ladder. It rests on readings
of the model, not of the spec alone, where log 33 says so. -/
def Obligations.WatchdogActs : Prop :=
  ∀ (s : State) (m : Master) (i : Fin 16) (hi : BitVec 11) (key : BitVec 16), s.on = true →
    let runs := s.rd F.WDT_STAT_RUNNING 0 = 1
    let hw := s.rd F.WDT_STAT_HWSTART 0 = 1
    let en := fun (j : Nat) => s.cf F.SLOT_CFG_EN j = 1
    let some' := ∃ j : Fin 16, en j.val
    let x := s.wdt.slots.at i.val
    let first := s.rd F.SLOT_STAT_FIRST i.val = 1
    let c := s.now - x.at_
    let close := if first then x.grace else x.close
    let opn := if first then 0 else x.opn
    let step := s.rd F.WDT_STAT_STEP 0
    let drain := s.power.resetAfterDrain = some .watchdog
    let idle := drain ∨ (step ≠ 0 ∧ s.now < s.wdt.advanced + s.wdt.period)
    let k := fun (f : Fld) => f.key 0
    let slot := fun (f : Fld) => f.key i.val
    let serve : Instr := .wdtServe m (hi ++ (BitVec.ofNat 5 i.val) ++ key)
    let start : Instr := .wdtStart m 0x6E000000
    let stop : Instr := .wdtStop m 0x6E000000
    let absorbed := x.expiredAt = some s.now
    let due := fun (j : Fin 16) => en j.val ∧ (if s.rd F.SLOT_STAT_FIRST j.val = 1 then (s.wdt.slots.at j.val).grace else (s.wdt.slots.at j.val).close)
      ≤ s.now - (s.wdt.slots.at j.val).at_
    let calm := ∀ j : Fin 16, ¬due j
    let alone := ∀ j : Fin 16, j ≠ i → ¬due j
    let exp : Instr := .wdtSlotExpired (BitVec.ofNat 16 (2 ^ i.val))
    let fresh : Slot := { at_ := s.now, opn := s.cf F.SLOT_CFG_OPEN i.val, close := s.cf F.SLOT_CLOSE_CLOSE i.val, grace := s.cf F.WDT_CFG_GRACE 0 * 100000, expiredAt := x.expiredAt }
    let restarted := fun (f : Nat) (u : State) => u.wdt.slots.at i.val = fresh ∧ u.rd F.SLOT_STAT_FIRST i.val = f
    let expired := fun (u : State) => u.wdt.slots.at i.val = { fresh with expiredAt := some s.now } ∧ u.rd F.SLOT_STAT_FIRST i.val = 0
    let counter := fun (n : Nat) => if n = 1 then F.WDT_EVT_EXPIRED else if n = 2 then F.WDT_EVT_EARLY else F.WDT_EVT_KEY
    let faulted := fun (n : Nat) (u : State) => bitOf (u.rd F.WDT_STAT_FAULTED 0) i.val = true ∧ u.rd F.SLOT_STAT_LAST i.val = n
      ∧ u.rd (counter n) 0 = min 255 (s.rd (counter n) 0 + 1)
    let only := fun (n : Nat) (u : State) => faulted n u ∧ Told 0x13 n s u ∧ u.wdt = s.wdt
      ∧ Only [k F.WDT_STAT_FAULTED, slot F.SLOT_STAT_LAST, (counter n).key 0, F.LAST_ERR_CODE.key m.idx, F.LAST_ERR_COUNT.key m.idx, F.LAST_ERR_ADDR.key m.idx] s u
    let refuses := fun (e : Nat) (u : State) => u.out.err = some e ∧ u.rd F.LAST_ERR_CODE m.idx = e
    let advanced := fun (n : Nat) (u : State) => u.rd F.WDT_STAT_STEP 0 = n ∧ u.wdt.served = 0 ∧ u.wdt.advanced = s.now ∧ u.wdt.period = s.rd F.WDT_LADDER_PERIOD 0
      ∧ u.rd F.WDT_EVT_STEPS 0 = min 255 (s.rd F.WDT_EVT_STEPS 0 + 1) ∧ u.rd F.FB_STAT_LAST 0x13 = n + 3
    let climbs := fun (e : Option Nat) (u : State) =>
      (idle → u.rd F.WDT_STAT_STEP 0 = step ∧ u.wdt.advanced = s.wdt.advanced ∧ u.rd F.WDT_EVT_STEPS 0 = s.rd F.WDT_EVT_STEPS 0 ∧ u.wdt.hostRst = s.wdt.hostRst)
      ∧ (¬idle → step = 0 → advanced 1 u ∧ u.wdt.hostRst = true ∧ (en i.val → u.wdt.slots.at i.val = { fresh with expiredAt := e } ∧ u.rd F.SLOT_STAT_FIRST i.val = 1))
      ∧ (¬idle → step ≠ 0 → s.safe = true → u.rd F.WDT_STAT_STEP 0 = step ∧ u.wdt.hostRst = true ∧ u.rd F.FB_STAT_LAST 0x13 = 4)
      ∧ (¬idle → step = 1 → s.safe = false → s.rd F.WDT_STAT_ATTEMPTS 0 < s.cf F.WDT_CFG_N_ATT 0 → advanced 2 u ∧ u.rd F.WDT_STAT_ATTEMPTS 0 = min 15 (s.rd F.WDT_STAT_ATTEMPTS 0 + 1)
          ∧ u.power.resetAfterDrain = some .watchdog ∧ u.wdt.hostRst = s.wdt.hostRst)
      ∧ (¬idle → s.safe = false → (step = 1 ∧ s.cf F.WDT_CFG_N_ATT 0 ≤ s.rd F.WDT_STAT_ATTEMPTS 0) ∨ step = 2 → advanced 3 u
          ∧ (s.cf F.FC_CLASS_CLASS 0x1306 = 4 → u.due.getLast?.map (fun d => (d.cls, d.block, d.event)) = some (4, 0x13, 6)) ∧ u.rd F.WDT_STAT_ATTEMPTS 0 = s.rd F.WDT_STAT_ATTEMPTS 0)
    let judged := key = 0xA5C3 ∧ hi = 0
    (runs ∨ ¬some' → Does start s fun u => Refuses m 5 0x2C08 s u)
    ∧ (¬runs → some' → Does start s fun u => u.out.err = some 0 ∧ u.rd F.WDT_STAT_RUNNING 0 = 1 ∧ u.rd F.WDT_STAT_GRACE 0 = 1 ∧ (en i.val → restarted 1 u)
        ∧ (¬en i.val → u.wdt.slots.at i.val = x) ∧ u.rd F.WDT_STAT_STEP 0 = step)
    ∧ (hw → Does stop s fun u => Refuses m 3 0x2C08 s u)
    ∧ (¬hw → ¬runs → Does stop s fun u => Refuses m 5 0x2C08 s u)
    ∧ (¬hw → runs → Does stop s fun u => u.out.err = some 0 ∧ u.rd F.WDT_STAT_RUNNING 0 = 0 ∧ u.rd F.WDT_STAT_GRACE 0 = 0 ∧ u.rd F.SLOT_STAT_FIRST i.val = 0
        ∧ u.rd F.WDT_STAT_FAULTED 0 = s.rd F.WDT_STAT_FAULTED 0 ∧ u.rd F.WDT_STAT_STEP 0 = step ∧ u.wdt = s.wdt)
    ∧ ((Does (.wdtStart m 0x12000000) s fun u => Refuses m 1 0x2C08 s u) ∧ (Does (.wdtStop m 0x6E000001) s fun u => Refuses m 1 0x2C08 s u))
    ∧ (¬runs → Does serve s fun u => Refuses m 5 0x2C04 s u)
    ∧ (runs → drain → Does serve s fun u => u.out.err = some 0 ∧ Only [] s u)
    ∧ (runs → ¬drain → hi ≠ 0 → en i.val → idle → calm → Does serve s fun u => refuses 2 u ∧ only 3 u)
    ∧ (runs → ¬drain → hi ≠ 0 → ¬en i.val → Does serve s fun u => Refuses m 2 0x2C04 s u)
    ∧ (runs → ¬drain → idle → calm → Does (.wdtServe m (BitVec.ofNat 32 (0x100000 + i.val * 0x10000 + key.toNat))) s fun u => refuses 1 u ∧ Told 0x13 3 s u
        ∧ u.rd F.WDT_EVT_KEY 0 = min 255 (s.rd F.WDT_EVT_KEY 0 + 1) ∧ u.rd F.WDT_STAT_FAULTED 0 = s.rd F.WDT_STAT_FAULTED 0 ∧ u.wdt = s.wdt)
    ∧ (runs → ¬drain → hi = 0 → ¬en i.val → Does serve s fun u => Refuses m 5 0x2C04 s u)
    ∧ (runs → ¬drain → hi = 0 → en i.val → key ≠ 0xA5C3 → calm → Does serve s fun u => refuses 1 u ∧ faulted 3 u ∧ climbs x.expiredAt u ∧ (idle → only 3 u))
    ∧ (runs → ¬drain → judged → en i.val → ¬absorbed → opn ≤ c → c < close → Does serve s fun u => u.out.err = some 0 ∧ restarted 0 u ∧ u.due = []
        ∧ u.rd F.SLOT_STAT_SERVES i.val = min 65535 (s.rd F.SLOT_STAT_SERVES i.val + 1) ∧ bitOf u.wdt.served i.val = (!decide first || bitOf s.wdt.served i.val)
        ∧ u.rd F.WDT_STAT_STEP 0 = step ∧ Only [slot F.SLOT_STAT_FIRST, slot F.SLOT_STAT_SERVES, k F.WDT_STAT_GRACE] { s with wdt := u.wdt } u)
    ∧ (runs → ¬drain → judged → en i.val → ¬absorbed → c < opn → c < close → calm → Does serve s fun u => u.out.err = some 0 ∧ faulted 2 u ∧ climbs x.expiredAt u ∧ (idle → only 2 u ∧ u.wdt.slots.at i.val = x))
    ∧ (runs → ¬drain → judged → en i.val → ¬absorbed → close ≤ c → Does serve s fun u => u.out.err = some 0 ∧ u.rd F.SLOT_STAT_LATE i.val = 1
        ∧ (∀ j : Fin 16, due j → bitOf (u.rd F.WDT_STAT_FAULTED 0) j.val = true) ∧ (idle → ∀ j : Fin 16, due j → (u.wdt.slots.at j.val).expiredAt = some s.now ∧ (u.wdt.slots.at j.val).at_ = s.now)
        ∧ (alone → faulted 1 u ∧ climbs (some s.now) u) ∧ (alone → idle → expired u ∧ Told 0x13 1 s u))
    ∧ (runs → ¬drain → judged → en i.val → absorbed → Does serve s fun u => u.out.err = some 0 ∧ u.rd F.SLOT_STAT_LATE i.val = 1 ∧ Only [slot F.SLOT_STAT_LATE] s u)
    ∧ (¬runs ∨ ¬en i.val ∨ c < close → Does exp s fun u => Only [] s u)
    ∧ (runs → en i.val → close ≤ c → Does exp s fun u => faulted 1 u ∧ climbs (some s.now) u ∧ u.rd F.SLOT_STAT_LATE i.val = s.rd F.SLOT_STAT_LATE i.val
        ∧ (idle → expired u ∧ Told 0x13 1 s u ∧ Only [k F.WDT_STAT_FAULTED, slot F.SLOT_STAT_LAST, k F.WDT_EVT_EXPIRED, slot F.SLOT_STAT_FIRST, k F.WDT_STAT_GRACE] { s with wdt := u.wdt } u))
    ∧ (Does .hostResetPulseEnd s fun u => u.wdt = { s.wdt with hostRst := false } ∧ Only [] { s with wdt := u.wdt } u)
    ∧ (step ≠ 0 → runs → (∀ j : Fin 16, en j.val → bitOf s.wdt.served j.val = true) → Does .ladderReturn s fun u => u.rd F.WDT_STAT_STEP 0 = 0
        ∧ u.rd F.WDT_STAT_ATTEMPTS 0 = s.rd F.WDT_STAT_ATTEMPTS 0 ∧ Only [k F.WDT_STAT_STEP] s u)
    ∧ ((step = 0 ∨ ¬runs ∨ ∃ j : Fin 16, en j.val ∧ bitOf s.wdt.served j.val = false) → Does .ladderReturn s fun u => Only [] s u)
    ∧ (Does .attemptsClear s fun u => u.rd F.WDT_STAT_ATTEMPTS 0 = 0 ∧ u.rd F.WDT_STAT_STEP 0 = step ∧ Only [k F.WDT_STAT_ATTEMPTS] s u
        ∧ (s.rd F.WDT_STAT_ATTEMPTS 0 ≠ 0 → ∀ q : Fin 16, s.route 8 = some (8 + q.val) → s.ringSt (8 + q.val) = 1 → (s.ring.queue.at (8 + q.val)).length < 32 →
          bitOf (s.rd F.UNIT_STAT_ISLAND_OK 0) 7 = true →
          ((u.ring.queue.at (8 + q.val)).getLast?.map fun r => (r.typ, r.src, r.pay)) = some (8, 0x13, bytes 1 0xFF ++ bytes 1 0x0A ++ bytes 1 step ++ List.replicate 13 0)))

/-- From R490, R491, R497, R498: the commands of the OTP controller: their refusals in order, what they leave running, and what each has
done at its end: a burn only turns a 0 into a 1. It rests on readings of the model, not of the spec alone, where log 24 says so. -/
def Obligations.OtpCommands : Prop :=
  ∀ (s : State) (m : Master) (key : Byte) (g : Fin 4) (o : WriteObs) (e : Ecc) (j : Fin 2048), s.on = true →
    let run := s.otp.run
    let word := s.rd F.OTP_ADDR_WORD 0
    let data := s.rd F.OTP_DATA_DATA 0
    let target := regionOf word
    let k := fun (f : Fld) => f.key 0
    let w : Word := BitVec.ofNat 32 (key.toNat * 2 ^ 24 + g.val * 256)
    let reply := [k F.OTP_RSTAT_ERR, k F.OTP_RSTAT_CORRECTED, k F.OTP_RSTAT_BUSY, k F.OTP_RSTAT_VALID]
    let no := fun (x : Nat) (u : State) => Refuses m x 0x2E0C s u
    let starts := fun (cmd : Nat) (u : State) => u.out.err = some 0 ∧ u.otp = { s.otp with run := some { cmd, region := g.val, word, data } }
      ∧ u.rd F.OTP_RSTAT_BUSY 0 = 1 ∧ u.rd F.OTP_RSTAT_VALID 0 = 0 ∧ u.rd F.OTP_RSTAT_ERR 0 = 0 ∧ Only reply { s with otp := u.otp } u
    let keyed := key = 0xB7
    let closed := fun (h : Nat) => h = 0 ∨ ∃ i : Fin 8, s.otp.words.at (regionTo h - 8 + i.val) ≠ 0
    let rd : Instr := .otpRead m w
    let pr : Instr := .otpProgram m w o
    let fin : Instr := .otpFinalise m w o
    let ck : Instr := .otpCheck m w
    let ended := fun (u : State) => u.otp.run = none ∧ u.rd F.OTP_RSTAT_BUSY 0 = 0 ∧ u.rd F.OTP_RSTAT_VALID 0 = 1
    let same := fun (u : State) => u.otp.words = s.otp.words
    let had := fun (w' : Nat) => if w' < 128 then Config.vendorWord w' % 2 ^ 32 else if w' < 256 then 0 else s.otp.words.at w'
    (run ≠ none → (Does rd s fun u => no 4 u) ∧ (Does pr s fun u => no 4 u) ∧ (Does fin s fun u => no 4 u) ∧ (Does ck s fun u => no 4 u))
    ∧ (run = none → (Does rd s fun u => starts 1 u) ∧ (Does ck s fun u => starts 4 u))
    ∧ (run = none → ¬keyed → (Does pr s fun u => no 1 u) ∧ (Does fin s fun u => no 1 u))
    ∧ (run = none → keyed → (closed target → Does pr s fun u => no 3 u) ∧ (closed g.val → Does fin s fun u => no 3 u))
    ∧ (run = none → keyed → s.power.st ≠ .run → (¬closed target → Does pr s fun u => no 5 u) ∧ (¬closed g.val → Does fin s fun u => no 5 u))
    ∧ (run = none → keyed → s.power.st = .run → o.supply = false → (¬closed target → Does pr s fun u => no 0xE u) ∧ (¬closed g.val → Does fin s fun u => no 0xE u))
    ∧ (run = none → keyed → s.power.st = .run → o.supply = true → o.temp = false → (¬closed target → Does pr s fun u => no 0x10 u) ∧ (¬closed g.val → Does fin s fun u => no 0x10 u))
    ∧ (run = none → keyed → s.power.st = .run → o.supply = true → o.temp = true → (¬closed target → Does pr s fun u => starts 2 u)
        ∧ (¬closed g.val → g.val ≠ 3 → Does fin s fun u => starts 3 u))
    ∧ (run = none → keyed → s.power.st = .run → o.supply = true → o.temp = true → ¬closed g.val → g.val = 3 → ∀ x a t, s.parseDefaults = ((x, a), t) →
        (x = 0 → Does fin s fun u => starts 3 u) ∧ (x ≠ 0 → x < 256 → Does fin s fun u => no x u))
    ∧ (run = none → Does (.otpCommandDone e) s fun u => Only [] s u)
    ∧ (∀ x, run = some x → Does (.otpCommandDone e) s fun u => ended u ∧ (bitOf (s.otp.words.at j.val) 0 = true → bitOf (u.otp.words.at j.val) 0 = true)
        ∧ (mOr (u.otp.words.at j.val) (s.otp.words.at j.val) = u.otp.words.at j.val))
    ∧ (∀ x, run = some x → x.cmd = 1 → (Does (.otpCommandDone .clean) s fun u => u.rd F.OTP_DATA_DATA 0 = had x.word % 2 ^ 32 ∧ same u ∧ u.due = []
            ∧ u.rd F.OTP_RSTAT_ERR 0 = s.rd F.OTP_RSTAT_ERR 0 ∧ Only (k F.OTP_DATA_DATA :: reply) { s with otp := u.otp } u)
        ∧ (Does (.otpCommandDone .corrected) s fun u => u.rd F.OTP_DATA_DATA 0 = had x.word % 2 ^ 32 ∧ same u ∧ u.rd F.OTP_RSTAT_CORRECTED 0 = 1 ∧ Told 0x14 4 s u
            ∧ u.rd F.OTP_EVT_ECC_FIX 0 = min 65535 (s.rd F.OTP_EVT_ECC_FIX 0 + 1))
        ∧ (Does (.otpCommandDone .bad) s fun u => u.rd F.OTP_DATA_DATA 0 = 0 ∧ same u ∧ u.rd F.OTP_RSTAT_ERR 0 = 9 ∧ Told 0x14 5 s u
            ∧ u.rd F.OTP_EVT_ECC_BAD 0 = min 255 (s.rd F.OTP_EVT_ECC_BAD 0 + 1)))
    ∧ (∀ x, run = some x → x.cmd = 2 → Does (.otpCommandDone e) s fun u => u.otp.words.at x.word = mOr (s.otp.words.at x.word) x.data
        ∧ (j.val ≠ x.word → u.otp.words.at j.val = s.otp.words.at j.val) ∧ Told 0x14 6 s u ∧ u.rd F.OTP_EVT_PROGS 0 = min 255 (s.rd F.OTP_EVT_PROGS 0 + 1)
        ∧ Only (k F.OTP_EVT_PROGS :: reply) { s with otp := u.otp } u)
    ∧ (∀ x, run = some x → x.cmd = 3 → x.region < 4 → Does (.otpCommandDone e) s fun u => Told 0x14 6 s u ∧ u.rd (regionFld x.region) 0 = 0
        ∧ (regionTo x.region - 8 ≤ j.val → j.val < regionTo x.region → u.otp.words.at j.val = mOr (s.otp.words.at j.val) ((s.digestWords x.region).getD (j.val + 8 - regionTo x.region) 0))
        ∧ (j.val < regionTo x.region - 8 ∨ regionTo x.region ≤ j.val → u.otp.words.at j.val = s.otp.words.at j.val))
    ∧ (∀ x, run = some x → x.cmd = 4 → x.region < 4 → Does (.otpCommandDone e) s fun u => same u ∧ u.due = []
        ∧ (¬closed x.region → u.rd (regionFld x.region) 0 = 1) ∧ (closed x.region → e = .bad → u.rd (regionFld x.region) 0 = 2)
        ∧ (closed x.region → e ≠ .bad → x.region ≠ 0 → u.rd (regionFld x.region) 0 = (if s.burnedDigest x.region = s.digestWords x.region then 0 else 2)))

/-- From R500, R502, R503: the logbook's saves, tokens and flush. It rests on readings of the model, not of the spec alone, where log 21
says so. -/
def Obligations.LogbookSaves : Prop :=
  ∀ (s : State) (m : Master) (reserve lost : Bool) (key : Byte) (j : Fin 226), s.on = true →
    let l := s.logb
    let k := fun (f : Fld) => f.key 0
    let tokens := s.rd F.LOG_STAT_TOKENS 0
    let log := fun (u : State) => { s with logb := u.logb }
    let stat := [k F.LOG_STAT_RESERVE_OK, k F.LOG_STAT_BUSY, k F.LOG_STAT_TOKENS]
    let free := l.pend.filter (fun c => !c.2 || l.flushing.contains c.1)
    let next := (free.filter (fun c => c.1 < 96) ++ free ++ (if tokens = 0 then [] else l.pend)).head?.map (·.1)
    let flush : Instr := .logFlush m (BitVec.ofNat 32 (key.toNat * 2 ^ 24))
    let no := fun (x : Nat) (u : State) => Refuses m x 0x3010 s u
    let early := (match l.flushAt with | some t => decide (s.now < t + 600000000) | none => false) = true
    (tokens < 65536 → s.rd F.LOG_STAT_THROTTLED 0 ≤ 1 → Does .tokenAccrual s fun u => u.rd F.LOG_STAT_TOKENS 0 = min 1152 (tokens + 1) ∧ u.logb = l ∧ u.rd F.LOG_STAT_THROTTLED 0 = 0
        ∧ Only [k F.LOG_STAT_TOKENS, k F.LOG_STAT_THROTTLED, k F.LOG_EVT_DEFERRED] s u)
    ∧ ((l.writing ≠ none ∨ (reserve = true ∧ next = none) ∨ (reserve = false ∧ l.pend = [])) → Does (.logbookSaveStart reserve) s fun u =>
        u.rd F.LOG_STAT_RESERVE_OK 0 = (if reserve = true then 1 else 0) ∧ u.logb = l ∧ u.due = [] ∧ Only stat s u)
    ∧ (∀ c, next = some c → l.writing = none → c < 113 → Does (.logbookSaveStart true) s fun u => u.rd F.LOG_STAT_RESERVE_OK 0 = 1 ∧ u.rd F.LOG_STAT_BUSY 0 = 1
        ∧ u.logb.copies = l.copies ∧ u.logb.pend = l.pend.filter (fun y => y.1 != c)
        ∧ (u.logb.writing.map fun x => (x.1, x.2.2)) = some (c, { seq := (s.lastSeq c + 1) % 2 ^ 32, ok := true, pay := s.payload c })
        ∧ (∀ x, u.logb.writing = some x → x.2.1 ≤ 1 ∧ ((s.copyAt c 0).ok = true → (s.copyAt c 1).ok = true → (s.copyAt c x.2.1).seq ≤ (s.copyAt c (1 - x.2.1)).seq)
            ∧ ((s.copyAt c x.2.1).ok = true → (s.copyAt c (1 - x.2.1)).ok = true))
        ∧ (l.flushing.contains c = true → u.rd F.LOG_STAT_TOKENS 0 = tokens) ∧ (l.flushing.contains c = false → u.rd F.LOG_STAT_TOKENS 0 = tokens - 1)
        ∧ Only stat (log u) u)
    ∧ (∀ c, l.pend.head? = some c → l.pend.length = 1 → l.writing = none → l.waited.contains c.1 = false → s.tokenWaits.contains c.1 = false → c.1 < 111 → Does (.logbookSaveStart false) s fun u => u.rd F.LOG_STAT_RESERVE_OK 0 = 0
        ∧ u.logb = { l with waited := l.waited ++ [c.1] } ∧ Told 0x15 3 s u ∧ u.rd F.LOG_EVT_DEFERRED 0 = min 65535 (s.rd F.LOG_EVT_DEFERRED 0 + 1)
        ∧ Only (k F.LOG_EVT_DEFERRED :: stat) (log u) u)
    ∧ (∀ c, l.pend.head? = some c → l.pend.length = 1 → (l.waited.contains c.1 = true ∨ s.tokenWaits.contains c.1 = true) → Does (.logbookSaveStart false) s fun u =>
        u.rd F.LOG_STAT_RESERVE_OK 0 = 0 ∧ Only stat s u)
    ∧ (l.writing = none → Does (.logbookSaveDone lost) s fun u => Only [] s u)
    ∧ (∀ x, l.writing = some x → x.2.1 ≤ 1 → x.1 < 111 → (lost = false ∨ l.bad < 6 ∨ s.rd F.LOG_STAT_WORN 0 = 1) → Does (.logbookSaveDone lost) s fun u => u.logb.copies.at (x.1 * 2 + x.2.1) = x.2.2 ∧ u.logb.writing = none
        ∧ u.rd F.LOG_STAT_BUSY 0 = 0 ∧ (j.val ≠ x.1 * 2 + x.2.1 → u.logb.copies.at j.val = l.copies.at j.val) ∧ u.rd F.LOG_WRITES_COUNT 0 = (s.rd F.LOG_WRITES_COUNT 0 + 1) % 2 ^ 64
        ∧ u.logb.pend = l.pend ∧ u.due = [] ∧ (lost = true → u.logb.bad = l.bad + 1 ∧ u.rd F.LOG_STAT_SPARE 0 = 9 - l.bad)
        ∧ Only [k F.LOG_STAT_BUSY, k F.LOG_WRITES_COUNT, k F.LOG_STAT_SPARE] (log u) u)
    ∧ (∀ x, l.writing = some x → x.2.1 ≤ 1 → 6 ≤ l.bad → s.rd F.LOG_STAT_WORN 0 ≠ 1 → Does (.logbookSaveDone true) s fun u => u.rd F.LOG_STAT_WORN 0 = 1 ∧ Told 0x15 5 s u)
    ∧ (key ≠ 0x4C → Does flush s fun u => no 1 u)
    ∧ (key = 0x4C → early → Does flush s fun u => no 4 u)
    ∧ (key = 0x4C → ¬early → s.rd F.LOG_STAT_RESERVE_OK 0 ≠ 1 → Does flush s fun u => no 5 u)
    ∧ (key = 0x4C → ¬early → s.rd F.LOG_STAT_RESERVE_OK 0 = 1 → Does flush s fun u => u.out.err = some 0
        ∧ u.logb = { l with flushAt := some s.now, flushing := l.pend.map (·.1) } ∧ Only [] (log u) u)
end

