-- ==== Sys2Proof/Laws/Tab.lean ====
section
/-! SUPPORT. The laws of sparse tables: a read after a write at the same key gives the value written, a write leaves every other
key alone, and a write keeps the canonical form. -/

namespace Sys2Proof.Machine

section
variable {α : Type}

theorem cellsGet?_put_same (l : List (Nat × α)) (n : Nat) (x : α) : cellsGet? (cellsPut l n x) n = some x := by
  induction l with
  | nil => simp [cellsPut, cellsGet?]
  | cons c cs ih =>
    obtain ⟨k, v⟩ := c
    unfold cellsPut
    split
    · simp [cellsGet?]
    · split
      · simp [cellsGet?]
      · have h : k ≠ n := by omega
        simp [cellsGet?, h, ih]

theorem cellsGet?_put_ne (l : List (Nat × α)) {n m : Nat} (x : α) (h : m ≠ n) :
    cellsGet? (cellsPut l n x) m = cellsGet? l m := by
  induction l with
  | nil => simp [cellsPut, cellsGet?, h.symm]
  | cons c cs ih =>
    obtain ⟨k, v⟩ := c
    unfold cellsPut
    split
    · simp [cellsGet?, h.symm]
    · split
      · rename_i h2
        simp [cellsGet?, h.symm, ← h2]
      · by_cases hk : k = m <;> simp [cellsGet?, hk, ih]

theorem cellsGet?_drop_same (l : List (Nat × α)) (n : Nat) : cellsGet? (cellsDrop l n) n = none := by
  induction l with
  | nil => rfl
  | cons c cs ih =>
    obtain ⟨k, v⟩ := c
    by_cases h : k = n <;> simp [cellsDrop, cellsGet?, h, ih]

theorem cellsGet?_drop_ne (l : List (Nat × α)) {n m : Nat} (h : m ≠ n) : cellsGet? (cellsDrop l n) m = cellsGet? l m := by
  induction l with
  | nil => rfl
  | cons c cs ih =>
    obtain ⟨k, v⟩ := c
    by_cases hn : k = n
    · have hm : k ≠ m := by omega
      simp [cellsDrop, cellsGet?, hn, ih, h.symm]
    · by_cases hm : k = m <;> simp [cellsDrop, cellsGet?, hn, hm, ih]
      have h2 : m ≠ n := h
      simp [h2, cellsGet?]

variable [DecidableEq α]

theorem Tab.get_set_same (t : Tab α) (d : α) (k : Nat) (v : α) : (t.set d k v).get d k = v := by
  unfold Tab.set Tab.get
  split
  · next h => simp [cellsGet?_drop_same, h]
  · simp [cellsGet?_put_same]

theorem Tab.get_set_ne (t : Tab α) (d d' : α) {k j : Nat} (v : α) (h : j ≠ k) : (t.set d k v).get d' j = t.get d' j := by
  unfold Tab.set Tab.get
  split
  · simp [cellsGet?_drop_ne _ h]
  · simp [cellsGet?_put_ne _ v h]

theorem Tab.at_put_same [Inhabited α] (t : Tab α) (k : Nat) (v : α) : (t.put k v).at k = v := Tab.get_set_same t _ k v

theorem Tab.at_put_ne [Inhabited α] (t : Tab α) {k j : Nat} (v : α) (h : j ≠ k) : (t.put k v).at j = t.at j :=
  Tab.get_set_ne t _ _ v h

omit [DecidableEq α] in
theorem cellsRising_mono {lo lo' : Nat} (h : lo' ≤ lo) (l : List (Nat × α)) (hl : cellsRising lo l = true) :
    cellsRising lo' l = true := by
  cases l with
  | nil => rfl
  | cons c cs =>
    obtain ⟨k, v⟩ := c
    simp only [cellsRising, Bool.and_eq_true, decide_eq_true_eq] at hl ⊢
    exact ⟨Nat.le_trans h hl.1, hl.2⟩

omit [DecidableEq α] in
theorem cellsRising_put (l : List (Nat × α)) {lo n : Nat} (x : α) (hn : lo ≤ n) (hl : cellsRising lo l = true) :
    cellsRising lo (cellsPut l n x) = true := by
  induction l generalizing lo with
  | nil => simp [cellsPut, cellsRising, hn]
  | cons c cs ih =>
    obtain ⟨k, v⟩ := c
    simp only [cellsRising, Bool.and_eq_true, decide_eq_true_eq] at hl
    unfold cellsPut
    split
    · next h => simp [cellsRising, hn, hl.2]; omega
    · split
      · next h => subst h; simp [cellsRising, hn, hl.2]
      · next h1 h2 => simp [cellsRising, hl.1, ih (by omega : k + 1 ≤ n) hl.2]

omit [DecidableEq α] in
theorem cellsRising_drop (l : List (Nat × α)) (lo n : Nat) (hl : cellsRising lo l = true) :
    cellsRising lo (cellsDrop l n) = true := by
  induction l generalizing lo with
  | nil => rfl
  | cons c cs ih =>
    obtain ⟨k, v⟩ := c
    simp only [cellsRising, Bool.and_eq_true, decide_eq_true_eq] at hl
    unfold cellsDrop
    split
    · exact ih lo (cellsRising_mono (by omega) _ hl.2)
    · simp [cellsRising, hl.1, ih _ hl.2]

omit [DecidableEq α] in
theorem mem_cellsPut {l : List (Nat × α)} {n : Nat} {x : α} {c : Nat × α} (h : c ∈ cellsPut l n x) : c = (n, x) ∨ c ∈ l := by
  induction l with
  | nil => simpa [cellsPut] using h
  | cons a cs ih =>
    obtain ⟨k, v⟩ := a
    unfold cellsPut at h
    split at h
    · simpa using h
    · split at h
      · rcases List.mem_cons.1 h with h | h
        · exact .inl h
        · exact .inr (List.mem_cons_of_mem _ h)
      · rcases List.mem_cons.1 h with h | h
        · exact .inr (h ▸ List.mem_cons_self ..)
        · rcases ih h with h | h
          · exact .inl h
          · exact .inr (List.mem_cons_of_mem _ h)

omit [DecidableEq α] in
theorem mem_cellsDrop {l : List (Nat × α)} {n : Nat} {c : Nat × α} (h : c ∈ cellsDrop l n) : c ∈ l := by
  induction l with
  | nil => exact h
  | cons a cs ih =>
    obtain ⟨k, v⟩ := a
    unfold cellsDrop at h
    split at h
    · exact List.mem_cons_of_mem _ (ih h)
    · rcases List.mem_cons.1 h with h | h
      · exact h ▸ List.mem_cons_self ..
      · exact List.mem_cons_of_mem _ (ih h)

/-- A write keeps a table's canonical form. -/
theorem Tab.wf_set (t : Tab α) (d : Nat → α) (k : Nat) (v : α) (h : t.wf d = true) : (t.set (d k) k v).wf d = true := by
  simp only [Tab.wf, Bool.and_eq_true, List.all_eq_true, decide_eq_true_eq] at h ⊢
  unfold Tab.set
  split
  · exact ⟨cellsRising_drop _ _ _ h.1, fun c hc => h.2 c (mem_cellsDrop hc)⟩
  · next hv =>
    refine ⟨cellsRising_put _ _ (Nat.zero_le _) h.1, fun c hc => ?_⟩
    rcases mem_cellsPut hc with hc | hc
    · subst hc; exact hv
    · exact h.2 c hc

end

end Sys2Proof.Machine
end

