-- ==== Sys2Proof/Laws/State.lean ====
section
/-! SUPPORT. The laws of the named updates of State: what a read gives after a write of the same field or of another, and that an
update leaves every other part of State alone. -/

namespace Sys2Proof.Machine

open Sys2Proof

/-- Reset has no command waiting. -/
@[simp] theorem reset_pending : State.reset.pending = [] := rfl

-- Register fields

/-- A field reads as it was written, within its width. -/
@[simp] theorem State.rd_wr (s : State) (f : Fld) (i v : Nat) : (s.wr f i v).rd f i = v % 2 ^ f.width := by
  unfold State.wr State.rd
  split <;> simp_all [RingBlk.rd, RingBlk.wr, Tab.get_set_same]

/-- A field is left alone by a write of another. -/
theorem State.rd_wr_ne (s : State) {f g : Fld} {i j : Nat} (v : Nat) (h : g.key j ≠ f.key i) :
    (s.wr f i v).rd g j = s.rd g j := by
  unfold State.wr State.rd
  split
  · split
    · simp [RingBlk.rd, RingBlk.wr, Tab.get_set_ne _ _ _ _ h]
    · rfl
  · split
    · rfl
    · simp [Tab.get_set_ne _ _ _ _ h]

theorem State.bumpBy_rd (s : State) (f : Fld) (i n : Nat) :
    (s.bumpBy f i n).rd f i = satAdd (2 ^ f.width - 1) (s.rd f i) n % 2 ^ f.width := State.rd_wr ..

theorem State.bump_rd (s : State) (f : Fld) (i : Nat) :
    (s.bump f i).rd f i = satAdd (2 ^ f.width - 1) (s.rd f i) 1 % 2 ^ f.width := State.bumpBy_rd ..

theorem State.rd_bump_ne (s : State) {f g : Fld} {i j : Nat} (h : g.key j ≠ f.key i) :
    (s.bump f i).rd g j = s.rd g j := State.rd_wr_ne s _ h

theorem State.flag_wr (s : State) (f : Fld) (i v : Nat) : (s.wr f i v).flag f i = (v % 2 ^ f.width == 1) := by
  simp [State.flag]

-- Fields of a bank

@[simp] theorem Bank.rd_wr (b : Bank) (f : Fld) (i v : Nat) : (b.wr f i v).rd f i = v % 2 ^ f.width := by
  unfold Bank.wr Bank.rd
  split <;> simp [Bank.copy, Tab.get_set_same, majority]

theorem Bank.rd_wr_ne (b : Bank) {f g : Fld} {i j : Nat} (v : Nat) (h : g.key j ≠ f.key i) :
    (b.wr f i v).rd g j = b.rd g j := by
  unfold Bank.wr Bank.rd
  split <;> split <;> simp [Bank.copy, Tab.get_set_ne _ _ _ _ h]

-- Parts of State that an update leaves alone

@[simp] theorem State.wr_pending (s : State) (f : Fld) (i v : Nat) : (s.wr f i v).pending = s.pending := by unfold State.wr; split <;> rfl
@[simp] theorem State.wr_out (s : State) (f : Fld) (i v : Nat) : (s.wr f i v).out = s.out := by unfold State.wr; split <;> rfl
@[simp] theorem State.wr_due (s : State) (f : Fld) (i v : Nat) : (s.wr f i v).due = s.due := by unfold State.wr; split <;> rfl
@[simp] theorem State.wr_now (s : State) (f : Fld) (i v : Nat) : (s.wr f i v).now = s.now := by unfold State.wr; split <;> rfl
@[simp] theorem State.wr_free (s : State) (f : Fld) (i v : Nat) : (s.wr f i v).free = s.free := by unfold State.wr; split <;> rfl
@[simp] theorem State.wr_stag (s : State) (f : Fld) (i v : Nat) : (s.wr f i v).stag = s.stag := by unfold State.wr; split <;> rfl
@[simp] theorem State.wr_act (s : State) (f : Fld) (i v : Nat) : (s.wr f i v).act = s.act := by unfold State.wr; split <;> rfl
@[simp] theorem State.wr_power (s : State) (f : Fld) (i v : Nat) : (s.wr f i v).power = s.power := by unfold State.wr; split <;> rfl
@[simp] theorem State.wr_tb (s : State) (f : Fld) (i v : Nat) : (s.wr f i v).tb = s.tb := by unfold State.wr; split <;> rfl
@[simp] theorem State.wr_sched (s : State) (f : Fld) (i v : Nat) : (s.wr f i v).sched = s.sched := by unfold State.wr; split <;> rfl
@[simp] theorem State.wr_feeds (s : State) (f : Fld) (i v : Nat) : (s.wr f i v).feeds = s.feeds := by unfold State.wr; split <;> rfl
@[simp] theorem State.wr_stages (s : State) (f : Fld) (i v : Nat) : (s.wr f i v).stages = s.stages := by unfold State.wr; split <;> rfl
@[simp] theorem State.wr_health (s : State) (f : Fld) (i v : Nat) : (s.wr f i v).health = s.health := by unfold State.wr; split <;> rfl
@[simp] theorem State.wr_phRetry (s : State) (f : Fld) (i v : Nat) : (s.wr f i v).phRetry = s.phRetry := by unfold State.wr; split <;> rfl
@[simp] theorem State.wr_phJoin (s : State) (f : Fld) (i v : Nat) : (s.wr f i v).phJoin = s.phJoin := by unfold State.wr; split <;> rfl
@[simp] theorem State.wr_mids (s : State) (f : Fld) (i v : Nat) : (s.wr f i v).mids = s.mids := by unfold State.wr; split <;> rfl
@[simp] theorem State.wr_overload (s : State) (f : Fld) (i v : Nat) : (s.wr f i v).overload = s.overload := by unfold State.wr; split <;> rfl
@[simp] theorem State.wr_cist (s : State) (f : Fld) (i v : Nat) : (s.wr f i v).cist = s.cist := by unfold State.wr; split <;> rfl
@[simp] theorem State.wr_seq (s : State) (f : Fld) (i v : Nat) : (s.wr f i v).seq = s.seq := by unfold State.wr; split <;> rfl
@[simp] theorem State.wr_wmon (s : State) (f : Fld) (i v : Nat) : (s.wr f i v).wmon = s.wmon := by unfold State.wr; split <;> rfl
@[simp] theorem State.wr_faults (s : State) (f : Fld) (i v : Nat) : (s.wr f i v).faults = s.faults := by unfold State.wr; split <;> rfl
@[simp] theorem State.wr_pert (s : State) (f : Fld) (i v : Nat) : (s.wr f i v).pert = s.pert := by unfold State.wr; split <;> rfl
@[simp] theorem State.wr_well (s : State) (f : Fld) (i v : Nat) : (s.wr f i v).well = s.well := by unfold State.wr; split <;> rfl
@[simp] theorem State.wr_est (s : State) (f : Fld) (i v : Nat) : (s.wr f i v).est = s.est := by unfold State.wr; split <;> rfl
@[simp] theorem State.wr_commit (s : State) (f : Fld) (i v : Nat) : (s.wr f i v).commit = s.commit := by unfold State.wr; split <;> rfl
@[simp] theorem State.wr_mbx (s : State) (f : Fld) (i v : Nat) : (s.wr f i v).mbx = s.mbx := by unfold State.wr; split <;> rfl
@[simp] theorem State.wr_tw (s : State) (f : Fld) (i v : Nat) : (s.wr f i v).tw = s.tw := by unfold State.wr; split <;> rfl
@[simp] theorem State.wr_twin (s : State) (f : Fld) (i v : Nat) : (s.wr f i v).twin = s.twin := by unfold State.wr; split <;> rfl
@[simp] theorem State.wr_meas (s : State) (f : Fld) (i v : Nat) : (s.wr f i v).meas = s.meas := by unfold State.wr; split <;> rfl
@[simp] theorem State.wr_met (s : State) (f : Fld) (i v : Nat) : (s.wr f i v).met = s.met := by unfold State.wr; split <;> rfl
@[simp] theorem State.wr_rtc (s : State) (f : Fld) (i v : Nat) : (s.wr f i v).rtc = s.rtc := by unfold State.wr; split <;> rfl
@[simp] theorem State.wr_timers (s : State) (f : Fld) (i v : Nat) : (s.wr f i v).timers = s.timers := by unfold State.wr; split <;> rfl
@[simp] theorem State.wr_wdt (s : State) (f : Fld) (i v : Nat) : (s.wr f i v).wdt = s.wdt := by unfold State.wr; split <;> rfl
@[simp] theorem State.wr_otp (s : State) (f : Fld) (i v : Nat) : (s.wr f i v).otp = s.otp := by unfold State.wr; split <;> rfl
@[simp] theorem State.wr_logb (s : State) (f : Fld) (i v : Nat) : (s.wr f i v).logb = s.logb := by unfold State.wr; split <;> rfl

@[simp] theorem State.bump_pending (s : State) (f : Fld) (i : Nat) : (s.bump f i).pending = s.pending := State.wr_pending ..
@[simp] theorem State.bump_out (s : State) (f : Fld) (i : Nat) : (s.bump f i).out = s.out := State.wr_out ..
@[simp] theorem State.bump_due (s : State) (f : Fld) (i : Nat) : (s.bump f i).due = s.due := State.wr_due ..
@[simp] theorem State.bump_now (s : State) (f : Fld) (i : Nat) : (s.bump f i).now = s.now := State.wr_now ..
@[simp] theorem State.bump_free (s : State) (f : Fld) (i : Nat) : (s.bump f i).free = s.free := State.wr_free ..
@[simp] theorem State.bump_stag (s : State) (f : Fld) (i : Nat) : (s.bump f i).stag = s.stag := State.wr_stag ..
@[simp] theorem State.bump_act (s : State) (f : Fld) (i : Nat) : (s.bump f i).act = s.act := State.wr_act ..
@[simp] theorem State.bump_power (s : State) (f : Fld) (i : Nat) : (s.bump f i).power = s.power := State.wr_power ..
@[simp] theorem State.bump_tb (s : State) (f : Fld) (i : Nat) : (s.bump f i).tb = s.tb := State.wr_tb ..
@[simp] theorem State.bump_sched (s : State) (f : Fld) (i : Nat) : (s.bump f i).sched = s.sched := State.wr_sched ..
@[simp] theorem State.bump_feeds (s : State) (f : Fld) (i : Nat) : (s.bump f i).feeds = s.feeds := State.wr_feeds ..
@[simp] theorem State.bump_stages (s : State) (f : Fld) (i : Nat) : (s.bump f i).stages = s.stages := State.wr_stages ..
@[simp] theorem State.bump_health (s : State) (f : Fld) (i : Nat) : (s.bump f i).health = s.health := State.wr_health ..
@[simp] theorem State.bump_phRetry (s : State) (f : Fld) (i : Nat) : (s.bump f i).phRetry = s.phRetry := State.wr_phRetry ..
@[simp] theorem State.bump_phJoin (s : State) (f : Fld) (i : Nat) : (s.bump f i).phJoin = s.phJoin := State.wr_phJoin ..
@[simp] theorem State.bump_mids (s : State) (f : Fld) (i : Nat) : (s.bump f i).mids = s.mids := State.wr_mids ..
@[simp] theorem State.bump_overload (s : State) (f : Fld) (i : Nat) : (s.bump f i).overload = s.overload := State.wr_overload ..
@[simp] theorem State.bump_cist (s : State) (f : Fld) (i : Nat) : (s.bump f i).cist = s.cist := State.wr_cist ..
@[simp] theorem State.bump_seq (s : State) (f : Fld) (i : Nat) : (s.bump f i).seq = s.seq := State.wr_seq ..
@[simp] theorem State.bump_wmon (s : State) (f : Fld) (i : Nat) : (s.bump f i).wmon = s.wmon := State.wr_wmon ..
@[simp] theorem State.bump_faults (s : State) (f : Fld) (i : Nat) : (s.bump f i).faults = s.faults := State.wr_faults ..
@[simp] theorem State.bump_pert (s : State) (f : Fld) (i : Nat) : (s.bump f i).pert = s.pert := State.wr_pert ..
@[simp] theorem State.bump_well (s : State) (f : Fld) (i : Nat) : (s.bump f i).well = s.well := State.wr_well ..
@[simp] theorem State.bump_est (s : State) (f : Fld) (i : Nat) : (s.bump f i).est = s.est := State.wr_est ..
@[simp] theorem State.bump_commit (s : State) (f : Fld) (i : Nat) : (s.bump f i).commit = s.commit := State.wr_commit ..
@[simp] theorem State.bump_mbx (s : State) (f : Fld) (i : Nat) : (s.bump f i).mbx = s.mbx := State.wr_mbx ..
@[simp] theorem State.bump_tw (s : State) (f : Fld) (i : Nat) : (s.bump f i).tw = s.tw := State.wr_tw ..
@[simp] theorem State.bump_twin (s : State) (f : Fld) (i : Nat) : (s.bump f i).twin = s.twin := State.wr_twin ..
@[simp] theorem State.bump_meas (s : State) (f : Fld) (i : Nat) : (s.bump f i).meas = s.meas := State.wr_meas ..
@[simp] theorem State.bump_met (s : State) (f : Fld) (i : Nat) : (s.bump f i).met = s.met := State.wr_met ..
@[simp] theorem State.bump_rtc (s : State) (f : Fld) (i : Nat) : (s.bump f i).rtc = s.rtc := State.wr_rtc ..
@[simp] theorem State.bump_timers (s : State) (f : Fld) (i : Nat) : (s.bump f i).timers = s.timers := State.wr_timers ..
@[simp] theorem State.bump_wdt (s : State) (f : Fld) (i : Nat) : (s.bump f i).wdt = s.wdt := State.wr_wdt ..
@[simp] theorem State.bump_otp (s : State) (f : Fld) (i : Nat) : (s.bump f i).otp = s.otp := State.wr_otp ..
@[simp] theorem State.bump_logb (s : State) (f : Fld) (i : Nat) : (s.bump f i).logb = s.logb := State.wr_logb ..

@[simp] theorem State.setPower_pending (s : State) (g : Power → Power) : (s.setPower g).pending = s.pending := rfl
@[simp] theorem State.setPower_out (s : State) (g : Power → Power) : (s.setPower g).out = s.out := rfl
@[simp] theorem State.setPower_due (s : State) (g : Power → Power) : (s.setPower g).due = s.due := rfl
@[simp] theorem State.setPower_now (s : State) (g : Power → Power) : (s.setPower g).now = s.now := rfl
@[simp] theorem State.setPower_free (s : State) (g : Power → Power) : (s.setPower g).free = s.free := rfl
@[simp] theorem State.setPower_sts (s : State) (g : Power → Power) : (s.setPower g).sts = s.sts := rfl
@[simp] theorem State.setPower_stag (s : State) (g : Power → Power) : (s.setPower g).stag = s.stag := rfl
@[simp] theorem State.setPower_act (s : State) (g : Power → Power) : (s.setPower g).act = s.act := rfl
@[simp] theorem State.setPower_tb (s : State) (g : Power → Power) : (s.setPower g).tb = s.tb := rfl
@[simp] theorem State.setPower_sched (s : State) (g : Power → Power) : (s.setPower g).sched = s.sched := rfl
@[simp] theorem State.setPower_feeds (s : State) (g : Power → Power) : (s.setPower g).feeds = s.feeds := rfl
@[simp] theorem State.setPower_stages (s : State) (g : Power → Power) : (s.setPower g).stages = s.stages := rfl
@[simp] theorem State.setPower_health (s : State) (g : Power → Power) : (s.setPower g).health = s.health := rfl
@[simp] theorem State.setPower_phRetry (s : State) (g : Power → Power) : (s.setPower g).phRetry = s.phRetry := rfl
@[simp] theorem State.setPower_phJoin (s : State) (g : Power → Power) : (s.setPower g).phJoin = s.phJoin := rfl
@[simp] theorem State.setPower_mids (s : State) (g : Power → Power) : (s.setPower g).mids = s.mids := rfl
@[simp] theorem State.setPower_overload (s : State) (g : Power → Power) : (s.setPower g).overload = s.overload := rfl
@[simp] theorem State.setPower_cist (s : State) (g : Power → Power) : (s.setPower g).cist = s.cist := rfl
@[simp] theorem State.setPower_seq (s : State) (g : Power → Power) : (s.setPower g).seq = s.seq := rfl
@[simp] theorem State.setPower_wmon (s : State) (g : Power → Power) : (s.setPower g).wmon = s.wmon := rfl
@[simp] theorem State.setPower_faults (s : State) (g : Power → Power) : (s.setPower g).faults = s.faults := rfl
@[simp] theorem State.setPower_pert (s : State) (g : Power → Power) : (s.setPower g).pert = s.pert := rfl
@[simp] theorem State.setPower_well (s : State) (g : Power → Power) : (s.setPower g).well = s.well := rfl
@[simp] theorem State.setPower_est (s : State) (g : Power → Power) : (s.setPower g).est = s.est := rfl
@[simp] theorem State.setPower_ring (s : State) (g : Power → Power) : (s.setPower g).ring = s.ring := rfl
@[simp] theorem State.setPower_commit (s : State) (g : Power → Power) : (s.setPower g).commit = s.commit := rfl
@[simp] theorem State.setPower_mbx (s : State) (g : Power → Power) : (s.setPower g).mbx = s.mbx := rfl
@[simp] theorem State.setPower_tw (s : State) (g : Power → Power) : (s.setPower g).tw = s.tw := rfl
@[simp] theorem State.setPower_twin (s : State) (g : Power → Power) : (s.setPower g).twin = s.twin := rfl
@[simp] theorem State.setPower_meas (s : State) (g : Power → Power) : (s.setPower g).meas = s.meas := rfl
@[simp] theorem State.setPower_met (s : State) (g : Power → Power) : (s.setPower g).met = s.met := rfl
@[simp] theorem State.setPower_rtc (s : State) (g : Power → Power) : (s.setPower g).rtc = s.rtc := rfl
@[simp] theorem State.setPower_timers (s : State) (g : Power → Power) : (s.setPower g).timers = s.timers := rfl
@[simp] theorem State.setPower_wdt (s : State) (g : Power → Power) : (s.setPower g).wdt = s.wdt := rfl
@[simp] theorem State.setPower_otp (s : State) (g : Power → Power) : (s.setPower g).otp = s.otp := rfl
@[simp] theorem State.setPower_logb (s : State) (g : Power → Power) : (s.setPower g).logb = s.logb := rfl
@[simp] theorem State.setPower_power (s : State) (g : Power → Power) : (s.setPower g).power = g s.power := rfl
@[simp] theorem State.rd_setPower (s : State) (g : Power → Power) (f : Fld) (i : Nat) : (s.setPower g).rd f i = s.rd f i := rfl

@[simp] theorem State.setSeq_pending (s : State) (g : Seq → Seq) : (s.setSeq g).pending = s.pending := rfl
@[simp] theorem State.setSeq_out (s : State) (g : Seq → Seq) : (s.setSeq g).out = s.out := rfl
@[simp] theorem State.setSeq_due (s : State) (g : Seq → Seq) : (s.setSeq g).due = s.due := rfl
@[simp] theorem State.setSeq_now (s : State) (g : Seq → Seq) : (s.setSeq g).now = s.now := rfl
@[simp] theorem State.setSeq_free (s : State) (g : Seq → Seq) : (s.setSeq g).free = s.free := rfl
@[simp] theorem State.setSeq_sts (s : State) (g : Seq → Seq) : (s.setSeq g).sts = s.sts := rfl
@[simp] theorem State.setSeq_stag (s : State) (g : Seq → Seq) : (s.setSeq g).stag = s.stag := rfl
@[simp] theorem State.setSeq_act (s : State) (g : Seq → Seq) : (s.setSeq g).act = s.act := rfl
@[simp] theorem State.setSeq_power (s : State) (g : Seq → Seq) : (s.setSeq g).power = s.power := rfl
@[simp] theorem State.setSeq_tb (s : State) (g : Seq → Seq) : (s.setSeq g).tb = s.tb := rfl
@[simp] theorem State.setSeq_sched (s : State) (g : Seq → Seq) : (s.setSeq g).sched = s.sched := rfl
@[simp] theorem State.setSeq_feeds (s : State) (g : Seq → Seq) : (s.setSeq g).feeds = s.feeds := rfl
@[simp] theorem State.setSeq_stages (s : State) (g : Seq → Seq) : (s.setSeq g).stages = s.stages := rfl
@[simp] theorem State.setSeq_health (s : State) (g : Seq → Seq) : (s.setSeq g).health = s.health := rfl
@[simp] theorem State.setSeq_phRetry (s : State) (g : Seq → Seq) : (s.setSeq g).phRetry = s.phRetry := rfl
@[simp] theorem State.setSeq_phJoin (s : State) (g : Seq → Seq) : (s.setSeq g).phJoin = s.phJoin := rfl
@[simp] theorem State.setSeq_mids (s : State) (g : Seq → Seq) : (s.setSeq g).mids = s.mids := rfl
@[simp] theorem State.setSeq_overload (s : State) (g : Seq → Seq) : (s.setSeq g).overload = s.overload := rfl
@[simp] theorem State.setSeq_cist (s : State) (g : Seq → Seq) : (s.setSeq g).cist = s.cist := rfl
@[simp] theorem State.setSeq_wmon (s : State) (g : Seq → Seq) : (s.setSeq g).wmon = s.wmon := rfl
@[simp] theorem State.setSeq_faults (s : State) (g : Seq → Seq) : (s.setSeq g).faults = s.faults := rfl
@[simp] theorem State.setSeq_pert (s : State) (g : Seq → Seq) : (s.setSeq g).pert = s.pert := rfl
@[simp] theorem State.setSeq_well (s : State) (g : Seq → Seq) : (s.setSeq g).well = s.well := rfl
@[simp] theorem State.setSeq_est (s : State) (g : Seq → Seq) : (s.setSeq g).est = s.est := rfl
@[simp] theorem State.setSeq_ring (s : State) (g : Seq → Seq) : (s.setSeq g).ring = s.ring := rfl
@[simp] theorem State.setSeq_commit (s : State) (g : Seq → Seq) : (s.setSeq g).commit = s.commit := rfl
@[simp] theorem State.setSeq_mbx (s : State) (g : Seq → Seq) : (s.setSeq g).mbx = s.mbx := rfl
@[simp] theorem State.setSeq_tw (s : State) (g : Seq → Seq) : (s.setSeq g).tw = s.tw := rfl
@[simp] theorem State.setSeq_twin (s : State) (g : Seq → Seq) : (s.setSeq g).twin = s.twin := rfl
@[simp] theorem State.setSeq_meas (s : State) (g : Seq → Seq) : (s.setSeq g).meas = s.meas := rfl
@[simp] theorem State.setSeq_met (s : State) (g : Seq → Seq) : (s.setSeq g).met = s.met := rfl
@[simp] theorem State.setSeq_rtc (s : State) (g : Seq → Seq) : (s.setSeq g).rtc = s.rtc := rfl
@[simp] theorem State.setSeq_timers (s : State) (g : Seq → Seq) : (s.setSeq g).timers = s.timers := rfl
@[simp] theorem State.setSeq_wdt (s : State) (g : Seq → Seq) : (s.setSeq g).wdt = s.wdt := rfl
@[simp] theorem State.setSeq_otp (s : State) (g : Seq → Seq) : (s.setSeq g).otp = s.otp := rfl
@[simp] theorem State.setSeq_logb (s : State) (g : Seq → Seq) : (s.setSeq g).logb = s.logb := rfl
@[simp] theorem State.setSeq_seq (s : State) (g : Seq → Seq) : (s.setSeq g).seq = g s.seq := rfl
@[simp] theorem State.rd_setSeq (s : State) (g : Seq → Seq) (f : Fld) (i : Nat) : (s.setSeq g).rd f i = s.rd f i := rfl

@[simp] theorem State.setWell_pending (s : State) (g : Well → Well) : (s.setWell g).pending = s.pending := rfl
@[simp] theorem State.setWell_out (s : State) (g : Well → Well) : (s.setWell g).out = s.out := rfl
@[simp] theorem State.setWell_due (s : State) (g : Well → Well) : (s.setWell g).due = s.due := rfl
@[simp] theorem State.setWell_now (s : State) (g : Well → Well) : (s.setWell g).now = s.now := rfl
@[simp] theorem State.setWell_free (s : State) (g : Well → Well) : (s.setWell g).free = s.free := rfl
@[simp] theorem State.setWell_sts (s : State) (g : Well → Well) : (s.setWell g).sts = s.sts := rfl
@[simp] theorem State.setWell_stag (s : State) (g : Well → Well) : (s.setWell g).stag = s.stag := rfl
@[simp] theorem State.setWell_act (s : State) (g : Well → Well) : (s.setWell g).act = s.act := rfl
@[simp] theorem State.setWell_power (s : State) (g : Well → Well) : (s.setWell g).power = s.power := rfl
@[simp] theorem State.setWell_tb (s : State) (g : Well → Well) : (s.setWell g).tb = s.tb := rfl
@[simp] theorem State.setWell_sched (s : State) (g : Well → Well) : (s.setWell g).sched = s.sched := rfl
@[simp] theorem State.setWell_feeds (s : State) (g : Well → Well) : (s.setWell g).feeds = s.feeds := rfl
@[simp] theorem State.setWell_stages (s : State) (g : Well → Well) : (s.setWell g).stages = s.stages := rfl
@[simp] theorem State.setWell_health (s : State) (g : Well → Well) : (s.setWell g).health = s.health := rfl
@[simp] theorem State.setWell_phRetry (s : State) (g : Well → Well) : (s.setWell g).phRetry = s.phRetry := rfl
@[simp] theorem State.setWell_phJoin (s : State) (g : Well → Well) : (s.setWell g).phJoin = s.phJoin := rfl
@[simp] theorem State.setWell_mids (s : State) (g : Well → Well) : (s.setWell g).mids = s.mids := rfl
@[simp] theorem State.setWell_overload (s : State) (g : Well → Well) : (s.setWell g).overload = s.overload := rfl
@[simp] theorem State.setWell_cist (s : State) (g : Well → Well) : (s.setWell g).cist = s.cist := rfl
@[simp] theorem State.setWell_seq (s : State) (g : Well → Well) : (s.setWell g).seq = s.seq := rfl
@[simp] theorem State.setWell_wmon (s : State) (g : Well → Well) : (s.setWell g).wmon = s.wmon := rfl
@[simp] theorem State.setWell_faults (s : State) (g : Well → Well) : (s.setWell g).faults = s.faults := rfl
@[simp] theorem State.setWell_pert (s : State) (g : Well → Well) : (s.setWell g).pert = s.pert := rfl
@[simp] theorem State.setWell_est (s : State) (g : Well → Well) : (s.setWell g).est = s.est := rfl
@[simp] theorem State.setWell_ring (s : State) (g : Well → Well) : (s.setWell g).ring = s.ring := rfl
@[simp] theorem State.setWell_commit (s : State) (g : Well → Well) : (s.setWell g).commit = s.commit := rfl
@[simp] theorem State.setWell_mbx (s : State) (g : Well → Well) : (s.setWell g).mbx = s.mbx := rfl
@[simp] theorem State.setWell_tw (s : State) (g : Well → Well) : (s.setWell g).tw = s.tw := rfl
@[simp] theorem State.setWell_twin (s : State) (g : Well → Well) : (s.setWell g).twin = s.twin := rfl
@[simp] theorem State.setWell_meas (s : State) (g : Well → Well) : (s.setWell g).meas = s.meas := rfl
@[simp] theorem State.setWell_met (s : State) (g : Well → Well) : (s.setWell g).met = s.met := rfl
@[simp] theorem State.setWell_rtc (s : State) (g : Well → Well) : (s.setWell g).rtc = s.rtc := rfl
@[simp] theorem State.setWell_timers (s : State) (g : Well → Well) : (s.setWell g).timers = s.timers := rfl
@[simp] theorem State.setWell_wdt (s : State) (g : Well → Well) : (s.setWell g).wdt = s.wdt := rfl
@[simp] theorem State.setWell_otp (s : State) (g : Well → Well) : (s.setWell g).otp = s.otp := rfl
@[simp] theorem State.setWell_logb (s : State) (g : Well → Well) : (s.setWell g).logb = s.logb := rfl
@[simp] theorem State.setWell_well (s : State) (g : Well → Well) : (s.setWell g).well = g s.well := rfl
@[simp] theorem State.rd_setWell (s : State) (g : Well → Well) (f : Fld) (i : Nat) : (s.setWell g).rd f i = s.rd f i := rfl

@[simp] theorem State.setRtc_pending (s : State) (g : Rtc → Rtc) : (s.setRtc g).pending = s.pending := rfl
@[simp] theorem State.setRtc_out (s : State) (g : Rtc → Rtc) : (s.setRtc g).out = s.out := rfl
@[simp] theorem State.setRtc_due (s : State) (g : Rtc → Rtc) : (s.setRtc g).due = s.due := rfl
@[simp] theorem State.setRtc_now (s : State) (g : Rtc → Rtc) : (s.setRtc g).now = s.now := rfl
@[simp] theorem State.setRtc_free (s : State) (g : Rtc → Rtc) : (s.setRtc g).free = s.free := rfl
@[simp] theorem State.setRtc_sts (s : State) (g : Rtc → Rtc) : (s.setRtc g).sts = s.sts := rfl
@[simp] theorem State.setRtc_stag (s : State) (g : Rtc → Rtc) : (s.setRtc g).stag = s.stag := rfl
@[simp] theorem State.setRtc_act (s : State) (g : Rtc → Rtc) : (s.setRtc g).act = s.act := rfl
@[simp] theorem State.setRtc_power (s : State) (g : Rtc → Rtc) : (s.setRtc g).power = s.power := rfl
@[simp] theorem State.setRtc_tb (s : State) (g : Rtc → Rtc) : (s.setRtc g).tb = s.tb := rfl
@[simp] theorem State.setRtc_sched (s : State) (g : Rtc → Rtc) : (s.setRtc g).sched = s.sched := rfl
@[simp] theorem State.setRtc_feeds (s : State) (g : Rtc → Rtc) : (s.setRtc g).feeds = s.feeds := rfl
@[simp] theorem State.setRtc_stages (s : State) (g : Rtc → Rtc) : (s.setRtc g).stages = s.stages := rfl
@[simp] theorem State.setRtc_health (s : State) (g : Rtc → Rtc) : (s.setRtc g).health = s.health := rfl
@[simp] theorem State.setRtc_phRetry (s : State) (g : Rtc → Rtc) : (s.setRtc g).phRetry = s.phRetry := rfl
@[simp] theorem State.setRtc_phJoin (s : State) (g : Rtc → Rtc) : (s.setRtc g).phJoin = s.phJoin := rfl
@[simp] theorem State.setRtc_mids (s : State) (g : Rtc → Rtc) : (s.setRtc g).mids = s.mids := rfl
@[simp] theorem State.setRtc_overload (s : State) (g : Rtc → Rtc) : (s.setRtc g).overload = s.overload := rfl
@[simp] theorem State.setRtc_cist (s : State) (g : Rtc → Rtc) : (s.setRtc g).cist = s.cist := rfl
@[simp] theorem State.setRtc_seq (s : State) (g : Rtc → Rtc) : (s.setRtc g).seq = s.seq := rfl
@[simp] theorem State.setRtc_wmon (s : State) (g : Rtc → Rtc) : (s.setRtc g).wmon = s.wmon := rfl
@[simp] theorem State.setRtc_faults (s : State) (g : Rtc → Rtc) : (s.setRtc g).faults = s.faults := rfl
@[simp] theorem State.setRtc_pert (s : State) (g : Rtc → Rtc) : (s.setRtc g).pert = s.pert := rfl
@[simp] theorem State.setRtc_well (s : State) (g : Rtc → Rtc) : (s.setRtc g).well = s.well := rfl
@[simp] theorem State.setRtc_est (s : State) (g : Rtc → Rtc) : (s.setRtc g).est = s.est := rfl
@[simp] theorem State.setRtc_ring (s : State) (g : Rtc → Rtc) : (s.setRtc g).ring = s.ring := rfl
@[simp] theorem State.setRtc_commit (s : State) (g : Rtc → Rtc) : (s.setRtc g).commit = s.commit := rfl
@[simp] theorem State.setRtc_mbx (s : State) (g : Rtc → Rtc) : (s.setRtc g).mbx = s.mbx := rfl
@[simp] theorem State.setRtc_tw (s : State) (g : Rtc → Rtc) : (s.setRtc g).tw = s.tw := rfl
@[simp] theorem State.setRtc_twin (s : State) (g : Rtc → Rtc) : (s.setRtc g).twin = s.twin := rfl
@[simp] theorem State.setRtc_meas (s : State) (g : Rtc → Rtc) : (s.setRtc g).meas = s.meas := rfl
@[simp] theorem State.setRtc_met (s : State) (g : Rtc → Rtc) : (s.setRtc g).met = s.met := rfl
@[simp] theorem State.setRtc_timers (s : State) (g : Rtc → Rtc) : (s.setRtc g).timers = s.timers := rfl
@[simp] theorem State.setRtc_wdt (s : State) (g : Rtc → Rtc) : (s.setRtc g).wdt = s.wdt := rfl
@[simp] theorem State.setRtc_otp (s : State) (g : Rtc → Rtc) : (s.setRtc g).otp = s.otp := rfl
@[simp] theorem State.setRtc_logb (s : State) (g : Rtc → Rtc) : (s.setRtc g).logb = s.logb := rfl
@[simp] theorem State.setRtc_rtc (s : State) (g : Rtc → Rtc) : (s.setRtc g).rtc = g s.rtc := rfl
@[simp] theorem State.rd_setRtc (s : State) (g : Rtc → Rtc) (f : Fld) (i : Nat) : (s.setRtc g).rd f i = s.rd f i := rfl

/-- What the device does with the control plane, and in which state, hangs on the power part alone. -/
@[simp] theorem State.wr_on (s : State) (f : Fld) (i v : Nat) : (s.wr f i v).on = s.on := by simp [State.on]
@[simp] theorem State.wr_safe (s : State) (f : Fld) (i v : Nat) : (s.wr f i v).safe = s.safe := by simp [State.safe]
@[simp] theorem State.wr_cf (s : State) (f g : Fld) (i j v : Nat) : (s.wr f i v).cf g j = s.cf g j := by simp [State.cf]
@[simp] theorem State.wr_con (s : State) (f g : Fld) (i j v : Nat) : (s.wr f i v).con g j = s.con g j := by simp [State.con]
@[simp] theorem State.bump_on (s : State) (f : Fld) (i : Nat) : (s.bump f i).on = s.on := State.wr_on ..
@[simp] theorem State.bump_safe (s : State) (f : Fld) (i : Nat) : (s.bump f i).safe = s.safe := State.wr_safe ..
@[simp] theorem State.bump_cf (s : State) (f g : Fld) (i j : Nat) : (s.bump f i).cf g j = s.cf g j := State.wr_cf ..
@[simp] theorem State.bump_con (s : State) (f g : Fld) (i j : Nat) : (s.bump f i).con g j = s.con g j := State.wr_con ..

-- What a state machine's passing state leaves

/-- Noting a passing state changes `mids` alone. -/
theorem State.note_mids (s : State) (f : Fld) (i : Nat) : ∃ l, s.note f i = { s with mids := l } := by
  unfold State.note
  split
  · exact ⟨_, rfl⟩
  · exact ⟨s.mids, rfl⟩

@[simp] theorem State.note_rd (s : State) (f g : Fld) (i j : Nat) : (s.note f i).rd g j = s.rd g j := by
  obtain ⟨l, h⟩ := s.note_mids f i; rw [h]; rfl
@[simp] theorem State.note_cf (s : State) (f g : Fld) (i j : Nat) : (s.note f i).cf g j = s.cf g j := by
  obtain ⟨l, h⟩ := s.note_mids f i; rw [h]; rfl
@[simp] theorem State.note_power (s : State) (f : Fld) (i : Nat) : (s.note f i).power = s.power := by
  obtain ⟨l, h⟩ := s.note_mids f i; rw [h]
@[simp] theorem State.note_on (s : State) (f : Fld) (i : Nat) : (s.note f i).on = s.on := by simp [State.on]
@[simp] theorem State.note_safe (s : State) (f : Fld) (i : Nat) : (s.note f i).safe = s.safe := by simp [State.safe]

-- What an idle microsecond's regulation changes of a rail and of a slot

@[simp] theorem State.setSt_rd (s : State) (r : Nat) (g : Stage → Stage) (f : Fld) (i : Nat) : (s.setSt r g).rd f i = s.rd f i := rfl
@[simp] theorem State.setTwin_rd (s : State) (g : Twin → Twin) (f : Fld) (i : Nat) : (s.setTwin g).rd f i = s.rd f i := rfl

/-- A rail's reference moves in its stage alone. -/
theorem State.refMicro_setSt (s : State) (r : Nat) : ∃ g, s.refMicro r = s ∨ s.refMicro r = s.setSt r g := by
  unfold State.refMicro
  split
  · exact ⟨id, .inl rfl⟩
  · exact ⟨_, .inr rfl⟩

@[simp] theorem State.refMicro_rd (s : State) (r : Nat) (f : Fld) (i : Nat) : (s.refMicro r).rd f i = s.rd f i := by
  obtain ⟨g, h | h⟩ := s.refMicro_setSt r <;> rw [h]
  exact State.setSt_rd ..

@[simp] theorem State.trimSlot_rd (s : State) (k : Nat) (f : Fld) (i : Nat) : (s.trimSlot k).rd f i = s.rd f i := by
  unfold State.trimSlot
  exact State.setTwin_rd ..

end Sys2Proof.Machine
end

