-- ==== Sys2Proof/Laws/Report.lean ====
section
/-! SUPPORT. What a report changes: a record, an interrupt message and an event touch the queues of the record rings, the fault
blocks and the answers of the command, and nothing else. -/

namespace Sys2Proof.Machine

open Sys2Proof

@[simp] theorem State.emitAt_pending (s : State) (t src typ : Nat) (pay : List Byte) : (s.emitAt t src typ pay).pending = s.pending := by unfold State.emitAt; split <;> rfl
@[simp] theorem State.emitAt_out (s : State) (t src typ : Nat) (pay : List Byte) : (s.emitAt t src typ pay).out = s.out := by unfold State.emitAt; split <;> rfl
@[simp] theorem State.emitAt_due (s : State) (t src typ : Nat) (pay : List Byte) : (s.emitAt t src typ pay).due = s.due := by unfold State.emitAt; split <;> rfl
@[simp] theorem State.emitAt_now (s : State) (t src typ : Nat) (pay : List Byte) : (s.emitAt t src typ pay).now = s.now := by unfold State.emitAt; split <;> rfl
@[simp] theorem State.emitAt_free (s : State) (t src typ : Nat) (pay : List Byte) : (s.emitAt t src typ pay).free = s.free := by unfold State.emitAt; split <;> rfl
@[simp] theorem State.emitAt_sts (s : State) (t src typ : Nat) (pay : List Byte) : (s.emitAt t src typ pay).sts = s.sts := by unfold State.emitAt; split <;> rfl
@[simp] theorem State.emitAt_stag (s : State) (t src typ : Nat) (pay : List Byte) : (s.emitAt t src typ pay).stag = s.stag := by unfold State.emitAt; split <;> rfl
@[simp] theorem State.emitAt_act (s : State) (t src typ : Nat) (pay : List Byte) : (s.emitAt t src typ pay).act = s.act := by unfold State.emitAt; split <;> rfl
@[simp] theorem State.emitAt_power (s : State) (t src typ : Nat) (pay : List Byte) : (s.emitAt t src typ pay).power = s.power := by unfold State.emitAt; split <;> rfl
@[simp] theorem State.emitAt_tb (s : State) (t src typ : Nat) (pay : List Byte) : (s.emitAt t src typ pay).tb = s.tb := by unfold State.emitAt; split <;> rfl
@[simp] theorem State.emitAt_sched (s : State) (t src typ : Nat) (pay : List Byte) : (s.emitAt t src typ pay).sched = s.sched := by unfold State.emitAt; split <;> rfl
@[simp] theorem State.emitAt_feeds (s : State) (t src typ : Nat) (pay : List Byte) : (s.emitAt t src typ pay).feeds = s.feeds := by unfold State.emitAt; split <;> rfl
@[simp] theorem State.emitAt_stages (s : State) (t src typ : Nat) (pay : List Byte) : (s.emitAt t src typ pay).stages = s.stages := by unfold State.emitAt; split <;> rfl
@[simp] theorem State.emitAt_health (s : State) (t src typ : Nat) (pay : List Byte) : (s.emitAt t src typ pay).health = s.health := by unfold State.emitAt; split <;> rfl
@[simp] theorem State.emitAt_phRetry (s : State) (t src typ : Nat) (pay : List Byte) : (s.emitAt t src typ pay).phRetry = s.phRetry := by unfold State.emitAt; split <;> rfl
@[simp] theorem State.emitAt_phJoin (s : State) (t src typ : Nat) (pay : List Byte) : (s.emitAt t src typ pay).phJoin = s.phJoin := by unfold State.emitAt; split <;> rfl
@[simp] theorem State.emitAt_mids (s : State) (t src typ : Nat) (pay : List Byte) : (s.emitAt t src typ pay).mids = s.mids := by unfold State.emitAt; split <;> rfl
@[simp] theorem State.emitAt_overload (s : State) (t src typ : Nat) (pay : List Byte) : (s.emitAt t src typ pay).overload = s.overload := by unfold State.emitAt; split <;> rfl
@[simp] theorem State.emitAt_cist (s : State) (t src typ : Nat) (pay : List Byte) : (s.emitAt t src typ pay).cist = s.cist := by unfold State.emitAt; split <;> rfl
@[simp] theorem State.emitAt_seq (s : State) (t src typ : Nat) (pay : List Byte) : (s.emitAt t src typ pay).seq = s.seq := by unfold State.emitAt; split <;> rfl
@[simp] theorem State.emitAt_wmon (s : State) (t src typ : Nat) (pay : List Byte) : (s.emitAt t src typ pay).wmon = s.wmon := by unfold State.emitAt; split <;> rfl
@[simp] theorem State.emitAt_faults (s : State) (t src typ : Nat) (pay : List Byte) : (s.emitAt t src typ pay).faults = s.faults := by unfold State.emitAt; split <;> rfl
@[simp] theorem State.emitAt_pert (s : State) (t src typ : Nat) (pay : List Byte) : (s.emitAt t src typ pay).pert = s.pert := by unfold State.emitAt; split <;> rfl
@[simp] theorem State.emitAt_well (s : State) (t src typ : Nat) (pay : List Byte) : (s.emitAt t src typ pay).well = s.well := by unfold State.emitAt; split <;> rfl
@[simp] theorem State.emitAt_est (s : State) (t src typ : Nat) (pay : List Byte) : (s.emitAt t src typ pay).est = s.est := by unfold State.emitAt; split <;> rfl
@[simp] theorem State.emitAt_commit (s : State) (t src typ : Nat) (pay : List Byte) : (s.emitAt t src typ pay).commit = s.commit := by unfold State.emitAt; split <;> rfl
@[simp] theorem State.emitAt_mbx (s : State) (t src typ : Nat) (pay : List Byte) : (s.emitAt t src typ pay).mbx = s.mbx := by unfold State.emitAt; split <;> rfl
@[simp] theorem State.emitAt_tw (s : State) (t src typ : Nat) (pay : List Byte) : (s.emitAt t src typ pay).tw = s.tw := by unfold State.emitAt; split <;> rfl
@[simp] theorem State.emitAt_twin (s : State) (t src typ : Nat) (pay : List Byte) : (s.emitAt t src typ pay).twin = s.twin := by unfold State.emitAt; split <;> rfl
@[simp] theorem State.emitAt_meas (s : State) (t src typ : Nat) (pay : List Byte) : (s.emitAt t src typ pay).meas = s.meas := by unfold State.emitAt; split <;> rfl
@[simp] theorem State.emitAt_met (s : State) (t src typ : Nat) (pay : List Byte) : (s.emitAt t src typ pay).met = s.met := by unfold State.emitAt; split <;> rfl
@[simp] theorem State.emitAt_rtc (s : State) (t src typ : Nat) (pay : List Byte) : (s.emitAt t src typ pay).rtc = s.rtc := by unfold State.emitAt; split <;> rfl
@[simp] theorem State.emitAt_timers (s : State) (t src typ : Nat) (pay : List Byte) : (s.emitAt t src typ pay).timers = s.timers := by unfold State.emitAt; split <;> rfl
@[simp] theorem State.emitAt_wdt (s : State) (t src typ : Nat) (pay : List Byte) : (s.emitAt t src typ pay).wdt = s.wdt := by unfold State.emitAt; split <;> rfl
@[simp] theorem State.emitAt_otp (s : State) (t src typ : Nat) (pay : List Byte) : (s.emitAt t src typ pay).otp = s.otp := by unfold State.emitAt; split <;> rfl
@[simp] theorem State.emitAt_logb (s : State) (t src typ : Nat) (pay : List Byte) : (s.emitAt t src typ pay).logb = s.logb := by unfold State.emitAt; split <;> rfl

@[simp] theorem State.emit_pending (s : State) (src typ : Nat) (pay : List Byte) : (s.emit src typ pay).pending = s.pending := State.emitAt_pending ..
@[simp] theorem State.emit_out (s : State) (src typ : Nat) (pay : List Byte) : (s.emit src typ pay).out = s.out := State.emitAt_out ..
@[simp] theorem State.emit_due (s : State) (src typ : Nat) (pay : List Byte) : (s.emit src typ pay).due = s.due := State.emitAt_due ..
@[simp] theorem State.emit_now (s : State) (src typ : Nat) (pay : List Byte) : (s.emit src typ pay).now = s.now := State.emitAt_now ..
@[simp] theorem State.emit_free (s : State) (src typ : Nat) (pay : List Byte) : (s.emit src typ pay).free = s.free := State.emitAt_free ..
@[simp] theorem State.emit_sts (s : State) (src typ : Nat) (pay : List Byte) : (s.emit src typ pay).sts = s.sts := State.emitAt_sts ..
@[simp] theorem State.emit_stag (s : State) (src typ : Nat) (pay : List Byte) : (s.emit src typ pay).stag = s.stag := State.emitAt_stag ..
@[simp] theorem State.emit_act (s : State) (src typ : Nat) (pay : List Byte) : (s.emit src typ pay).act = s.act := State.emitAt_act ..
@[simp] theorem State.emit_power (s : State) (src typ : Nat) (pay : List Byte) : (s.emit src typ pay).power = s.power := State.emitAt_power ..
@[simp] theorem State.emit_tb (s : State) (src typ : Nat) (pay : List Byte) : (s.emit src typ pay).tb = s.tb := State.emitAt_tb ..
@[simp] theorem State.emit_sched (s : State) (src typ : Nat) (pay : List Byte) : (s.emit src typ pay).sched = s.sched := State.emitAt_sched ..
@[simp] theorem State.emit_feeds (s : State) (src typ : Nat) (pay : List Byte) : (s.emit src typ pay).feeds = s.feeds := State.emitAt_feeds ..
@[simp] theorem State.emit_stages (s : State) (src typ : Nat) (pay : List Byte) : (s.emit src typ pay).stages = s.stages := State.emitAt_stages ..
@[simp] theorem State.emit_health (s : State) (src typ : Nat) (pay : List Byte) : (s.emit src typ pay).health = s.health := State.emitAt_health ..
@[simp] theorem State.emit_phRetry (s : State) (src typ : Nat) (pay : List Byte) : (s.emit src typ pay).phRetry = s.phRetry := State.emitAt_phRetry ..
@[simp] theorem State.emit_phJoin (s : State) (src typ : Nat) (pay : List Byte) : (s.emit src typ pay).phJoin = s.phJoin := State.emitAt_phJoin ..
@[simp] theorem State.emit_mids (s : State) (src typ : Nat) (pay : List Byte) : (s.emit src typ pay).mids = s.mids := State.emitAt_mids ..
@[simp] theorem State.emit_overload (s : State) (src typ : Nat) (pay : List Byte) : (s.emit src typ pay).overload = s.overload := State.emitAt_overload ..
@[simp] theorem State.emit_cist (s : State) (src typ : Nat) (pay : List Byte) : (s.emit src typ pay).cist = s.cist := State.emitAt_cist ..
@[simp] theorem State.emit_seq (s : State) (src typ : Nat) (pay : List Byte) : (s.emit src typ pay).seq = s.seq := State.emitAt_seq ..
@[simp] theorem State.emit_wmon (s : State) (src typ : Nat) (pay : List Byte) : (s.emit src typ pay).wmon = s.wmon := State.emitAt_wmon ..
@[simp] theorem State.emit_faults (s : State) (src typ : Nat) (pay : List Byte) : (s.emit src typ pay).faults = s.faults := State.emitAt_faults ..
@[simp] theorem State.emit_pert (s : State) (src typ : Nat) (pay : List Byte) : (s.emit src typ pay).pert = s.pert := State.emitAt_pert ..
@[simp] theorem State.emit_well (s : State) (src typ : Nat) (pay : List Byte) : (s.emit src typ pay).well = s.well := State.emitAt_well ..
@[simp] theorem State.emit_est (s : State) (src typ : Nat) (pay : List Byte) : (s.emit src typ pay).est = s.est := State.emitAt_est ..
@[simp] theorem State.emit_commit (s : State) (src typ : Nat) (pay : List Byte) : (s.emit src typ pay).commit = s.commit := State.emitAt_commit ..
@[simp] theorem State.emit_mbx (s : State) (src typ : Nat) (pay : List Byte) : (s.emit src typ pay).mbx = s.mbx := State.emitAt_mbx ..
@[simp] theorem State.emit_tw (s : State) (src typ : Nat) (pay : List Byte) : (s.emit src typ pay).tw = s.tw := State.emitAt_tw ..
@[simp] theorem State.emit_twin (s : State) (src typ : Nat) (pay : List Byte) : (s.emit src typ pay).twin = s.twin := State.emitAt_twin ..
@[simp] theorem State.emit_meas (s : State) (src typ : Nat) (pay : List Byte) : (s.emit src typ pay).meas = s.meas := State.emitAt_meas ..
@[simp] theorem State.emit_met (s : State) (src typ : Nat) (pay : List Byte) : (s.emit src typ pay).met = s.met := State.emitAt_met ..
@[simp] theorem State.emit_rtc (s : State) (src typ : Nat) (pay : List Byte) : (s.emit src typ pay).rtc = s.rtc := State.emitAt_rtc ..
@[simp] theorem State.emit_timers (s : State) (src typ : Nat) (pay : List Byte) : (s.emit src typ pay).timers = s.timers := State.emitAt_timers ..
@[simp] theorem State.emit_wdt (s : State) (src typ : Nat) (pay : List Byte) : (s.emit src typ pay).wdt = s.wdt := State.emitAt_wdt ..
@[simp] theorem State.emit_otp (s : State) (src typ : Nat) (pay : List Byte) : (s.emit src typ pay).otp = s.otp := State.emitAt_otp ..
@[simp] theorem State.emit_logb (s : State) (src typ : Nat) (pay : List Byte) : (s.emit src typ pay).logb = s.logb := State.emitAt_logb ..

@[simp] theorem State.message_pending (s : State) (v : Nat) : (s.message v).pending = s.pending := by unfold State.message; (repeat' split) <;> rfl
@[simp] theorem State.message_due (s : State) (v : Nat) : (s.message v).due = s.due := by unfold State.message; (repeat' split) <;> rfl
@[simp] theorem State.message_now (s : State) (v : Nat) : (s.message v).now = s.now := by unfold State.message; (repeat' split) <;> rfl
@[simp] theorem State.message_free (s : State) (v : Nat) : (s.message v).free = s.free := by unfold State.message; (repeat' split) <;> rfl
@[simp] theorem State.message_sts (s : State) (v : Nat) : (s.message v).sts = s.sts := by unfold State.message; (repeat' split) <;> rfl
@[simp] theorem State.message_stag (s : State) (v : Nat) : (s.message v).stag = s.stag := by unfold State.message; (repeat' split) <;> rfl
@[simp] theorem State.message_act (s : State) (v : Nat) : (s.message v).act = s.act := by unfold State.message; (repeat' split) <;> rfl
@[simp] theorem State.message_power (s : State) (v : Nat) : (s.message v).power = s.power := by unfold State.message; (repeat' split) <;> rfl
@[simp] theorem State.message_tb (s : State) (v : Nat) : (s.message v).tb = s.tb := by unfold State.message; (repeat' split) <;> rfl
@[simp] theorem State.message_sched (s : State) (v : Nat) : (s.message v).sched = s.sched := by unfold State.message; (repeat' split) <;> rfl
@[simp] theorem State.message_feeds (s : State) (v : Nat) : (s.message v).feeds = s.feeds := by unfold State.message; (repeat' split) <;> rfl
@[simp] theorem State.message_stages (s : State) (v : Nat) : (s.message v).stages = s.stages := by unfold State.message; (repeat' split) <;> rfl
@[simp] theorem State.message_health (s : State) (v : Nat) : (s.message v).health = s.health := by unfold State.message; (repeat' split) <;> rfl
@[simp] theorem State.message_phRetry (s : State) (v : Nat) : (s.message v).phRetry = s.phRetry := by unfold State.message; (repeat' split) <;> rfl
@[simp] theorem State.message_phJoin (s : State) (v : Nat) : (s.message v).phJoin = s.phJoin := by unfold State.message; (repeat' split) <;> rfl
@[simp] theorem State.message_mids (s : State) (v : Nat) : (s.message v).mids = s.mids := by unfold State.message; (repeat' split) <;> rfl
@[simp] theorem State.message_overload (s : State) (v : Nat) : (s.message v).overload = s.overload := by unfold State.message; (repeat' split) <;> rfl
@[simp] theorem State.message_cist (s : State) (v : Nat) : (s.message v).cist = s.cist := by unfold State.message; (repeat' split) <;> rfl
@[simp] theorem State.message_seq (s : State) (v : Nat) : (s.message v).seq = s.seq := by unfold State.message; (repeat' split) <;> rfl
@[simp] theorem State.message_wmon (s : State) (v : Nat) : (s.message v).wmon = s.wmon := by unfold State.message; (repeat' split) <;> rfl
@[simp] theorem State.message_faults (s : State) (v : Nat) : (s.message v).faults = s.faults := by unfold State.message; (repeat' split) <;> rfl
@[simp] theorem State.message_pert (s : State) (v : Nat) : (s.message v).pert = s.pert := by unfold State.message; (repeat' split) <;> rfl
@[simp] theorem State.message_well (s : State) (v : Nat) : (s.message v).well = s.well := by unfold State.message; (repeat' split) <;> rfl
@[simp] theorem State.message_est (s : State) (v : Nat) : (s.message v).est = s.est := by unfold State.message; (repeat' split) <;> rfl
@[simp] theorem State.message_commit (s : State) (v : Nat) : (s.message v).commit = s.commit := by unfold State.message; (repeat' split) <;> rfl
@[simp] theorem State.message_mbx (s : State) (v : Nat) : (s.message v).mbx = s.mbx := by unfold State.message; (repeat' split) <;> rfl
@[simp] theorem State.message_tw (s : State) (v : Nat) : (s.message v).tw = s.tw := by unfold State.message; (repeat' split) <;> rfl
@[simp] theorem State.message_twin (s : State) (v : Nat) : (s.message v).twin = s.twin := by unfold State.message; (repeat' split) <;> rfl
@[simp] theorem State.message_meas (s : State) (v : Nat) : (s.message v).meas = s.meas := by unfold State.message; (repeat' split) <;> rfl
@[simp] theorem State.message_met (s : State) (v : Nat) : (s.message v).met = s.met := by unfold State.message; (repeat' split) <;> rfl
@[simp] theorem State.message_rtc (s : State) (v : Nat) : (s.message v).rtc = s.rtc := by unfold State.message; (repeat' split) <;> rfl
@[simp] theorem State.message_timers (s : State) (v : Nat) : (s.message v).timers = s.timers := by unfold State.message; (repeat' split) <;> rfl
@[simp] theorem State.message_wdt (s : State) (v : Nat) : (s.message v).wdt = s.wdt := by unfold State.message; (repeat' split) <;> rfl
@[simp] theorem State.message_otp (s : State) (v : Nat) : (s.message v).otp = s.otp := by unfold State.message; (repeat' split) <;> rfl
@[simp] theorem State.message_logb (s : State) (v : Nat) : (s.message v).logb = s.logb := by unfold State.message; (repeat' split) <;> rfl

@[simp] theorem State.interrupt_pending (s : State) (b : Nat) : (s.interrupt b).pending = s.pending := by unfold State.interrupt; split <;> simp
@[simp] theorem State.interrupt_due (s : State) (b : Nat) : (s.interrupt b).due = s.due := by unfold State.interrupt; split <;> simp
@[simp] theorem State.interrupt_now (s : State) (b : Nat) : (s.interrupt b).now = s.now := by unfold State.interrupt; split <;> simp
@[simp] theorem State.interrupt_free (s : State) (b : Nat) : (s.interrupt b).free = s.free := by unfold State.interrupt; split <;> simp
@[simp] theorem State.interrupt_sts (s : State) (b : Nat) : (s.interrupt b).sts = s.sts := by unfold State.interrupt; split <;> simp
@[simp] theorem State.interrupt_stag (s : State) (b : Nat) : (s.interrupt b).stag = s.stag := by unfold State.interrupt; split <;> simp
@[simp] theorem State.interrupt_act (s : State) (b : Nat) : (s.interrupt b).act = s.act := by unfold State.interrupt; split <;> simp
@[simp] theorem State.interrupt_power (s : State) (b : Nat) : (s.interrupt b).power = s.power := by unfold State.interrupt; split <;> simp
@[simp] theorem State.interrupt_tb (s : State) (b : Nat) : (s.interrupt b).tb = s.tb := by unfold State.interrupt; split <;> simp
@[simp] theorem State.interrupt_sched (s : State) (b : Nat) : (s.interrupt b).sched = s.sched := by unfold State.interrupt; split <;> simp
@[simp] theorem State.interrupt_feeds (s : State) (b : Nat) : (s.interrupt b).feeds = s.feeds := by unfold State.interrupt; split <;> simp
@[simp] theorem State.interrupt_stages (s : State) (b : Nat) : (s.interrupt b).stages = s.stages := by unfold State.interrupt; split <;> simp
@[simp] theorem State.interrupt_health (s : State) (b : Nat) : (s.interrupt b).health = s.health := by unfold State.interrupt; split <;> simp
@[simp] theorem State.interrupt_phRetry (s : State) (b : Nat) : (s.interrupt b).phRetry = s.phRetry := by unfold State.interrupt; split <;> simp
@[simp] theorem State.interrupt_phJoin (s : State) (b : Nat) : (s.interrupt b).phJoin = s.phJoin := by unfold State.interrupt; split <;> simp
@[simp] theorem State.interrupt_mids (s : State) (b : Nat) : (s.interrupt b).mids = s.mids := by unfold State.interrupt; split <;> simp
@[simp] theorem State.interrupt_overload (s : State) (b : Nat) : (s.interrupt b).overload = s.overload := by unfold State.interrupt; split <;> simp
@[simp] theorem State.interrupt_cist (s : State) (b : Nat) : (s.interrupt b).cist = s.cist := by unfold State.interrupt; split <;> simp
@[simp] theorem State.interrupt_seq (s : State) (b : Nat) : (s.interrupt b).seq = s.seq := by unfold State.interrupt; split <;> simp
@[simp] theorem State.interrupt_wmon (s : State) (b : Nat) : (s.interrupt b).wmon = s.wmon := by unfold State.interrupt; split <;> simp
@[simp] theorem State.interrupt_faults (s : State) (b : Nat) : (s.interrupt b).faults = s.faults := by unfold State.interrupt; split <;> simp
@[simp] theorem State.interrupt_pert (s : State) (b : Nat) : (s.interrupt b).pert = s.pert := by unfold State.interrupt; split <;> simp
@[simp] theorem State.interrupt_well (s : State) (b : Nat) : (s.interrupt b).well = s.well := by unfold State.interrupt; split <;> simp
@[simp] theorem State.interrupt_est (s : State) (b : Nat) : (s.interrupt b).est = s.est := by unfold State.interrupt; split <;> simp
@[simp] theorem State.interrupt_commit (s : State) (b : Nat) : (s.interrupt b).commit = s.commit := by unfold State.interrupt; split <;> simp
@[simp] theorem State.interrupt_mbx (s : State) (b : Nat) : (s.interrupt b).mbx = s.mbx := by unfold State.interrupt; split <;> simp
@[simp] theorem State.interrupt_tw (s : State) (b : Nat) : (s.interrupt b).tw = s.tw := by unfold State.interrupt; split <;> simp
@[simp] theorem State.interrupt_twin (s : State) (b : Nat) : (s.interrupt b).twin = s.twin := by unfold State.interrupt; split <;> simp
@[simp] theorem State.interrupt_meas (s : State) (b : Nat) : (s.interrupt b).meas = s.meas := by unfold State.interrupt; split <;> simp
@[simp] theorem State.interrupt_met (s : State) (b : Nat) : (s.interrupt b).met = s.met := by unfold State.interrupt; split <;> simp
@[simp] theorem State.interrupt_rtc (s : State) (b : Nat) : (s.interrupt b).rtc = s.rtc := by unfold State.interrupt; split <;> simp
@[simp] theorem State.interrupt_timers (s : State) (b : Nat) : (s.interrupt b).timers = s.timers := by unfold State.interrupt; split <;> simp
@[simp] theorem State.interrupt_wdt (s : State) (b : Nat) : (s.interrupt b).wdt = s.wdt := by unfold State.interrupt; split <;> simp
@[simp] theorem State.interrupt_otp (s : State) (b : Nat) : (s.interrupt b).otp = s.otp := by unfold State.interrupt; split <;> simp
@[simp] theorem State.interrupt_logb (s : State) (b : Nat) : (s.interrupt b).logb = s.logb := by unfold State.interrupt; split <;> simp


-- What a report changes in the registers

theorem RingBlk.rd_wr_ne (r : RingBlk) {f g : Fld} {i j : Nat} (v : Nat) (h : g.key j ≠ f.key i) :
    (r.wr f i v).rd g j = r.rd g j := by
  simp [RingBlk.rd, RingBlk.wr, Tab.get_set_ne _ _ _ _ h]

theorem key_reg (f : Fld) (i : Nat) (hr : f.reg < 0x8000) (hl : f.lo < 32) : f.key i / 32 % 0x8000 = f.reg := by
  unfold Fld.key; omega

/-- A key outside the report registers is not the key of one of their fields. -/
theorem ne_of_reported {f g : Fld} {i j : Nat} (h : reported (g.key j) = false) (hr : f.reg < 0x8000) (hl : f.lo < 32)
    (hf : f.reg ∈ reportRegs) : g.key j ≠ f.key i := by
  intro e
  rw [e] at h
  simp only [reported, key_reg f i hr hl] at h
  rw [List.contains_eq_mem, decide_eq_false_iff_not] at h
  exact h hf

theorem RingBlk.drop_rd (r : RingBlk) (c n : Nat) {f : Fld} {i : Nat} (h : reported (f.key i) = false) :
    (r.drop c n).rd f i = r.rd f i := by
  have hb : (r.bump F.RG_EVT_DROPS c n).rd f i = r.rd f i :=
    RingBlk.rd_wr_ne _ _ (ne_of_reported h (by decide) (by decide) (by decide))
  unfold RingBlk.drop
  simp only []
  split
  · exact hb
  · exact hb

theorem RingBlk.push_rd (r : RingBlk) (c : Nat) (x : Rec) {f : Fld} {i : Nat} (h : reported (f.key i) = false) :
    (r.push c x).rd f i = r.rd f i := by
  unfold RingBlk.push
  split
  · exact RingBlk.rd_wr_ne _ _ (ne_of_reported h (by decide) (by decide) (by decide))
  · simp only []
    split
    · exact RingBlk.drop_rd r c 1 h
    · split
      · exact (RingBlk.rd_wr_ne _ _ (ne_of_reported h (by decide) (by decide) (by decide)))
      · rfl

theorem State.emitAt_rd (s : State) (t src typ : Nat) (pay : List Byte) {f : Fld} {i : Nat}
    (h : reported (f.key i) = false) : (s.emitAt t src typ pay).rd f i = s.rd f i := by
  unfold State.emitAt
  split
  · rfl
  · simp only []
    unfold State.rd
    split
    · split
      · exact RingBlk.rd_wr_ne (f := F.HR_UNROUTED_COUNT) (i := 0) _ _
          (ne_of_reported h (by decide) (by decide) (by decide))
      · exact (RingBlk.push_rd _ _ _ h)
    · rfl

theorem State.emit_rd (s : State) (src typ : Nat) (pay : List Byte) {f : Fld} {i : Nat}
    (h : reported (f.key i) = false) : (s.emit src typ pay).rd f i = s.rd f i := State.emitAt_rd s _ _ _ _ h

theorem State.message_rd (s : State) (v : Nat) (f : Fld) (i : Nat) : (s.message v).rd f i = s.rd f i := by
  unfold State.message
  (repeat' split) <;> rfl

theorem State.interrupt_rd (s : State) (b : Nat) (f : Fld) (i : Nat) : (s.interrupt b).rd f i = s.rd f i := by
  unfold State.interrupt
  split
  · exact State.message_rd ..
  · rfl

theorem State.wr_rd_reported (s : State) {f g : Fld} {i j : Nat} (v : Nat) (h : reported (g.key j) = false)
    (hr : f.reg < 0x8000) (hl : f.lo < 32) (hf : f.reg ∈ reportRegs) : (s.wr f i v).rd g j = s.rd g j :=
  State.rd_wr_ne s v (ne_of_reported h hr hl hf)

theorem State.history_rd (s : State) (b e fl : Nat) (d : EvData) {f : Fld} {i : Nat} (h : reported (f.key i) = false) :
    (s.history b e fl d).rd f i = s.rd f i := by
  have k : ∀ (x : State) (g : Faults), ({ x with faults := g } : State).rd f i = x.rd f i := fun _ _ => rfl
  simp only [State.history, State.bump, State.bumpBy, apply_ite (fun x : State => x.rd f i), k, ite_self,
    State.wr_rd_reported _ _ h (f := F.FH_INFO_ENTRIES) (by decide) (by decide) (by decide),
    State.wr_rd_reported _ _ h (f := F.FH_INFO_NEXT_SEQ) (by decide) (by decide) (by decide),
    State.wr_rd_reported _ _ h (f := F.FH_INFO_OVERWRITES) (by decide) (by decide) (by decide)]

theorem State.tally_rd (s : State) (b e cls : Nat) {f : Fld} {i : Nat} (h : reported (f.key i) = false) :
    (s.tally b e cls).rd f i = s.rd f i := by
  unfold State.tally
  simp only []
  have k : ∀ (x : State) (g : Faults), ({ x with faults := g } : State).rd f i = x.rd f i := fun _ _ => rfl
  split <;>
    simp only [State.bump, State.bumpBy, State.wr_rd_reported _ _ h (f := F.FB_STAT_HIGH) (by decide) (by decide) (by decide),
      State.wr_rd_reported _ _ h (f := F.FB_STAT_LAST) (by decide) (by decide) (by decide),
      State.wr_rd_reported _ _ h (f := F.FB_STAT_EVENTS) (by decide) (by decide) (by decide),
      State.wr_rd_reported _ _ h (f := F.FC_STAT_TOTAL) (by decide) (by decide) (by decide), k]

/-- An event leaves every register alone but those that count reports. -/
theorem State.raise_rd (s : State) (b e : Nat) (d : EvData) {f : Fld} {i : Nat} (h : reported (f.key i) = false) :
    (s.raise b e d).rd f i = s.rd f i := by
  have hc : ∀ (x : State) k, (x.countEvent k).rd f i = x.rd f i := fun _ _ => rfl
  have hp : ∀ (x : State) (b v : Nat), (x.wr F.FB_STAT_PEND b v).rd f i = x.rd f i :=
    fun x b v => State.wr_rd_reported x v h (by decide) (by decide) (by decide)
  have ha : ∀ (x : State) (b e c : Nat), (x.askReaction b e c).rd f i = x.rd f i := by
    intro x b e c
    unfold State.askReaction
    split <;> rfl
  unfold State.raise
  split
  · split
    · unfold State.dormantEvent
      simp only []
      split
      · exact ha ..
      · rfl
    · rfl
  · simp only [ha, apply_ite (fun x : State => x.rd f i), State.interrupt_rd, hp, State.emit_rd _ _ _ _ h, State.tally_rd _ _ _ _ h,
      State.history_rd _ _ _ _ _ h, hc, ite_self]

-- What only reports

/-- What every update of the register file and every report leaves alone. -/
@[simp] theorem State.wr_rest (s : State) (f : Fld) (i v : Nat) : (s.wr f i v).rest = s.rest := by
  unfold State.wr
  split <;> rfl

@[simp] theorem State.bump_rest (s : State) (f : Fld) (i : Nat) : (s.bump f i).rest = s.rest := State.wr_rest ..

@[simp] theorem RingBlk.wr_rest (r : RingBlk) (f : Fld) (i v : Nat) : (r.wr f i v).rest = r.rest := rfl

@[simp] theorem RingBlk.drop_rest (r : RingBlk) (c n : Nat) : (r.drop c n).rest = r.rest := by
  unfold RingBlk.drop
  simp only []
  split <;> rfl

@[simp] theorem RingBlk.push_rest (r : RingBlk) (c : Nat) (x : Rec) : (r.push c x).rest = r.rest := by
  unfold RingBlk.push
  split
  · rfl
  · simp only []
    split
    · simp
    · split <;> rfl

theorem State.rest_ring (s : State) {r : RingBlk} (h : r.rest = s.ring.rest) : ({ s with ring := r } : State).rest = s.rest := by
  simp [State.rest, h]

@[simp] theorem State.emitAt_rest (s : State) (t src typ : Nat) (pay : List Byte) :
    (s.emitAt t src typ pay).rest = s.rest := by
  unfold State.emitAt
  split
  · rfl
  · refine State.rest_ring s ?_
    simp only []
    split
    · rfl
    · rw [RingBlk.push_rest]; rfl

@[simp] theorem State.emit_rest (s : State) (src typ : Nat) (pay : List Byte) : (s.emit src typ pay).rest = s.rest :=
  State.emitAt_rest ..

@[simp] theorem State.message_rest (s : State) (v : Nat) : (s.message v).rest = s.rest := by
  unfold State.message
  (repeat' split) <;> rfl

@[simp] theorem State.interrupt_rest (s : State) (b : Nat) : (s.interrupt b).rest = s.rest := by
  unfold State.interrupt
  split <;> simp

theorem State.rest_faults (s : State) (g : Faults) : ({ s with faults := g } : State).rest = s.rest := rfl
theorem State.rest_due (s : State) (l : List Reaction) : ({ s with due := l } : State).rest = s.rest := rfl
theorem State.rest_out (s : State) (o : Outputs) : ({ s with out := o } : State).rest = s.rest := rfl
theorem State.rest_sts (s : State) (l : Tab Nat) : ({ s with sts := l } : State).rest = s.rest := rfl

@[simp] theorem State.history_rest (s : State) (b e fl : Nat) (d : EvData) : (s.history b e fl d).rest = s.rest := by
  simp [State.history, State.rest_faults, apply_ite State.rest]

@[simp] theorem State.tally_rest (s : State) (b e cls : Nat) : (s.tally b e cls).rest = s.rest := by
  simp [State.tally, State.rest_faults, apply_ite State.rest]

theorem State.askReaction_rest (s : State) (b e cls : Nat) : (s.askReaction b e cls).rest = s.rest := by
  unfold State.askReaction
  split <;> rfl

theorem State.dormantEvent_rest (s : State) (b e : Nat) : (s.dormantEvent b e).rest = s.rest := by
  unfold State.dormantEvent
  simp only []
  split
  · exact State.askReaction_rest ..
  · rfl

/-- An event is a report. -/
@[simp] theorem State.raise_rest (s : State) (b e : Nat) (d : EvData) : (s.raise b e d).rest = s.rest := by
  have hc (x : State) (k : Nat) : (x.countEvent k).rest = x.rest := rfl
  unfold State.raise
  split
  · split
    · exact State.dormantEvent_rest ..
    · rfl
  · simp only [State.askReaction_rest, apply_ite State.rest, State.interrupt_rest, State.wr_rest, State.emit_rest, State.tally_rest,
      State.history_rest, hc, ite_self]

/-- A part of State that no report touches is the same where the rest is. -/
theorem State.kept_of_rest {α : Type} (p : State → α) (hp : ∀ x : State, p x.rest = p x) {s u : State} (h : u.rest = s.rest) : p u = p s := by
  rw [← hp u, h, hp s]

@[simp] theorem State.raise_pending (s : State) (b e : Nat) (d : EvData) : (s.raise b e d).pending = s.pending := State.kept_of_rest State.pending (fun _ => rfl) (State.raise_rest ..)
@[simp] theorem State.raise_now (s : State) (b e : Nat) (d : EvData) : (s.raise b e d).now = s.now := State.kept_of_rest State.now (fun _ => rfl) (State.raise_rest ..)
@[simp] theorem State.raise_free (s : State) (b e : Nat) (d : EvData) : (s.raise b e d).free = s.free := State.kept_of_rest State.free (fun _ => rfl) (State.raise_rest ..)
@[simp] theorem State.raise_stag (s : State) (b e : Nat) (d : EvData) : (s.raise b e d).stag = s.stag := State.kept_of_rest State.stag (fun _ => rfl) (State.raise_rest ..)
@[simp] theorem State.raise_act (s : State) (b e : Nat) (d : EvData) : (s.raise b e d).act = s.act := State.kept_of_rest State.act (fun _ => rfl) (State.raise_rest ..)
@[simp] theorem State.raise_power (s : State) (b e : Nat) (d : EvData) : (s.raise b e d).power = s.power := State.kept_of_rest State.power (fun _ => rfl) (State.raise_rest ..)
@[simp] theorem State.raise_tb (s : State) (b e : Nat) (d : EvData) : (s.raise b e d).tb = s.tb := State.kept_of_rest State.tb (fun _ => rfl) (State.raise_rest ..)
@[simp] theorem State.raise_sched (s : State) (b e : Nat) (d : EvData) : (s.raise b e d).sched = s.sched := State.kept_of_rest State.sched (fun _ => rfl) (State.raise_rest ..)
@[simp] theorem State.raise_feeds (s : State) (b e : Nat) (d : EvData) : (s.raise b e d).feeds = s.feeds := State.kept_of_rest State.feeds (fun _ => rfl) (State.raise_rest ..)
@[simp] theorem State.raise_stages (s : State) (b e : Nat) (d : EvData) : (s.raise b e d).stages = s.stages := State.kept_of_rest State.stages (fun _ => rfl) (State.raise_rest ..)
@[simp] theorem State.raise_health (s : State) (b e : Nat) (d : EvData) : (s.raise b e d).health = s.health := State.kept_of_rest State.health (fun _ => rfl) (State.raise_rest ..)
@[simp] theorem State.raise_phRetry (s : State) (b e : Nat) (d : EvData) : (s.raise b e d).phRetry = s.phRetry := State.kept_of_rest State.phRetry (fun _ => rfl) (State.raise_rest ..)
@[simp] theorem State.raise_phJoin (s : State) (b e : Nat) (d : EvData) : (s.raise b e d).phJoin = s.phJoin := State.kept_of_rest State.phJoin (fun _ => rfl) (State.raise_rest ..)
@[simp] theorem State.raise_overload (s : State) (b e : Nat) (d : EvData) : (s.raise b e d).overload = s.overload := State.kept_of_rest State.overload (fun _ => rfl) (State.raise_rest ..)
@[simp] theorem State.raise_cist (s : State) (b e : Nat) (d : EvData) : (s.raise b e d).cist = s.cist := State.kept_of_rest State.cist (fun _ => rfl) (State.raise_rest ..)
@[simp] theorem State.raise_seq (s : State) (b e : Nat) (d : EvData) : (s.raise b e d).seq = s.seq := State.kept_of_rest State.seq (fun _ => rfl) (State.raise_rest ..)
@[simp] theorem State.raise_wmon (s : State) (b e : Nat) (d : EvData) : (s.raise b e d).wmon = s.wmon := State.kept_of_rest State.wmon (fun _ => rfl) (State.raise_rest ..)
@[simp] theorem State.raise_pert (s : State) (b e : Nat) (d : EvData) : (s.raise b e d).pert = s.pert := State.kept_of_rest State.pert (fun _ => rfl) (State.raise_rest ..)
@[simp] theorem State.raise_well (s : State) (b e : Nat) (d : EvData) : (s.raise b e d).well = s.well := State.kept_of_rest State.well (fun _ => rfl) (State.raise_rest ..)
@[simp] theorem State.raise_est (s : State) (b e : Nat) (d : EvData) : (s.raise b e d).est = s.est := State.kept_of_rest State.est (fun _ => rfl) (State.raise_rest ..)
@[simp] theorem State.raise_commit (s : State) (b e : Nat) (d : EvData) : (s.raise b e d).commit = s.commit := State.kept_of_rest State.commit (fun _ => rfl) (State.raise_rest ..)
@[simp] theorem State.raise_mbx (s : State) (b e : Nat) (d : EvData) : (s.raise b e d).mbx = s.mbx := State.kept_of_rest State.mbx (fun _ => rfl) (State.raise_rest ..)
@[simp] theorem State.raise_tw (s : State) (b e : Nat) (d : EvData) : (s.raise b e d).tw = s.tw := State.kept_of_rest State.tw (fun _ => rfl) (State.raise_rest ..)
@[simp] theorem State.raise_twin (s : State) (b e : Nat) (d : EvData) : (s.raise b e d).twin = s.twin := State.kept_of_rest State.twin (fun _ => rfl) (State.raise_rest ..)
@[simp] theorem State.raise_meas (s : State) (b e : Nat) (d : EvData) : (s.raise b e d).meas = s.meas := State.kept_of_rest State.meas (fun _ => rfl) (State.raise_rest ..)
@[simp] theorem State.raise_met (s : State) (b e : Nat) (d : EvData) : (s.raise b e d).met = s.met := State.kept_of_rest State.met (fun _ => rfl) (State.raise_rest ..)
@[simp] theorem State.raise_rtc (s : State) (b e : Nat) (d : EvData) : (s.raise b e d).rtc = s.rtc := State.kept_of_rest State.rtc (fun _ => rfl) (State.raise_rest ..)
@[simp] theorem State.raise_timers (s : State) (b e : Nat) (d : EvData) : (s.raise b e d).timers = s.timers := State.kept_of_rest State.timers (fun _ => rfl) (State.raise_rest ..)
@[simp] theorem State.raise_wdt (s : State) (b e : Nat) (d : EvData) : (s.raise b e d).wdt = s.wdt := State.kept_of_rest State.wdt (fun _ => rfl) (State.raise_rest ..)
@[simp] theorem State.raise_otp (s : State) (b e : Nat) (d : EvData) : (s.raise b e d).otp = s.otp := State.kept_of_rest State.otp (fun _ => rfl) (State.raise_rest ..)
@[simp] theorem State.raise_logb (s : State) (b e : Nat) (d : EvData) : (s.raise b e d).logb = s.logb := State.kept_of_rest State.logb (fun _ => rfl) (State.raise_rest ..)

theorem Only.refl (ks : List Nat) (s : State) : Only ks s s := ⟨rfl, fun _ _ _ _ => rfl⟩

theorem Only.mono {ks ks' : List Nat} {s u : State} (h : Only ks s u) (hs : ∀ k ∈ ks, k ∈ ks') : Only ks' s u :=
  ⟨h.1, fun f i hr hk => h.2 f i hr (fun hm => hk (hs _ hm))⟩

theorem Only.trans {ks : List Nat} {s t u : State} (h : Only ks s t) (g : Only ks t u) : Only ks s u :=
  ⟨g.1.trans h.1, fun f i hr hk => (g.2 f i hr hk).trans (h.2 f i hr hk)⟩

theorem Only.wr {ks : List Nat} {s u : State} (h : Only ks s u) {f : Fld} {i : Nat} (v : Nat) (hk : f.key i ∈ ks) :
    Only ks s (u.wr f i v) :=
  h.trans ⟨State.wr_rest .., fun _ _ _ hn => State.rd_wr_ne _ _ (fun e => hn (by rw [e]; exact hk))⟩

theorem Only.bump {ks : List Nat} {s u : State} (h : Only ks s u) {f : Fld} {i : Nat} (hk : f.key i ∈ ks) :
    Only ks s (u.bump f i) := h.wr _ hk

theorem Only.emitAt {ks : List Nat} {s u : State} (h : Only ks s u) (t src typ : Nat) (pay : List Byte) :
    Only ks s (u.emitAt t src typ pay) := h.trans ⟨State.emitAt_rest .., fun _ _ hr _ => State.emitAt_rd _ _ _ _ _ hr⟩

theorem Only.emit {ks : List Nat} {s u : State} (h : Only ks s u) (src typ : Nat) (pay : List Byte) :
    Only ks s (u.emit src typ pay) := h.emitAt _ _ _ _

theorem Only.interrupt {ks : List Nat} {s u : State} (h : Only ks s u) (b : Nat) : Only ks s (u.interrupt b) :=
  h.trans ⟨State.interrupt_rest .., fun _ _ _ _ => State.interrupt_rd ..⟩

theorem Only.raise {ks : List Nat} {s u : State} (h : Only ks s u) (b e : Nat) (d : EvData) : Only ks s (u.raise b e d) :=
  h.trans ⟨State.raise_rest .., fun _ _ hr _ => State.raise_rd _ _ _ _ hr⟩

theorem Only.note {ks : List Nat} {s u : State} (h : Only ks s u) (f : Fld) (i : Nat) : Only ks s (u.note f i) := by
  refine h.trans ⟨?_, fun g j _ _ => State.note_rd ..⟩
  obtain ⟨l, e⟩ := u.note_mids f i
  rw [e]
  rfl

theorem Only.out {ks : List Nat} {s u : State} (h : Only ks s u) (o : Outputs) : Only ks s { u with out := o } :=
  h.trans ⟨rfl, fun _ _ _ _ => rfl⟩

theorem Only.ite {ks : List Nat} {s x y : State} {p : Prop} [Decidable p] (hx : Only ks s x) (hy : Only ks s y) :
    Only ks s (if p then x else y) := by split <;> assumption

theorem Only.fold {ks : List Nat} {s u : State} {α : Type} {f : State → α → State} (h : Only ks s u)
    (hf : ∀ x a, Only ks x (f x a)) (l : List α) : Only ks s (l.foldl f u) := by
  induction l generalizing u with
  | nil => exact h
  | cons a l ih => exact ih (h.trans (hf u a))

end Sys2Proof.Machine
end

