-- ==== Sys2Proof/WellFormed.lean ====
section
/-! DEFINITION. Which terms of `Instr` are commands that the environment can send: list operands of the length that the wire
gives them, and indices within what they name. -/

namespace Sys2Proof

/-- The number of segments of an array (R134). -/
def Arr.size : Arr → Nat
  | .hs => 1024 | .ls => 1536

/-- The links that a scan finds open lie in their arrays (R134, R136). -/
def openedWf (l : List (Arr × Nat)) : Bool := l.all (fun x => decide (x.2 < x.1.size))

/-- Findings of the voters name a register and values of its width (R57). -/
def foundWf (l : List Found) : Bool :=
  l.all (fun x => decide (x.reg < 0x4000) && decide (x.lo < 32) && decide (x.a < 2 ^ 32) && decide (x.b < 2 ^ 32) && decide (x.c < 2 ^ 32))

/-- The findings of a chip reset's release name what there is. -/
def BootObs.wf (o : BootObs) : Bool :=
  o.opened.all (fun x => decide (x.2.2 < x.2.1.size)) && o.drivers.all (fun x => decide (x.2.2 < 16))
    && o.halves.all (fun x => decide (x.2 ≤ 2)) && o.badRegions.all (fun g => decide (g < 4)) && o.spoilt.all (fun c => decide (c < 226))

/-- A telemetry window of rail 0 carries its three phases, of another rail none (R191). -/
def TelWindow.wf (r : Rail) (w : TelWindow) : Bool := w.phase.length == (if r.val = 0 then 3 else 0)

/-- A well-formed command. -/
def Instr.wf (i : Instr) : Bool :=
  match i with
  | .chipReset o => o.wf
  | .registerWrite _ _ _ _ o => openedWf o.opened
  | .twDataByteWrite _ o => openedWf o.opened
  | .scrubPass l => foundWf l
  | .votedFieldRead _ _ l => foundWf l
  | .descriptorReceived _ l => l.length == 32
  | .twinFrame l _ => l.length == 39
  | .metRecordReceived (some l) => l.length == 32
  | .caBackgroundScan _ l => openedWf l
  | .caScan _ _ l => openedWf l
  | .flushEnd _ x => openedWf x.opened
  | .secondFlush _ x => openedWf x.opened
  | .telemetryWindowEnd r x => TelWindow.wf r x
  | .phaseLoss _ cause => decide (1 ≤ cause.val) && decide (cause.val ≤ 6)
  | .runningFault _ cause => decide (1 ≤ cause.toNat)
  | .calPortRead _ _ n => decide (1 ≤ n)
  | _ => true

end Sys2Proof
end

