-- ==== Sys2Proof/Tests/Slice0.lean ====
section
/-! SUPPORT. The model's own tests: one step each on a small state, expected results from the spec; a refused ill-formed term for each
check of WellFormed; and, for each statement of the certificate, concrete states and operands that meet the hypotheses of each of its
clauses (`test_meets_<statement>`). -/

namespace Sys2Proof.Tests

open Sys2Proof Sys2Proof.Machine

/-- The block out of its chip reset, otherwise as State.reset. -/
def onState : State := { State.reset with power := { State.reset.power with inReset := false } }

/-- Write a field of the active bank. -/
def setAct (f : Fld) (i v : Nat) (s : State) : State := { s with act := s.act.wr f i v }

/-- Write a field of the staging bank. -/
def setStag (f : Fld) (i v : Nat) (s : State) : State := { s with stag := s.stag.wr f i v }

-- Ill-formed terms

/-- One ill-formed term for each check of `Instr.wf`. -/
def illFormed : List Instr :=
  [.chipReset { opened := [(0, .hs, 1024)] }, .chipReset { drivers := [(0, .ls, 16)] }, .chipReset { halves := [(default, 3)] },
   .chipReset { badRegions := [4] }, .chipReset { spoilt := [226] }, .registerWrite .pcie 0 0 15 { opened := [(.ls, 1536)] },
   .twDataByteWrite 0 { opened := [(.hs, 1024)] }, .scrubPass [⟨true, 0x4000, 0, 0, 0, 0, 0⟩], .scrubPass [⟨true, 0, 0, 32, 0, 0, 0⟩],
   .votedFieldRead .pcie 0 [⟨true, 0, 0, 0, 2 ^ 32, 0, 0⟩], .votedFieldRead .pcie 0 [⟨true, 0, 0, 0, 0, 2 ^ 32, 0⟩],
   .votedFieldRead .pcie 0 [⟨true, 0, 0, 0, 0, 0, 2 ^ 32⟩], .descriptorReceived 0 (List.replicate 31 0), .twinFrame (List.replicate 38 0) false,
   .metRecordReceived (some []), .caBackgroundScan 0 [(.hs, 1024)], .caScan .pcie 0 [(.hs, 1024)], .flushEnd 0 ⟨[(.hs, 1024)], false⟩,
   .secondFlush 0 ⟨[(.ls, 1536)], false⟩, .telemetryWindowEnd 0 { (default : TelWindow) with phase := [] },
   .telemetryWindowEnd 1 { (default : TelWindow) with phase := [1] }, .phaseLoss 0 0, .phaseLoss 0 7, .runningFault 0 0, .calPortRead true 0 0]

theorem test_ill_formed_refused : illFormed.all (fun i => !i.wf) = true := by decide +kernel

theorem test_well_formed_accepted : (Instr.descriptorReceived 0 (List.replicate 32 0)).wf = true ∧ (Instr.flushEnd 0 ⟨[(.hs, 1023)], false⟩).wf = true := by
  decide +kernel

-- No row of the table gives bits

theorem test_no_word_decodes : decodeTableWord 32 0xFFFFFFFF = none := rfl

-- One step each, against the spec

/-- R42: a host DORMANT command in RUN is refused with STATE (5). -/
theorem test_dormant_in_run : Does (.wellDormant .pcie 0x5C000002) onState fun u => u.out.err = some 5 := ⟨_, _, rfl, by decide +kernel⟩

/-- R49: no register lies at page offset 0xFC; a write there is refused with RANGE (1). -/
theorem test_write_page_offset_fc : Does (.registerWrite .twoWire 0x01FC 7 15 {}) onState fun u => u.out.err = some 1 := ⟨_, _, rfl, by decide +kernel⟩

/-- R55: an alias read of a status register (PSTATE at 0x10) gives ALIAS (0x0B) and 0. -/
theorem test_alias_read : Does (.aliasStatusRead .pcie 0x4010) onState fun u => u.out.err = some 0x0B ∧ u.out.rdata = some 0 :=
  ⟨_, _, rfl, by decide +kernel⟩

/-- R103: a SIG step with mask 0x0F and levels 0x05 changes SIG3 to SIG0 alone. -/
theorem test_sig_step_masks :
    Does (.stepSig 3) ({ onState with sched := { onState.sched with sig := 0xAA, ctxs := ⟨[(3, { prog := [0x60000F05] })]⟩ } }.wr F.CTX_STAT_STATE 3 3)
      fun u => u.sched.sig = 0xA5 := ⟨_, _, rfl, by decide +kernel⟩

/-- R13, R504: RESET_N starts a chip reset. -/
theorem test_reset_n : Does .resetNAsserted onState fun u => u.power.inReset = true := ⟨_, _, rfl, by decide +kernel⟩

/-- A step takes the front command and leaves the rest. -/
theorem test_step_takes_front :
    (match step { onState with pending := [.resetNAsserted, .powerOnReset] } with | .next t => t.pending | _ => []) = [.powerOnReset] := by decide +kernel

/-- The check value of R390 is CRC-32C: of the nine digits 1 to 9 it is 0xE3069283. -/
theorem test_crc32c : crc32c [0x31, 0x32, 0x33, 0x34, 0x35, 0x36, 0x37, 0x38, 0x39] = 0xE3069283 := by decide +kernel

/-- The digest of R491 is SHA-256: of the three bytes `abc` it begins BA 78 16 BF. -/
theorem test_sha256 : (sha256 [0x61, 0x62, 0x63]).take 4 = [0xBA, 0x78, 0x16, 0xBF] := by decide +kernel

-- What meets the statements' hypotheses

/-- The hypotheses of `IdleMicrosecond`: an empty queue; in SHIP; with timer 0 running; a tick of the calendar; a watchdog slot that counts; the charger's
phases; a delayed crossing that is due, and one that waits. -/
theorem test_meets_IdleMicrosecond :
    onState.pending = []
    ∧ (let s : State := { onState with power := { onState.power with off := true, st := .ship } }; s.pending = [] ∧ s.power.off = true ∧ s.power.st = .ship)
    ∧ (let s : State := onState |> (·.wr F.TM_RUN_RUN 0 1)
       let i : Fin 8 := 0
       s.pending = [] ∧ s.on = true ∧ s.cf F.TM_CFG_CLK i.val = 0 ∧ s.con F.TM_CFG_GATE_EN i.val = false ∧ s.tmRuns i.val = true
        ∧ s.cnt i.val + 100 < s.cmpOf i.val ∧ s.cnt i.val + 100 ≤ s.topOf i.val)
    ∧ (let s : State := { onState with rtc := { onState.rtc with rest := 990000 } }
       s.pending = [] ∧ ¬(s.power.off = true ∧ s.power.st = .ship) ∧ s.rtc.rest < 1000000 ∧ 1000000 ≤ s.rtc.rest + 32768 ∧ s.halted = false
        ∧ s.rd F.RTC_TRIM_TRIM 0 = 0 ∧ s.rd F.RTC_STAT_SHIFT_LEFT 0 = 0 ∧ s.rtc.withheld = 0 ∧ s.rd F.RTC_SUBSEC_SUBSEC 0 < 32767)
    ∧ (let s : State := { onState with rtc := { onState.rtc with rest := 5 } }
       s.rtc.rest < 1000000 ∧ ¬(1000000 ≤ s.rtc.rest + 32768))
    ∧ (let s : State := onState |> (·.wr F.WDT_STAT_RUNNING 0 1) |> setAct F.SLOT_CFG_EN 2 1
       let i : Fin 16 := 2
       s.on = true ∧ s.wdtRuns = true ∧ s.slotOn i.val = true ∧ (s.wdt.slots.at i.val).at_ ≤ s.now)
    ∧ (let s : State := onState |> setAct F.FC_CLASS_CLASS (srcKey 0x0E 3) 0 |> setAct F.FC_CLASS_SEV_CLASS (srcKey 0x0E 3) 0
       s.on = true ∧ s.wmon.late = [] ∧ (s.cf F.FC_CLASS_CLASS (srcKey 0x0E 3) < 2 ∧ s.cf F.FC_CLASS_SEV_CLASS (srcKey 0x0E 3) < 2)
        ∧ (s.cf F.FC_CLASS_CLASS (srcKey 0x15 4) < 2 ∧ s.cf F.FC_CLASS_SEV_CLASS (srcKey 0x15 4) < 2)
        ∧ ¬(s.chg = 2 ∨ s.chg = 3 ∨ s.chg = 4 ∨ s.chg = 5) ∧ (s.wr F.WELL_CSTAT_CHG 0 3).chg = 3)
    ∧ (let x : LateCross := { due := 1, mon := 0, cmp := .warnHi, edge := .out, mv := 0 }
       let s : State := { onState with wmon := { onState.wmon with late := [x] } } |> setAct F.FC_CLASS_CLASS (srcKey 9 7) 0 |> setAct F.FC_CLASS_SEV_CLASS (srcKey 9 7) 0
         |> setAct F.FC_CLASS_CLASS (srcKey 9 9) 0 |> setAct F.FC_CLASS_SEV_CLASS (srcKey 9 9) 0
       s.on = true ∧ (s.cf F.FC_CLASS_CLASS (srcKey 9 7) < 2 ∧ s.cf F.FC_CLASS_SEV_CLASS (srcKey 9 7) < 2)
        ∧ (s.cf F.FC_CLASS_CLASS (srcKey 9 9) < 2 ∧ s.cf F.FC_CLASS_SEV_CLASS (srcKey 9 9) < 2)
        ∧ x ∈ s.wmon.late ∧ s.wmon.late = [x] ∧ s.flag F.WM_MSTAT_ABOVE_WARN x.mon = false ∧ x.due ≤ s.now + 1 ∧ s.cmpActs x.mon .warnHi = true
        ∧ s.now + 1 < (9 : Nat)) := by decide +kernel

/-- The hypotheses of `EveryCommandCompletes`: a command that needs the control plane, and none there. -/
theorem test_meets_EveryCommandCompletes : beyondPlane .commitSwap = false ∧ State.reset.on = false := by decide +kernel

/-- The hypotheses of `BurnedBitsStay`: a burned bit, and a step. -/
theorem test_meets_BurnedBitsStay :
    let s : State := { onState with otp := { words := ⟨[(300, 32)]⟩ } }
    (∃ t, step s = .next t) ∧ bitOf (s.otp.words.at 300) 5 = true := ⟨⟨_, rfl⟩, by decide +kernel⟩

/-- The hypotheses of `SealStays`: a sealed die, and a step that would write a calibration word. -/
theorem test_meets_SealStays :
    let s : State := { onState with met := { sealed := true, mvdd := true }, pending := [.calPortWrite true 4 5 true] }
    (∃ t, step s = .next t) ∧ s.met.sealed = true := ⟨⟨_, rfl⟩, rfl⟩

/-- The hypotheses of `SafeIsLeftByReset`: SAFE, and a step that starts a reset. -/
theorem test_meets_SafeIsLeftByReset :
    let s : State := { onState with power := { onState.power with st := .safe }, pending := [.resetNAsserted] }
    (∃ t, step s = .next t) ∧ s.safe = true := ⟨⟨_, rfl⟩, rfl⟩

/-- The hypotheses of `ActiveBankStays`: a command that is none of those named. -/
theorem test_meets_ActiveBankStays :
    (∃ t, exec .resetNAsserted onState = .next t)
    ∧ (match (Instr.resetNAsserted) with
      | .commitSwap | .chipReset _ | .scrubPass _ | .metRead _ _ _ | .votedFieldRead _ _ _ | .angleSlotStart | .deferredContextLaunch _
      | .timedCommandDue _ | .lockAcquired _ _ | .strokeBoundary _ => false
      | _ => true) = true := ⟨⟨_, rfl⟩, rfl⟩

/-- The hypotheses of `ReactionsFollow`: no reaction asked for; a lower one in SAFE; one of class SAFE, with a commit that is pending, a rail
held on and one that is not; in DORMANT, one of class SAFE. -/
theorem test_meets_ReactionsFollow :
    (onState.cf F.FC_CLASS_CLASS (srcKey 0x15 4) < 2 ∧ onState.cf F.FC_CLASS_SEV_CLASS (srcKey 0x15 4) < 2 ∧ onState.due = []
        ∧ onState.closed = State.reset.closed ∧ onState.well.floorOff = State.reset.well.floorOff
        ∧ onState.power.off = false ∧ (State.reset.entryPowered = true → onState.entryPowered = true) ∧ (State.reset.aonFed = true → onState.aonFed = true))
    ∧ (let u : State := { onState with power := { onState.power with st := .safe }, due := [{ cls := 3, block := 8, event := 1, group := 0 }] }
       let s : State := u
       u.on = true ∧ u.safe = true ∧ s.safe = true ∧ (∀ d ∈ u.due, d.cls < 4)
        ∧ (u.cf F.FC_CLASS_CLASS (srcKey 0x15 4) < 2 ∧ u.cf F.FC_CLASS_SEV_CLASS (srcKey 0x15 4) < 2)
        ∧ u.closed = s.closed ∧ u.well.floorOff = s.well.floorOff ∧ (s.entryPowered = true → u.entryPowered = true))
    ∧ (let u : State := { onState with due := [{ cls := 4, block := 8, event := 1, group := 0 }] }
         |> (·.wr F.COMMIT_STAT_STATE 0 1) |> (·.wr F.SQ_RSTAT_STEP 3 3) |> (·.wr F.SQ_RSTAT_STEP 0 3) |> setAct F.SAFE_MAP0_MAP 0 2
       u.on = true ∧ u.safe = false ∧ (u.due.find? (fun d => decide (4 ≤ d.cls))).map (fun d => decide (d.block < 256 ∧ d.event < 256)) = some true
        ∧ u.rd F.COMMIT_STAT_STATE 0 = 1 ∧ u.commit.copying = false ∧ u.stepOf 3 = 3 ∧ u.heldOn 3 = false ∧ u.stepOf 0 = 3 ∧ u.heldOn 0 = true)
    ∧ (let u : State := { onState with power := { onState.power with st := .dormant, off := true }, due := [{ cls := 4, block := 8, event := 1, group := 0 }] }
       u.on = false ∧ u.dormant = true ∧ (onState.aonFed = true → u.aonFed = true) ∧ (u.due.find? (fun d => decide (4 ≤ d.cls))).isSome = true) := by decide +kernel

/-- The hypotheses of each clause of `EmptyAddresses`. -/
theorem test_meets_EmptyAddresses :
    (let s : State := onState;
     let addr : BitVec 16 := 0xffff#16;
     s.on = true ∧ findReg (baseOf addr.toNat) = none ∧ (inMetWindow (baseOf addr.toNat) = false ∨ s.rd F.ID_MET_FITTED 0 = 1)) := by decide +kernel

/-- The hypotheses of each clause of `AliasAccessRefused`. -/
theorem test_meets_AliasAccessRefused :
    (let s : State := onState;
     let addr : BitVec 16 := 0x91c5#16;
     s.on = true ∧ aliasOf addr.toNat ≠ 0 ∧ (inMetWindow (baseOf addr.toNat) = false ∨ s.rd F.ID_MET_FITTED 0 = 1) ∧ ((match findReg (baseOf addr.toNat) with | some (r, _) => decide (r.isControl = false) | _ => false) = true)) := by decide +kernel

/-- The hypotheses of each clause of `HostPowerCommands`. -/
theorem test_meets_HostPowerCommands :
    (let s : State := onState;
     let m : Master := Master.pcie;
     s.on = true ∧ s.barred m = false ∧ s.power.st ≠ .hold)
    ∧ (let s : State := onState |> (·.wr F.WELL_STAT_HO 0 2) |> (fun s => { s with power := { s.power with st := PState.hold } });
       let m : Master := Master.twoWire;
       s.on = true ∧ s.barred m = false ∧ (let ho := s.rd F.WELL_STAT_HO 0; let busy := s.draining = true ∨ s.power.afterCutoff ≠ none ∨ ho = 1 ∨ ho = 2 ∨ ho = 5 ∨ s.well.leadPend = true; s.power.st = .hold ∧ busy))
    ∧ (let s : State := onState |> (fun s => { s with power := { s.power with st := PState.hold } });
       let m : Master := Master.pcie;
       s.on = true ∧ s.barred m = false ∧ (let ho := s.rd F.WELL_STAT_HO 0; let busy := s.draining = true ∨ s.power.afterCutoff ≠ none ∨ ho = 1 ∨ ho = 2 ∨ ho = 5 ∨ s.well.leadPend = true; s.power.st = .hold ∧ ¬busy))
    ∧ (let s : State := onState |> (fun s => { s with ring := { s.ring with dispatched := [{ info := { ring := 0, pos := 0, seq := 0, quiet := false }, op := 4, fence := false, target := 0, launch := 0, pay := bytes 12 1 }] } });
       let ship : Bool := false;
       let m : Master := .pcie;
       let c : Fin 8 := 0;
       s.on = true ∧ s.barred m = false ∧ ((match takeFirst (fun d : Desc => d.info.ring == c) s.ring.dispatched with | some x => decide (x.1.op = 4 ∧ ofLeBytes x.1.pay = (if ship then 2 else 1) ∧ s.ring.held.at c.val = [] ∧ s.power.st ≠ .hold) | _ => false) = true))
    ∧ (let s : State := onState |> (fun s => { s with ring := { s.ring with dispatched := [{ info := { ring := 0, pos := 0, seq := 0, quiet := false }, op := 4, fence := false, target := 0, launch := 0, pay := bytes 12 1 }] } }) |> (fun s => { s with power := { s.power with st := .hold } }) |> (·.wr F.WELL_STAT_HO 0 1);
       let ship : Bool := false;
       let m : Master := .pcie;
       let c : Fin 8 := 0;
       s.on = true ∧ s.barred m = false ∧ (let ho := s.rd F.WELL_STAT_HO 0; let busy := s.draining = true ∨ s.power.afterCutoff ≠ none ∨ ho = 1 ∨ ho = 2 ∨ ho = 5 ∨ s.well.leadPend = true; ((match takeFirst (fun d : Desc => d.info.ring == c) s.ring.dispatched with | some x => decide (x.1.op = 4 ∧ ofLeBytes x.1.pay = (if ship then 2 else 1) ∧ s.ring.held.at c.val = [] ∧ s.power.st = .hold ∧ busy) | _ => false) = true)))
    ∧ (let s : State := onState |> (fun s => { s with power := { s.power with st := PState.hold } }) |> (fun s => { s with ring := { s.ring with dispatched := [{ info := { ring := 3, pos := 2, seq := 0, quiet := true }, op := 4, fence := true, target := 0, launch := 0, pay := [0x01#8] }, { info := { ring := 0, pos := 0, seq := 2, quiet := true }, op := 2, fence := true, target := 3, launch := 1, pay := [] }] } });
       let m : Master := Master.pcie;
       let ship : Bool := false;
       let c : Fin 8 := 3;
       s.on = true ∧ s.barred m = false ∧ (let ho := s.rd F.WELL_STAT_HO 0; let busy := s.draining = true ∨ s.power.afterCutoff ≠ none ∨ ho = 1 ∨ ho = 2 ∨ ho = 5 ∨ s.well.leadPend = true; ((match takeFirst (fun d : Desc => d.info.ring == c) s.ring.dispatched with | some x => decide (x.1.op = 4 ∧ ofLeBytes x.1.pay = (if ship then 2 else 1) ∧ s.ring.held.at c.val = [] ∧ s.power.st = .hold ∧ ¬busy) | _ => false) = true))) := by
  and_intros <;> decide +kernel

/-- The hypotheses of each clause of `ResetsStart`. -/
theorem test_meets_ResetsStart :
    (let s : State := onState;
     s.power.longOpen = false ∧ s.power.st ≠ .ship)
    ∧ (let s : State := onState;
       s.power.longOpen = false)
    ∧ (let f : Fld := { reg := 516, hi := 31, lo := 0, typ := FTyp.rw, rst := 0, keep := Keep.V, banked := false, run := false, rng := [] };
       let i : Nat := 0;
       f ∈ allFlds ∧ physicalKeys.contains (f.key i) = false ∧ f.key i ≠ F.PSTATE_LAST_RESET.key 0)
    ∧ (let s : State := onState;
       let f : Fld := { reg := 24, hi := 18, lo := 16, typ := FTyp.ro, rst := 7, keep := Keep.V, banked := false, run := false, rng := [] };
       let i : Nat := 164;
       f ∈ allFlds ∧ physicalKeys.contains (f.key i) = false ∧ f.keep ≠ .A ∧ f.reg ≠ 0x404 ∧ s.power.longOpen = false ∧ s.power.st ≠ .ship)
    ∧ (let s : State := onState;
       let f : Fld := { reg := 12812, hi := 20, lo := 16, typ := FTyp.ro, rst := 0, keep := Keep.A, banked := false, run := false, rng := [] };
       let i : Nat := 6;
       f ∈ allFlds ∧ physicalKeys.contains (f.key i) = false ∧ f.keep = .A ∧ f.reg ≠ 0x10 ∧ f.key i ≠ F.WDT_STAT_ATTEMPTS.key 0 ∧ s.power.longOpen = false ∧ s.power.st ≠ .ship) := by
  and_intros <;> decide +kernel

/-- The hypotheses of each clause of `PowerReturns`. -/
theorem test_meets_PowerReturns :
    (let s : State := onState |> (fun s => { s with power := { s.power with inReset := true } });
     s.power.off = false ∧ s.power.inReset = true ∧ (s.power.needFeed = true ∨ (s.power.kind = .por ∧ s.power.roused = false)) ∧ s.anyFeed = false)
    ∧ (let s : State := onState |> (fun s => { s with power := { s.power with roused := true } }) |> (fun s => { s with power := { s.power with inReset := true } });
       s.power.off = false ∧ s.power.inReset = true ∧ (s.power.needFeed = true ∨ (s.power.kind = .por ∧ s.power.roused = false) → s.anyFeed = true))
    ∧ (let s : State := onState |> (fun s => { s with power := { s.power with checking := true } });
       s.power.off = false ∧ s.power.checking = true)
    ∧ (let s : State := onState;
       s.power.longOpen = false)
    ∧ (let s : State := onState |> (·.wr F.WELL_STAT_NO_PACK 0 0) |> (fun s => { s with power := { s.power with longOpen := true } });
       s.power.longOpen = true ∧ s.pack = true)
    ∧ (let s : State := onState |> (fun s => { s with power := { s.power with longOpen := true } });
       s.power.longOpen = true ∧ s.pack = false)
    ∧ (let s : State := onState |> (fun s => { s with power := { s.power with off := true } }) |> (fun s => { s with power := { s.power with st := PState.dormant } });
       let l : List WakeSrc := [WakeSrc.button, WakeSrc.button];
       s.power.off = true ∧ s.power.st = .dormant ∧ l.any s.wakes = true)
    ∧ (let s : State := onState |> (fun s => { s with power := { s.power with off := true } }) |> (fun s => { s with power := { s.power with st := .dormant } }) |> setAct F.WM_CFG_WAKE_EN 25 1 |> setAct F.WM_LVL_LO_WARN_LO 25 1000;
       let m : Fin 8 := 1;
       s.power.off = true ∧ s.power.st = .dormant ∧ m ≠ 0 ∧ s.con F.WM_CFG_WAKE_EN (24 + m.val) = true ∧ s.cmpOn (24 + m.val) (if s.con F.WM_CFG_WAKE_SEL (24 + m.val) = true then .warnHi else .warnLo) = true)
    ∧ (let s : State := onState |> (fun s => { s with power := { s.power with st := PState.ship } }) |> (·.wr F.WELL_STAT_NO_PACK 0 2) |> (fun s => { s with power := { s.power with off := true } });
       let button : Bool := true;
       s.power.off = true ∧ s.power.st = .ship ∧ s.power.longOpen = false ∧ ((button = true ∧ s.pack = true) ∨ s.anyFeed = true))
    ∧ (let s : State := onState |> (fun s => { s with power := { s.power with off := true } }) |> (fun s => { s with power := { s.power with st := PState.ship } });
       let button : Bool := true;
       s.power.off = true ∧ s.power.st = .ship ∧ s.power.longOpen = false ∧ (¬((button = true ∧ s.pack = true) ∨ s.anyFeed = true)))
    ∧ (let s : State := onState |> (·.wr F.WELL_STAT_NO_PACK 0 0) |> (fun s => { s with power := { s.power with inReset := true } });
       s.power.off = false ∧ s.power.inReset = true ∧ s.power.kind = .por ∧ s.pack = true)
    ∧ (let s : State := onState |> (fun s => { s with power := { s.power with off := true } }) |> (·.wr F.RTC_STAT_HALTED 0 1) |> (fun s => { s with power := { s.power with st := PState.dormant } });
       s.power.off = true ∧ s.power.st = .dormant ∧ s.halted = true)
    ∧ (let s : State := onState;
       s.on = true)
    ∧ (let s : State := onState |> (fun s => { s with power := { s.power with off := true } }) |> (fun s => { s with power := { s.power with st := PState.dormant } });
       s.power.off = true ∧ s.power.st = .dormant)
    ∧ (let u : State := { onState with power := { onState.power with off := true, st := .dormant } } |> (·.wr F.WELL_STAT_VALVE 0 1) |> (·.wr F.WELL_STAT_NO_PACK 0 1)
       let s : State := u.wr F.WELL_STAT_NO_PACK 0 0
       s.on = false ∧ u.on = false ∧ u.dormant = true ∧ u.due = [] ∧ s.entryPowered = u.entryPowered ∧ s.pack = true ∧ s.flag F.WELL_STAT_VALVE 0 = true
        ∧ u.anyFeed = false ∧ u.pack = false)
    ∧ (let u : State := { onState with power := { onState.power with off := true, st := .dormant } } |> (·.wr F.WELL_STAT_VALVE 0 1) |> (·.wr F.WELL_STAT_NO_PACK 0 0)
       u.on = false ∧ u.dormant = true ∧ u.due = [] ∧ u.pack = true ∧ u.flag F.WELL_STAT_VALVE 0 = true) := by
  and_intros <;> decide +kernel

/-- The hypotheses of each clause of `UnitsLost`. -/
theorem test_meets_UnitsLost :
    (let s : State := onState;
     s.on = true ∧ s.rd F.TB_STAT_LOCK 0 < 8 ∧ s.rd F.UNIT_STAT_REF_OK 0 = 7)
    ∧ (let s : State := onState |> (·.wr F.UNIT_STAT_REF_OK 0 5);
       let n : Fin 3 := 0;
       s.on = true ∧ s.rd F.TB_STAT_LOCK 0 < 8 ∧ s.rd F.UNIT_STAT_REF_OK 0 ≠ 7 ∧ bitOf (s.rd F.UNIT_STAT_REF_OK 0) n.val = true)
    ∧ (let s : State := onState;
       s.on = true ∧ s.rd F.TB_STAT_LOCK 0 < 8 ∧ s.rd F.UNIT_STAT_OSC_PRI_OK 0 = 1 ∧ s.rd F.UNIT_STAT_OSC_SEC_OK 0 = 1)
    ∧ (let s : State := onState |> (·.wr F.UNIT_STAT_OSC_SEC_OK 0 0);
       s.on = true ∧ s.rd F.TB_STAT_LOCK 0 < 8 ∧ s.rd F.UNIT_STAT_OSC_PRI_OK 0 = 1 ∧ s.rd F.UNIT_STAT_OSC_SEC_OK 0 = 0)
    ∧ (let s : State := onState;
       let isl : Island := Island.data;
       s.on = true ∧ s.rd F.TB_STAT_LOCK 0 < 8 ∧ bitOf (s.rd F.UNIT_STAT_ISLAND_OK 0) (islandBit isl) = true)
    ∧ (let s : State := onState |> (·.wr F.UNIT_STAT_ISLAND_OK 0 1);
       let isl : Island := Island.drv;
       s.on = true ∧ s.rd F.TB_STAT_LOCK 0 < 8 ∧ bitOf (s.rd F.UNIT_STAT_ISLAND_OK 0) (islandBit isl) = false) := by
  and_intros <;> decide +kernel

/-- The hypotheses of each clause of `WritesRefused`. -/
theorem test_meets_WritesRefused :
    (let s : State := onState;
     let addr : BitVec 16 := 0xe767#16;
     s.on = true ∧ inMetWindow (baseOf addr.toNat) = true ∧ s.rd F.ID_MET_FITTED 0 ≠ 1)
    ∧ (let s : State := onState;
       let addr : BitVec 16 := 0xa5c3#16;
       s.on = true ∧ inMetWindow (baseOf addr.toNat) = false ∧ findReg (baseOf addr.toNat) = none)
    ∧ (let s : State := onState;
       let addr : BitVec 16 := 0xed8f#16;
       s.on = true ∧ ((match findReg (baseOf addr.toNat) with | some (r, _) => decide (inMetWindow (baseOf addr.toNat) = false ∧ aliasOf addr.toNat ≠ 0 ∧ r.isControl = false) | _ => false) = true))
    ∧ (let s : State := onState;
       let m : Master := Master.twoWire;
       let addr : BitVec 16 := 0x0000#16;
       let w : Word := 0x0000c35a#32;
       let be : BitVec 4 := 0xf#4;
       s.on = true ∧ ((match findReg (baseOf addr.toNat) with | some (r, k) => decide (inMetWindow (baseOf addr.toNat) = false ∧ baseOf addr.toNat ≠ 0x200 ∧ baseOf addr.toNat ≠ 0x2C04 ∧ (aliasOf addr.toNat = 0 ∨ r.isControl = true) ∧ s.barred m = false ∧ reservedSet r (merged (aliasOf addr.toNat) (s.wordNow r (instOf (selOf s m.idx) m.idx r k)) w.toNat be.toNat) = true) | _ => false) = true))
    ∧ (let s : State := onState |> (·.wr F.COMMIT_CTL_OWNER_POLICY 0 2);
       let m : Master := Master.pcie;
       let addr : BitVec 16 := 0x7e1a#16;
       let w : Word := 0x0000c35a#32;
       let be : BitVec 4 := 0x7#4;
       s.on = true ∧ ((match findReg (baseOf addr.toNat) with | some (r, k) => decide (inMetWindow (baseOf addr.toNat) = false ∧ baseOf addr.toNat ≠ 0x200 ∧ (aliasOf addr.toNat = 0 ∨ r.isControl = true) ∧ (let i := instOf (selOf s m.idx) m.idx r k; let v := merged (aliasOf addr.toNat) (s.wordNow r i) w.toNat be.toNat; s.barred m = true ∧ s.changesSetup r i v = true)) | _ => false) = true))
    ∧ (let s : State := onState |> (·.wr F.COMMIT_STAT_OWNER 0 3);
       let m : Master := Master.twoWire;
       let addr : BitVec 16 := 0x2000#16;
       let w : Word := 0x00000000#32;
       let be : BitVec 4 := 0x2#4;
       s.on = true ∧ ((match findReg (baseOf addr.toNat) with | some (r, k) => decide (inMetWindow (baseOf addr.toNat) = false ∧ baseOf addr.toNat ≠ 0x200 ∧ (aliasOf addr.toNat = 0 ∨ r.isControl = true) ∧ (let i := instOf (selOf s m.idx) m.idx r k; let v := merged (aliasOf addr.toNat) (s.wordNow r i) w.toNat be.toNat; (s.changesSetup r i v = false ∨ s.barred m = false) ∧ reservedSet r v = false ∧ s.fieldLocked r i v = false ∧ r.isBanked = true ∧ s.ownedByOther m = true)) | _ => false) = true))
    ∧ (let s : State := onState |> (·.wr F.COMMIT_STAT_STATE 0 2);
       let m : Master := Master.twoWire;
       let addr : BitVec 16 := 0x2000#16;
       let w : Word := 0x70000000#32;
       let be : BitVec 4 := 0x2#4;
       s.on = true ∧ ((match findReg (baseOf addr.toNat) with | some (r, k) => decide (inMetWindow (baseOf addr.toNat) = false ∧ baseOf addr.toNat ≠ 0x200 ∧ (aliasOf addr.toNat = 0 ∨ r.isControl = true) ∧ (let i := instOf (selOf s m.idx) m.idx r k; let v := merged (aliasOf addr.toNat) (s.wordNow r i) w.toNat be.toNat; (s.changesSetup r i v = false ∨ s.barred m = false) ∧ reservedSet r v = false ∧ s.fieldLocked r i v = false ∧ r.isBanked = true ∧ s.ownedByOther m = false ∧ s.committing = true)) | _ => false) = true)) := by
  and_intros <;> decide +kernel

/-- The hypotheses of each clause of `WritesAccepted`. -/
theorem test_meets_WritesAccepted :
    (let s : State := onState;
     let m : Master := Master.twoWire;
     let addr : BitVec 16 := 0xab21#16;
     let w : Word := 0xffffffff#32;
     let be : BitVec 4 := 0x0#4;
     s.on = true ∧ ((match findReg (baseOf addr.toNat) with | some (r, k) => decide (inMetWindow (baseOf addr.toNat) = false ∧ r.isControl = true ∧ ¬(0x2814 ≤ r.base ∧ r.base ≤ 0x2818) ∧ ¬(0x3E14 ≤ r.base ∧ r.base ≤ 0x3E24) ∧ (let i := instOf (selOf s m.idx) m.idx r k; let v := merged (aliasOf addr.toNat) (s.wordNow r i) w.toNat be.toNat; s.writeErr m r i v = 0)) | _ => false) = true)) := by decide +kernel

/-- The hypotheses of each clause of `ReadsClear`. -/
theorem test_meets_ReadsClear :
    (let s : State := onState;
     let addr : BitVec 16 := 0x91c5#16;
     s.on = true ∧ inMetWindow (baseOf addr.toNat) = false ∧ ((match findReg (baseOf addr.toNat) with | some (r, _) => decide (aliasOf addr.toNat ≠ 0 ∧ r.isControl = false) | _ => false) = true))
    ∧ (let s : State := onState;
       let addr : BitVec 16 := 0x0006#16;
       s.on = true ∧ inMetWindow (baseOf addr.toNat) = false ∧ findReg (baseOf addr.toNat) = none)
    ∧ (let s : State := onState;
       let m : Master := Master.twoWire;
       let addr : BitVec 16 := 0x0000#16;
       s.on = true ∧ inMetWindow (baseOf addr.toNat) = false ∧ ((match findReg (baseOf addr.toNat) with | some (r, k) => decide (aliasOf addr.toNat = 0 ∧ r.isControl = false ∧ r.base ≠ 0x200 ∧ ¬(0x2810 ≤ r.base ∧ r.base ≤ 0x2818) ∧ r.isBanked = false ∧ reached r (instOf (selOf s m.idx) m.idx r k) = true) | _ => false) = true))
    ∧ (let s : State := onState;
       let addr : BitVec 16 := 0x0000#16;
       s.on = true ∧ inMetWindow (baseOf addr.toNat) = false) := by
  and_intros <;> decide +kernel

/-- The hypotheses of each clause of `CommitRuns`. -/
theorem test_meets_CommitRuns :
    (let s : State := onState;
     let m : Master := Master.pcie;
     let idle : Nat := 2;
     let pol : Nat := 1;
     s.on = true ∧ 1 ≤ idle ∧ idle ≤ 255 ∧ pol ≤ 2 ∧ (s.barred m = false ∨ (idle = s.rd F.COMMIT_CTL_OWN_IDLE 0 ∧ pol = s.rd F.COMMIT_CTL_OWNER_POLICY 0)) ∧ s.ownedByOther m = false ∧ s.committing = false ∧ s.safe = false ∧ (s.commitAt = 0 ∨ (s.tb.everLocked = true ∧ s.commitAt ≤ s.tb.now + 2 ^ 24 * 0x10000)))
    ∧ (let s : State := onState |> (·.wr F.COMMIT_STAT_STATE 0 2);
       let m : Master := Master.pcie;
       let idle : Nat := 198;
       let pol : Nat := 0;
       s.on = true ∧ 1 ≤ idle ∧ idle ≤ 255 ∧ pol ≤ 2 ∧ (s.barred m = false ∨ (idle = s.rd F.COMMIT_CTL_OWN_IDLE 0 ∧ pol = s.rd F.COMMIT_CTL_OWNER_POLICY 0)) ∧ s.committing = true ∧ s.commit.copying = false)
    ∧ (let s : State := onState;
       let m : Master := Master.pcie;
       let idle : Nat := 3;
       let pol : Nat := 2;
       s.on = true ∧ 1 ≤ idle ∧ idle ≤ 255 ∧ pol ≤ 2 ∧ (s.barred m = false ∨ (idle = s.rd F.COMMIT_CTL_OWN_IDLE 0 ∧ pol = s.rd F.COMMIT_CTL_OWNER_POLICY 0)) ∧ s.ownedByOther m = false ∧ s.committing = false)
    ∧ (let s : State := onState |> (·.wr F.COMMIT_STAT_STATE 0 1);
       let m : Master := Master.pcie;
       let idle : Nat := 2;
       let pol : Nat := 0;
       s.on = true ∧ 1 ≤ idle ∧ idle ≤ 255 ∧ pol ≤ 2 ∧ (s.barred m = false ∨ (idle = s.rd F.COMMIT_CTL_OWN_IDLE 0 ∧ pol = s.rd F.COMMIT_CTL_OWNER_POLICY 0)) ∧ s.ownedByOther m = false ∧ s.committing = true)
    ∧ (let s : State := onState |> (·.wr F.COMMIT_STAT_OWNER 0 3);
       let m : Master := Master.pcie;
       let idle : Nat := 4;
       let pol : Nat := 0;
       s.on = true ∧ 1 ≤ idle ∧ idle ≤ 255 ∧ pol ≤ 2 ∧ (s.barred m = false ∨ (idle = s.rd F.COMMIT_CTL_OWN_IDLE 0 ∧ pol = s.rd F.COMMIT_CTL_OWNER_POLICY 0)) ∧ s.ownedByOther m = true)
    ∧ (let s : State := onState |> setStag F.WELL_ZONE_T4 0 2 |> (·.wr F.COMMIT_STAT_STATE 0 1);
       s.on = true ∧ s.rd F.COMMIT_STAT_STATE 0 = 1 ∧ ((match firstFailing (s.checks false s.swapGuess (fun f i => s.cf f i) (fun f i => s.sf f i)) with | some (_, _) => decide (True) | _ => false) = true))
    ∧ (let s : State := onState |> (·.wr F.COMMIT_STAT_STATE 0 1);
       s.on = true ∧ s.rd F.COMMIT_STAT_STATE 0 = 1 ∧ firstFailing (s.checks false s.swapGuess (fun f i => s.cf f i) (fun f i => s.sf f i)) = none ∧ s.commit.at_ = 0)
    ∧ (let s : State := onState |> (fun s => { s with commit := { s.commit with at_ := 2 } }) |> (·.wr F.COMMIT_STAT_STATE 0 1);
       s.on = true ∧ s.rd F.COMMIT_STAT_STATE 0 = 1 ∧ firstFailing (s.checks false s.swapGuess (fun f i => s.cf f i) (fun f i => s.sf f i)) = none ∧ s.commit.at_ ≠ 0 ∧ s.tb.now ≤ slotUp s.commit.at_)
    ∧ (let s : State := onState |> (fun s => { s with commit := { s.commit with at_ := 1 } }) |> (·.wr F.COMMIT_STAT_STATE 0 1) |> (fun s => { s with tb := { s.tb with now := 65535 } });
       s.on = true ∧ s.rd F.COMMIT_STAT_STATE 0 = 1 ∧ firstFailing (s.checks false s.swapGuess (fun f i => s.cf f i) (fun f i => s.sf f i)) = none ∧ s.commit.at_ ≠ 0 ∧ slotUp s.commit.at_ < s.tb.now)
    ∧ (let s : State := onState |> (·.wr F.COMMIT_STAT_STATE 0 2);
       s.on = true ∧ s.rd F.COMMIT_STAT_STATE 0 = 2 ∧ s.commit.copying = false ∧ s.commit.coord = false ∧ s.commit.heldBack = false ∧ s.commit.swapAt ≤ s.tb.now ∧ s.holdsSwap = false)
    ∧ (let s : State := onState |> (fun s => { s with power := { s.power with afterCutoff := (some PState.safe) } }) |> (·.wr F.COMMIT_STAT_STATE 0 2);
       s.on = true ∧ s.rd F.COMMIT_STAT_STATE 0 = 2 ∧ s.commit.copying = false ∧ s.commit.coord = false ∧ s.commit.heldBack = false ∧ s.commit.swapAt ≤ s.tb.now ∧ s.holdsSwap = true)
    ∧ (let s : State := onState |> (fun s => { s with commit := { s.commit with copying := true } });
       s.on = true ∧ s.commit.copying = true)
    ∧ (let s : State := onState |> (·.wr F.COMMIT_STAT_OWNER 0 1);
       s.on = true ∧ s.rd F.COMMIT_STAT_OWNER 0 ≠ 0 ∧ s.committing = false) := by
  and_intros <;> decide +kernel

/-- The hypotheses of each clause of `VotesSettle`. -/
theorem test_meets_VotesSettle :
    (let s : State := onState;
     s.on = true)
    ∧ (let s : State := onState;
       let x : Found := { act := false, reg := 7168, inst := 0, lo := 0, a := 1, b := 0, c := 1 };
       s.on = true ∧ ((match votedFld x.reg x.lo with | some (r, f) => decide (r.instances.contains x.inst = true ∧ x.a < 2 ^ f.width ∧ x.b < 2 ^ f.width ∧ x.c < 2 ^ f.width ∧ ((match majority x.a x.b x.c with | some _ => decide (¬(x.a = x.b ∧ x.b = x.c)) | _ => false) = true)) | _ => false) = true))
    ∧ (let s : State := onState;
       let x : Found := { act := false, reg := 6912, inst := 30, lo := 24, a := 4, b := 3, c := 1 };
       s.on = true ∧ ((match votedFld x.reg x.lo with | some (r, f) => decide (r.instances.contains x.inst = true ∧ x.a < 2 ^ f.width ∧ x.b < 2 ^ f.width ∧ x.c < 2 ^ f.width ∧ majority x.a x.b x.c = none ∧ x.act = false) | _ => false) = true))
    ∧ (let s : State := onState;
       let x : Found := { act := true, reg := 7184, inst := 0, lo := 24, a := 1, b := 255, c := 4 };
       s.on = true ∧ ((match votedFld x.reg x.lo with | some (r, f) => decide (r.instances.contains x.inst = true ∧ x.a < 2 ^ f.width ∧ x.b < 2 ^ f.width ∧ x.c < 2 ^ f.width ∧ majority x.a x.b x.c = none ∧ x.act = true) | _ => false) = true))
    ∧ (let s : State := onState;
       let m : Master := Master.pcie;
       let x : Found := { act := false, reg := 3080, inst := 8, lo := 16, a := 1, b := 6, c := 6 };
       s.on = true ∧ ((match votedFld x.reg x.lo with | some (r, f) => decide (r.instances.contains x.inst = true ∧ x.a < 2 ^ f.width ∧ x.b < 2 ^ f.width ∧ x.c < 2 ^ f.width ∧ ((match findReg (r.addrOf x.inst) with | some (r, k) => decide (x.act = s.viewsActive m ∧ aliasOf (r.addrOf x.inst) = 0 ∧ inMetWindow (r.addrOf x.inst) = false ∧ instOf (selOf s m.idx) m.idx r k = x.inst ∧ reached r x.inst = true ∧ ((match majority x.a x.b x.c with | some _ => decide (¬(x.a = x.b ∧ x.b = x.c)) | _ => false) = true)) | _ => false) = true)) | _ => false) = true))
    ∧ (let s : State := onState;
       let m : Master := Master.twoWire;
       let x : Found := { act := false, reg := 2048, inst := 0, lo := 4, a := 15, b := 3, c := 5 };
       s.on = true ∧ ((match votedFld x.reg x.lo with | some (r, f) => decide (r.instances.contains x.inst = true ∧ x.a < 2 ^ f.width ∧ x.b < 2 ^ f.width ∧ x.c < 2 ^ f.width ∧ ((match findReg (r.addrOf x.inst) with | some (r, k) => decide (x.act = s.viewsActive m ∧ aliasOf (r.addrOf x.inst) = 0 ∧ inMetWindow (r.addrOf x.inst) = false ∧ instOf (selOf s m.idx) m.idx r k = x.inst ∧ reached r x.inst = true ∧ majority x.a x.b x.c = none ∧ x.act = false) | _ => false) = true)) | _ => false) = true))
    ∧ (let s : State := onState |> (·.wr F.VIEW_ACTIVE 0 1);
       let m : Master := Master.pcie;
       let x : Found := { act := true, reg := 5380, inst := 0, lo := 24, a := 3, b := 0, c := 2 };
       s.on = true ∧ ((match votedFld x.reg x.lo with | some (r, f) => decide (r.instances.contains x.inst = true ∧ x.a < 2 ^ f.width ∧ x.b < 2 ^ f.width ∧ x.c < 2 ^ f.width ∧ ((match findReg (r.addrOf x.inst) with | some (r, k) => decide (x.act = s.viewsActive m ∧ aliasOf (r.addrOf x.inst) = 0 ∧ inMetWindow (r.addrOf x.inst) = false ∧ instOf (selOf s m.idx) m.idx r k = x.inst ∧ reached r x.inst = true ∧ majority x.a x.b x.c = none ∧ x.act = true) | _ => false) = true)) | _ => false) = true)) := by
  and_intros <;> decide +kernel

/-- The hypotheses of each clause of `MailboxRequests`. -/
theorem test_meets_MailboxRequests :
    (let s : State := onState;
     let home : BitVec 14 := 0x0420#14;
     s.on = true ∧ ((match homeLen home.toNat with | some _ => decide ((inMetWindow home.toNat = false ∨ s.rd F.ID_MET_FITTED 0 = 1)) | _ => false) = true))
    ∧ (let s : State := onState;
       let home : BitVec 14 := 0x0000#14;
       s.on = true ∧ homeLen home.toNat = none ∧ inMetWindow home.toNat = false)
    ∧ (let s : State := onState |> (fun s => { s with mbx := (s.mbx.put 0 { s.mbx.at 0 with req := (some (false, 1048, 0)) }) });
       let m : Master := Master.pcie;
       s.on = true ∧ ((match (s.mbx.at m.idx).req with | some (false, 0x418, _) => decide (True) | _ => false) = true))
    ∧ (let s : State := onState |> (fun s => { s with mbx := (s.mbx.put 0 { s.mbx.at 0 with req := (some (true, 1064, 2)) }) });
       let m : Master := Master.pcie;
       s.on = true ∧ ((match (s.mbx.at m.idx).req with | some (true, 0x428, _) => decide (s.barred m = false ∧ s.rd F.MBX_DATA0_DATA m.idx < 2 ^ 32 ∧ s.rd F.MBX_DATA1_DATA m.idx < 2 ^ 32) | _ => false) = true)) := by
  and_intros <;> decide +kernel

/-- The hypotheses of each clause of `TwoWireBus`. -/
theorem test_meets_TwoWireBus :
    (let s : State := onState;
     s.on = true ∧ (let idle := s.tw.crossing = none ∧ s.tw.busyTill ≤ s.now; idle))
    ∧ (let s : State := onState |> (fun s => { s with tw := { s.tw with ptr := 0xff#8 } });
       s.on = true ∧ (let idle := s.tw.crossing = none ∧ s.tw.busyTill ≤ s.now; idle ∧ (0xFC ≤ s.tw.ptr.toNat ∨ outsideAt s.tw.addr = false)))
    ∧ (let s : State := onState |> (fun s => { s with tw := { s.tw with crossing := (some 1) } });
       s.on = true ∧ (let idle := s.tw.crossing = none ∧ s.tw.busyTill ≤ s.now; ¬idle))
    ∧ (let s : State := onState;
       s.on = true ∧ (let idle := s.tw.crossing = none ∧ s.tw.busyTill ≤ s.now; idle ∧ s.tw.ptr.toNat < 0xFC ∧ outsideAt s.tw.addr = true ∧ s.tw.kept.all (fun p => p.1 != s.tw.page.toNat * 256 + s.tw.ptr.toNat) = true))
    ∧ (let s : State := onState |> (fun s => { s with tw := { s.tw with kept := (some (0, [(8, 3)])) } });
       s.on = true ∧ (let idle := s.tw.crossing = none ∧ s.tw.busyTill ≤ s.now; idle ∧ s.tw.ptr.toNat < 0xFC ∧ outsideAt s.tw.addr = true ∧ ((match s.tw.kept with | some p => decide (p.1 = s.tw.page.toNat * 256 + s.tw.ptr.toNat) | _ => false) = true)))
    ∧ (let s : State := onState |> (fun s => { s with tw := { s.tw with active := true } }) |> (fun s => { s with tw := { s.tw with wantPtr := true } });
       s.on = true ∧ s.tw.active = true ∧ s.tw.wantPtr = true)
    ∧ (let s : State := onState |> (fun s => { s with tw := { s.tw with active := true } }) |> (fun s => { s with tw := { s.tw with ptr := 0xff#8 } });
       s.on = true ∧ s.tw.active = true ∧ s.tw.reading = false ∧ s.tw.wantPtr = false ∧ s.tw.dead = false ∧ s.tw.ptr = 0xFF)
    ∧ (let s : State := onState |> (fun s => { s with tw := { active := true, ptr := 0xFC } });
       s.on = true ∧ s.tw.active = true ∧ s.tw.reading = false ∧ s.tw.wantPtr = false ∧ s.tw.dead = false ∧ 0xFC ≤ s.tw.ptr.toNat ∧ s.tw.ptr ≠ 0xFF)
    ∧ (let s : State := onState |> (fun s => { s with tw := { s.tw with active := true } });
       s.on = true ∧ s.tw.active = true ∧ s.tw.reading = false ∧ s.tw.wantPtr = false ∧ s.tw.dead = false ∧ s.tw.ptr.toNat < 0xFC ∧ s.tw.ptr.toNat % 4 ≠ 3)
    ∧ (let s : State := onState |> (fun s => { s with tw := { active := true, ptr := 3, asm := some (0, 5) } });
       s.on = true ∧ s.tw.active = true ∧ s.tw.reading = false ∧ s.tw.wantPtr = false ∧ s.tw.dead = false ∧ s.tw.ptr.toNat < 0xFC ∧ s.tw.ptr.toNat % 4 = 3 ∧ s.tw.asm = some (s.tw.addr, 5))
    ∧ (let s : State := onState |> (fun s => { s with tw := { s.tw with reading := true } }) |> (fun s => { s with tw := { s.tw with active := true } }) |> (fun s => { s with tw := { s.tw with snaps := [(0, 1)] } });
       s.on = true ∧ (let addr := s.tw.page.toNat * 256 + s.tw.ptr.toNat / 4 * 4; s.tw.active = true ∧ s.tw.reading = true ∧ s.tw.released = false ∧ s.tw.dead = false ∧ s.tw.ptr.toNat < 0xFC ∧ ((match s.tw.snaps.find? (fun y => y.1 == addr) with | some _ => decide (True) | _ => false) = true)))
    ∧ (let s : State := onState |> (fun s => { s with tw := { s.tw with active := true } }) |> (fun s => { s with tw := { s.tw with reading := true } });
       s.on = true ∧ (let addr := s.tw.page.toNat * 256 + s.tw.ptr.toNat / 4 * 4; s.tw.active = true ∧ s.tw.reading = true ∧ s.tw.released = false ∧ s.tw.dead = false ∧ s.tw.ptr.toNat < 0xFC ∧ s.tw.snaps.find? (fun y => y.1 == addr) = none ∧ outsideAt addr = true))
    ∧ (let s : State := onState |> (fun s => { s with tw := { active := true, reading := true, page := 2, ptr := 4 } });
       s.on = true ∧ (let addr := s.tw.page.toNat * 256 + s.tw.ptr.toNat / 4 * 4; s.tw.active = true ∧ s.tw.reading = true ∧ s.tw.released = false ∧ s.tw.dead = false ∧ s.tw.ptr.toNat < 0xFC ∧ s.tw.snaps.find? (fun y => y.1 == addr) = none ∧ outsideAt addr = false ∧ ((match findReg (baseOf addr) with | some (r, k) => decide (aliasOf addr = 0 ∧ r.base ≠ 0x200 ∧ r.isBanked = false ∧ reached r (instOf (selOf s 1) 1 r k) = true) | _ => false) = true)))
    ∧ (let s : State := onState |> (fun s => { s with tw := { s.tw with active := true } }) |> (fun s => { s with tw := { s.tw with reading := true } }) |> (fun s => { s with tw := { s.tw with ptr := 0xff#8 } });
       s.on = true ∧ s.tw.active = true ∧ s.tw.reading = true ∧ s.tw.released = false ∧ s.tw.dead = false ∧ s.tw.ptr = 0xFF)
    ∧ (let s : State := onState |> (fun s => { s with tw := { active := true, reading := true, ptr := 0xFC } });
       s.on = true ∧ s.tw.active = true ∧ s.tw.reading = true ∧ s.tw.released = false ∧ s.tw.dead = false ∧ s.tw.ptr ≠ 0xFF ∧ 0xFC ≤ s.tw.ptr.toNat)
    ∧ (let s : State := onState |> (fun s => { s with tw := { s.tw with dead := true } }) |> (fun s => { s with tw := { s.tw with reading := true } }) |> (fun s => { s with tw := { s.tw with active := true } });
       s.on = true ∧ s.tw.active = true ∧ s.tw.reading = true ∧ (s.tw.released = true ∨ s.tw.dead = true))
    ∧ (let s : State := onState;
       s.on = true)
    ∧ (let s : State := onState |> (fun s => { s with tw := { s.tw with crossing := (some 5) } });
       s.on = true ∧ ((match s.tw.crossing with | some _ => decide (True) | _ => false) = true))
    ∧ (let s : State := onState |> (fun s => { s with tw := { s.tw with reading := true } }) |> (fun s => { s with tw := { s.tw with active := true } });
       s.on = true ∧ s.tw.active = true ∧ s.tw.reading = true) := by
  and_intros <;> decide +kernel

/-- The hypotheses of each clause of `LockStates`. -/
theorem test_meets_LockStates :
    (let s : State := onState;
     s.on = true ∧ s.con F.TB_CFG_MAINS_EN 0 = true ∧ (s.lock = 0 ∨ s.lock = 3 ∨ s.lock = 4))
    ∧ (let s : State := onState |> setAct F.TB_CFG_MAINS_EN 0 0;
       s.on = true ∧ s.con F.TB_CFG_MAINS_EN 0 = false)
    ∧ (let s : State := onState |> (·.wr F.TB_STAT_LOCK 0 2);
       s.on = true ∧ (s.lock = 2 ∨ (s.lock = 1 ∧ s.tb.everLocked = true)))
    ∧ (let s : State := onState |> (·.wr F.TB_STAT_LOCK 0 1);
       s.on = true ∧ s.lock = 1 ∧ s.tb.everLocked = false)
    ∧ (let s : State := onState;
       s.on = true ∧ (s.lock = 0 ∨ s.lock = 3 ∨ s.lock = 4))
    ∧ (let s : State := onState |> (·.wr F.TB_STAT_LOCK 0 2);
       s.on = true ∧ s.lock = 2)
    ∧ (let s : State := onState |> (·.wr F.TB_STAT_LOCK 0 3) |> (·.wr F.TB_HOLD_STROKES 0 909167847);
       s.on = true ∧ (s.lock = 3 ∨ s.lock = 4) ∧ 12500 < s.rd F.TB_HOLD_STROKES 0 ∧ s.rd F.TB_STAT_COUNT_SUSPECT 0 = 0)
    ∧ (let s : State := onState;
       s.on = true ∧ s.rd F.TB_HOLD_STROKES 0 ≤ 12500)
    ∧ (let s : State := onState |> (·.wr F.TB_STAT_LOCK 0 1);
       let mHz : Nat := 0;
       s.on = true ∧ mHz < 2 ^ 17 ∧ s.lock = 1 ∧ s.tb.slew = 0)
    ∧ (let s : State := onState |> (·.wr F.TB_STAT_LOCK 0 1);
       let mHz : Nat := 2;
       let theta : BitVec 16 := 0x0200#16;
       s.on = true ∧ mHz < 2 ^ 17 ∧ s.lock = 1 ∧ s.tb.slew = 0 ∧ (let corr := s.correction theta.toNat; s.tb.everLocked = false ∧ 0 ≤ (s.tb.now : Int) + corr))
    ∧ (let s : State := onState |> (fun s => { s with tb := { s.tb with everLocked := true } }) |> (·.wr F.TB_STAT_LOCK 0 1);
       let mHz : Nat := 3;
       let theta : BitVec 16 := 0xffff#16;
       s.on = true ∧ mHz < 2 ^ 17 ∧ s.lock = 1 ∧ s.tb.slew = 0 ∧ (let corr := s.correction theta.toNat; s.tb.everLocked = true ∧ corr.natAbs ≤ 64 ∧ s.con F.TB_CFG_REACQ_STEP 0 = false))
    ∧ (let s : State := onState |> (·.wr F.TB_STAT_LOCK 0 1) |> (fun s => { s with tb := { s.tb with everLocked := true } });
       let mHz : Nat := 8;
       let theta : BitVec 16 := 0x1234#16;
       s.on = true ∧ mHz < 2 ^ 17 ∧ s.lock = 1 ∧ s.tb.slew = 0 ∧ (let corr := s.correction theta.toNat; s.tb.everLocked = true ∧ 64 < corr.natAbs ∧ s.con F.TB_CFG_REACQ_STEP 0 = false))
    ∧ (let s : State := onState |> (fun s => { s with tb := { s.tb with everLocked := true } }) |> setAct F.TB_CFG_REACQ_STEP 0 1 |> (·.wr F.TB_STAT_LOCK 0 1);
       let mHz : Nat := 1;
       let theta : BitVec 16 := 0x0800#16;
       s.on = true ∧ mHz < 2 ^ 17 ∧ s.lock = 1 ∧ s.tb.slew = 0 ∧ (let corr := s.correction theta.toNat; s.tb.everLocked = true ∧ corr ≠ 0 ∧ s.con F.TB_CFG_REACQ_STEP 0 = true ∧ 0 ≤ (s.tb.now : Int) + corr)) := by
  and_intros <;> decide +kernel

/-- The hypotheses of each clause of `StrokeBoundaries`. -/
theorem test_meets_StrokeBoundaries :
    (let s : State := onState;
     let mHz : Nat := 219;
     s.on = true ∧ mHz < 2 ^ 17 ∧ s.tb.stepPend = none ∧ s.tb.ofsStep = none)
    ∧ (let s : State := onState |> (fun s => { s with tb := { s.tb with stepPend := some (1, 1) } });
       s.on = true ∧ (50000 : Nat) < 2 ^ 17 ∧ s.tb.stepPend = some (1, 1) ∧ s.tb.ofsStep = none ∧ 0 ≤ (s.tb.now / 0x10000 : Int) + 1 + 1) := by
  and_intros <;> decide +kernel

/-- The hypotheses of each clause of `Alignment`. -/
theorem test_meets_Alignment :
    (let s : State := onState |> setAct F.TB_CFG_PPS_EN 0 1;
     let rising : Bool := true;
     s.on = true ∧ s.con F.TB_CFG_PPS_EN 0 = true ∧ s.con F.TB_CFG_PPS_EDGE 0 = !rising ∧ s.tb.alignArmed = false)
    ∧ (let s : State := onState |> setAct F.TB_CFG_PPS_EN 0 1 |> (fun s => { s with tb := { s.tb with alignArmed := true } });
       let rising : Bool := true;
       s.on = true ∧ s.con F.TB_CFG_PPS_EN 0 = true ∧ s.con F.TB_CFG_PPS_EDGE 0 = !rising ∧ s.tb.alignArmed = true ∧ s.lock ≠ 2)
    ∧ (let s : State := onState |> (·.wr F.ALIGN_TIME_TIME 0 1311845678829383811) |> (fun s => { s with tb := { s.tb with alignArmed := true } }) |> setAct F.TB_CFG_PPS_EN 0 1 |> (·.wr F.TB_STAT_LOCK 0 2);
       let rising : Bool := true;
       s.on = true ∧ s.con F.TB_CFG_PPS_EN 0 = true ∧ s.con F.TB_CFG_PPS_EDGE 0 = !rising ∧ s.tb.alignArmed = true ∧ s.lock = 2 ∧ (let d := (BitVec.ofNat 64 (s.rd F.ALIGN_TIME_TIME 0) - BitVec.ofNat 64 s.tb.now).toInt; let k := (d + 0x8000) / 0x10000; let resid := d - k * 0x10000; (s.cf F.TB_CFG_RESID_LIM 0 * 256 < resid.natAbs ∨ 2 ^ 24 < k.natAbs ∨ (s.tb.now / 0x10000 : Int) + k < 0)))
    ∧ (let s : State := onState |> setAct F.TB_CFG_PPS_EN 0 1 |> (fun s => { s with tb := { s.tb with alignArmed := true } }) |> (·.wr F.TB_STAT_LOCK 0 2);
       let rising : Bool := true;
       s.on = true ∧ s.con F.TB_CFG_PPS_EN 0 = true ∧ s.con F.TB_CFG_PPS_EDGE 0 = !rising ∧ s.tb.alignArmed = true ∧ s.lock = 2 ∧ (let d := (BitVec.ofNat 64 (s.rd F.ALIGN_TIME_TIME 0) - BitVec.ofNat 64 s.tb.now).toInt; let k := (d + 0x8000) / 0x10000; let resid := d - k * 0x10000; resid.natAbs ≤ s.cf F.TB_CFG_RESID_LIM 0 * 256 ∧ k.natAbs ≤ 2 ^ 24 ∧ 0 ≤ (s.tb.now / 0x10000 : Int) + k))
    ∧ (let s : State := onState;
       s.on = true ∧ s.con F.TB_CFG_PPS_EN 0 = false)
    ∧ (let s : State := onState;
       s.on = true)
    ∧ (let s : State := onState |> setAct F.TB_CFG_PPS_EN 0 1;
       let m : Master := Master.pcie;
       s.on = true ∧ s.barred m = false ∧ s.cf F.TB_CFG_PPS_EN 0 = 1)
    ∧ (let s : State := onState;
       let m : Master := Master.pcie;
       s.on = true ∧ s.barred m = false ∧ s.cf F.TB_CFG_PPS_EN 0 = 0)
    ∧ (let s : State := onState;
       let m : Master := Master.pcie;
       let n : BitVec 24 := 0x000007#24;
       s.on = true ∧ s.barred m = false ∧ 0 ≤ (s.tb.now / 0x10000 : Int) + n.toInt)
    ∧ (let s : State := onState;
       let m : Master := Master.pcie;
       let n : BitVec 24 := 0xffffff#24;
       s.on = true ∧ s.barred m = false ∧ (s.tb.now / 0x10000 : Int) + n.toInt < 0) := by
  and_intros <;> decide +kernel

/-- The hypotheses of each clause of `Launches`. -/
theorem test_meets_Launches :
    (let s : State := onState;
     s.on = true ∧ (s.rd F.COMMIT_STAT_STATE 0 = 2 → s.commit.copying = true ∨ s.swapDue = false) ∧ s.pert.kindEnd.at 3 = 0 ∧ s.sched.served = true ∧ s.tb.now / 256 % 256 ≠ 255)
    ∧ (let s : State := onState |> (fun s => { s with sched := { s.sched with served := false } });
       s.on = true ∧ (s.rd F.COMMIT_STAT_STATE 0 = 2 → s.commit.copying = true ∨ s.swapDue = false) ∧ s.pert.kindEnd.at 3 = 0 ∧ s.sched.served = false)
    ∧ (let s : State := onState |> (fun s => { s with tb := { s.tb with now := 256 } }) |> (fun s => { s with sched := { s.sched with served := false } }) |> setAct F.SCH_CTL_EN 0 1 |> (·.wr F.CTX_STAT_STATE 0 1) |> setAct F.CTX_CFG_MODE 0 1 |> setAct F.CTX_LAUNCH_TIME 0 256;
       let c : CtxId := 0;
       let d : CtxId := 0;
       s.on = true ∧ (s.rd F.COMMIT_STAT_STATE 0 = 2 → s.commit.copying = true ∨ s.swapDue = false) ∧ s.pert.kindEnd.at 3 = 0 ∧ (let t := if s.sched.served = true then (s.tb.now / 256 + 1) * 256 else s.tb.now; let n := if s.sched.served = true then 0 else s.sched.inSlot; let goes := s.schOn = true ∧ (s.sched.served = true → s.tb.now / 256 % 256 ≠ 255) ∧ (∀ k : Fin 12, s.con F.CA_ROT_ROT_AUTO k.val = true → s.cf F.CA_ROT_ROT_SLOT k.val ≠ t / 256 % 256); let alone := ∀ k : Fin 128, k.val ≠ c.val → k.val ≠ d.val → s.ctxSt k.val = 0 ∧ s.mode k.val ≠ 2; let fresh (x : Nat) : Prop := (s.ctx x).prev.all (fun p => decide (p < t)) = true; let occurs (x : Nat) : Prop := s.mode x = 2 ∧ t / 0x10000 % s.cf F.CTX_PER_PERIOD x = s.cf F.CTX_PER_MODULO x ∧ s.cf F.CTX_SLOT_SLOT x = t / 256 % 256 ∧ ¬(s.cf F.CTX_CFG_ONESHOT x = 1 ∧ (s.ctx x).onceDone = true); let exact (x : Nat) : Prop := s.ctxSt x = 1 ∧ fresh x ∧ ((s.mode x = 1 ∧ slotUp (s.cf F.CTX_LAUNCH_TIME x) = t) ∨ (s.mode x = 3 ∧ (s.ctx x).armAt.any (fun a => a != 0 && slotUp a == t) = true) ∨ occurs x); let open_ (x : Nat) : Prop := s.ctxSt x = 1 ∧ fresh x ∧ s.mode x = 3 ∧ (s.ctx x).armAt = some 0 ∧ (s.ctx x).armedAt ≤ t; let free (x : Nat) : Prop := s.cf F.CTX_CFG_LOCK_REQ x = 0 ∨ s.lock = 2; goes ∧ alone ∧ c = d ∧ (exact c.val ∨ open_ c.val) ∧ n < 8 ∧ free c.val))
    ∧ (let s : State := onState |> (fun s => { s with tb := { s.tb with now := 256 } }) |> (fun s => { s with sched := { s.sched with served := false } }) |> setAct F.SCH_CTL_EN 0 1 |> (·.wr F.CTX_STAT_STATE 0 1) |> setAct F.CTX_CFG_MODE 0 1 |> setAct F.CTX_LAUNCH_TIME 0 256 |> setAct F.CTX_CFG_LOCK_REQ 0 1;
       let c : CtxId := 0;
       let d : CtxId := 0;
       s.on = true ∧ (s.rd F.COMMIT_STAT_STATE 0 = 2 → s.commit.copying = true ∨ s.swapDue = false) ∧ s.pert.kindEnd.at 3 = 0 ∧ (let t := if s.sched.served = true then (s.tb.now / 256 + 1) * 256 else s.tb.now; let n := if s.sched.served = true then 0 else s.sched.inSlot; let goes := s.schOn = true ∧ (s.sched.served = true → s.tb.now / 256 % 256 ≠ 255) ∧ (∀ k : Fin 12, s.con F.CA_ROT_ROT_AUTO k.val = true → s.cf F.CA_ROT_ROT_SLOT k.val ≠ t / 256 % 256); let alone := ∀ k : Fin 128, k.val ≠ c.val → k.val ≠ d.val → s.ctxSt k.val = 0 ∧ s.mode k.val ≠ 2; let fresh (x : Nat) : Prop := (s.ctx x).prev.all (fun p => decide (p < t)) = true; let occurs (x : Nat) : Prop := s.mode x = 2 ∧ t / 0x10000 % s.cf F.CTX_PER_PERIOD x = s.cf F.CTX_PER_MODULO x ∧ s.cf F.CTX_SLOT_SLOT x = t / 256 % 256 ∧ ¬(s.cf F.CTX_CFG_ONESHOT x = 1 ∧ (s.ctx x).onceDone = true); let exact (x : Nat) : Prop := s.ctxSt x = 1 ∧ fresh x ∧ ((s.mode x = 1 ∧ slotUp (s.cf F.CTX_LAUNCH_TIME x) = t) ∨ (s.mode x = 3 ∧ (s.ctx x).armAt.any (fun a => a != 0 && slotUp a == t) = true) ∨ occurs x); let open_ (x : Nat) : Prop := s.ctxSt x = 1 ∧ fresh x ∧ s.mode x = 3 ∧ (s.ctx x).armAt = some 0 ∧ (s.ctx x).armedAt ≤ t; let free (x : Nat) : Prop := s.cf F.CTX_CFG_LOCK_REQ x = 0 ∨ s.lock = 2; goes ∧ alone ∧ c = d ∧ (exact c.val ∨ open_ c.val) ∧ n < 8 ∧ ¬free c.val))
    ∧ (let s : State := onState |> (·.wr F.CTX_STAT_STATE 0 1) |> setAct F.CTX_CFG_MODE 0 1;
       let c : CtxId := 0;
       let d : CtxId := 0;
       s.on = true ∧ (s.rd F.COMMIT_STAT_STATE 0 = 2 → s.commit.copying = true ∨ s.swapDue = false) ∧ s.pert.kindEnd.at 3 = 0 ∧ (let t := if s.sched.served = true then (s.tb.now / 256 + 1) * 256 else s.tb.now; let n := if s.sched.served = true then 0 else s.sched.inSlot; let goes := s.schOn = true ∧ (s.sched.served = true → s.tb.now / 256 % 256 ≠ 255) ∧ (∀ k : Fin 12, s.con F.CA_ROT_ROT_AUTO k.val = true → s.cf F.CA_ROT_ROT_SLOT k.val ≠ t / 256 % 256); let alone := ∀ k : Fin 128, k.val ≠ c.val → k.val ≠ d.val → s.ctxSt k.val = 0 ∧ s.mode k.val ≠ 2; let fresh (x : Nat) : Prop := (s.ctx x).prev.all (fun p => decide (p < t)) = true; let late (x : Nat) : Prop := s.ctxSt x = 1 ∧ fresh x ∧ s.mode x = 1 ∧ slotUp (s.cf F.CTX_LAUNCH_TIME x) < t; let fits (x : Nat) : Prop := t + requiredTime (progOf s.cf x) ≤ slotUp (s.cf F.CTX_LAUNCH_TIME x) + s.cf F.CTX_CFG_DEADLINE x; let free (x : Nat) : Prop := s.cf F.CTX_CFG_LOCK_REQ x = 0 ∨ s.lock = 2; goes ∧ alone ∧ c = d ∧ late c.val ∧ n < 8 ∧ free c.val ∧ fits c.val))
    ∧ (let s : State := onState |> setAct F.CTX_CFG_DEADLINE 0 256 |> (·.wr F.CTX_STAT_STATE 0 1) |> setAct F.CTX_CFG_MODE 0 1;
       let c : CtxId := 0;
       let d : CtxId := 0;
       s.on = true ∧ (s.rd F.COMMIT_STAT_STATE 0 = 2 → s.commit.copying = true ∨ s.swapDue = false) ∧ s.pert.kindEnd.at 3 = 0 ∧ (let t := if s.sched.served = true then (s.tb.now / 256 + 1) * 256 else s.tb.now; let n := if s.sched.served = true then 0 else s.sched.inSlot; let goes := s.schOn = true ∧ (s.sched.served = true → s.tb.now / 256 % 256 ≠ 255) ∧ (∀ k : Fin 12, s.con F.CA_ROT_ROT_AUTO k.val = true → s.cf F.CA_ROT_ROT_SLOT k.val ≠ t / 256 % 256); let alone := ∀ k : Fin 128, k.val ≠ c.val → k.val ≠ d.val → s.ctxSt k.val = 0 ∧ s.mode k.val ≠ 2; let fresh (x : Nat) : Prop := (s.ctx x).prev.all (fun p => decide (p < t)) = true; let late (x : Nat) : Prop := s.ctxSt x = 1 ∧ fresh x ∧ s.mode x = 1 ∧ slotUp (s.cf F.CTX_LAUNCH_TIME x) < t; let fits (x : Nat) : Prop := t + requiredTime (progOf s.cf x) ≤ slotUp (s.cf F.CTX_LAUNCH_TIME x) + s.cf F.CTX_CFG_DEADLINE x; let free (x : Nat) : Prop := s.cf F.CTX_CFG_LOCK_REQ x = 0 ∨ s.lock = 2; goes ∧ alone ∧ c = d ∧ late c.val ∧ n < 8 ∧ free c.val ∧ ¬fits c.val))
    ∧ (let s : State := onState |> (fun s => { s with tb := { s.tb with now := 256 } }) |> (fun s => { s with sched := { s.sched with served := false } }) |> setAct F.SCH_CTL_EN 0 1 |> (·.wr F.CTX_STAT_STATE 0 1) |> setAct F.CTX_CFG_MODE 0 1 |> setAct F.CTX_LAUNCH_TIME 0 256 |> (fun s => { s with sched := { s.sched with inSlot := 8 } });
       let c : CtxId := 0;
       let d : CtxId := 0;
       s.on = true ∧ (s.rd F.COMMIT_STAT_STATE 0 = 2 → s.commit.copying = true ∨ s.swapDue = false) ∧ s.pert.kindEnd.at 3 = 0 ∧ (let t := if s.sched.served = true then (s.tb.now / 256 + 1) * 256 else s.tb.now; let n := if s.sched.served = true then 0 else s.sched.inSlot; let goes := s.schOn = true ∧ (s.sched.served = true → s.tb.now / 256 % 256 ≠ 255) ∧ (∀ k : Fin 12, s.con F.CA_ROT_ROT_AUTO k.val = true → s.cf F.CA_ROT_ROT_SLOT k.val ≠ t / 256 % 256); let alone := ∀ k : Fin 128, k.val ≠ c.val → k.val ≠ d.val → s.ctxSt k.val = 0 ∧ s.mode k.val ≠ 2; let fresh (x : Nat) : Prop := (s.ctx x).prev.all (fun p => decide (p < t)) = true; let occurs (x : Nat) : Prop := s.mode x = 2 ∧ t / 0x10000 % s.cf F.CTX_PER_PERIOD x = s.cf F.CTX_PER_MODULO x ∧ s.cf F.CTX_SLOT_SLOT x = t / 256 % 256 ∧ ¬(s.cf F.CTX_CFG_ONESHOT x = 1 ∧ (s.ctx x).onceDone = true); let exact (x : Nat) : Prop := s.ctxSt x = 1 ∧ fresh x ∧ ((s.mode x = 1 ∧ slotUp (s.cf F.CTX_LAUNCH_TIME x) = t) ∨ (s.mode x = 3 ∧ (s.ctx x).armAt.any (fun a => a != 0 && slotUp a == t) = true) ∨ occurs x); let open_ (x : Nat) : Prop := s.ctxSt x = 1 ∧ fresh x ∧ s.mode x = 3 ∧ (s.ctx x).armAt = some 0 ∧ (s.ctx x).armedAt ≤ t; let late (x : Nat) : Prop := s.ctxSt x = 1 ∧ fresh x ∧ s.mode x = 1 ∧ slotUp (s.cf F.CTX_LAUNCH_TIME x) < t; goes ∧ alone ∧ c = d ∧ (exact c.val ∨ open_ c.val ∨ late c.val) ∧ 8 ≤ n))
    ∧ (let s : State := onState |> (fun s => { s with tb := { s.tb with now := 256 } }) |> (fun s => { s with sched := { s.sched with served := false } }) |> setAct F.SCH_CTL_EN 0 1 |> (·.wr F.CTX_STAT_STATE 0 1) |> setAct F.CTX_CFG_MODE 0 1 |> setAct F.CTX_LAUNCH_TIME 0 256 |> (·.wr F.CTX_STAT_STATE 1 1) |> setAct F.CTX_CFG_MODE 1 1 |> setAct F.CTX_LAUNCH_TIME 1 256 |> (fun s => { s with sched := { s.sched with inSlot := 7 } });
       let c : CtxId := 0;
       let d : CtxId := 1;
       s.on = true ∧ (s.rd F.COMMIT_STAT_STATE 0 = 2 → s.commit.copying = true ∨ s.swapDue = false) ∧ s.pert.kindEnd.at 3 = 0 ∧ (let t := if s.sched.served = true then (s.tb.now / 256 + 1) * 256 else s.tb.now; let n := if s.sched.served = true then 0 else s.sched.inSlot; let goes := s.schOn = true ∧ (s.sched.served = true → s.tb.now / 256 % 256 ≠ 255) ∧ (∀ k : Fin 12, s.con F.CA_ROT_ROT_AUTO k.val = true → s.cf F.CA_ROT_ROT_SLOT k.val ≠ t / 256 % 256); let alone := ∀ k : Fin 128, k.val ≠ c.val → k.val ≠ d.val → s.ctxSt k.val = 0 ∧ s.mode k.val ≠ 2; let fresh (x : Nat) : Prop := (s.ctx x).prev.all (fun p => decide (p < t)) = true; let occurs (x : Nat) : Prop := s.mode x = 2 ∧ t / 0x10000 % s.cf F.CTX_PER_PERIOD x = s.cf F.CTX_PER_MODULO x ∧ s.cf F.CTX_SLOT_SLOT x = t / 256 % 256 ∧ ¬(s.cf F.CTX_CFG_ONESHOT x = 1 ∧ (s.ctx x).onceDone = true); let exact (x : Nat) : Prop := s.ctxSt x = 1 ∧ fresh x ∧ ((s.mode x = 1 ∧ slotUp (s.cf F.CTX_LAUNCH_TIME x) = t) ∨ (s.mode x = 3 ∧ (s.ctx x).armAt.any (fun a => a != 0 && slotUp a == t) = true) ∨ occurs x); let free (x : Nat) : Prop := s.cf F.CTX_CFG_LOCK_REQ x = 0 ∨ s.lock = 2; goes ∧ alone ∧ c.val < d.val ∧ exact c.val ∧ exact d.val ∧ free c.val ∧ n = 7))
    ∧ (let s : State := onState |> (fun s => { s with tb := { s.tb with now := 256 } }) |> (fun s => { s with sched := { s.sched with served := false } }) |> setAct F.SCH_CTL_EN 0 1 |> (·.wr F.CTX_STAT_STATE 0 1) |> setAct F.CTX_CFG_MODE 0 1 |> setAct F.CTX_LAUNCH_TIME 0 256 |> (·.wr F.CTX_STAT_STATE 1 1) |> setAct F.CTX_CFG_MODE 1 1 |> (fun s => { s with sched := { s.sched with inSlot := 7 } });
       let c : CtxId := 0;
       let d : CtxId := 1;
       s.on = true ∧ (s.rd F.COMMIT_STAT_STATE 0 = 2 → s.commit.copying = true ∨ s.swapDue = false) ∧ s.pert.kindEnd.at 3 = 0 ∧ (let t := if s.sched.served = true then (s.tb.now / 256 + 1) * 256 else s.tb.now; let n := if s.sched.served = true then 0 else s.sched.inSlot; let goes := s.schOn = true ∧ (s.sched.served = true → s.tb.now / 256 % 256 ≠ 255) ∧ (∀ k : Fin 12, s.con F.CA_ROT_ROT_AUTO k.val = true → s.cf F.CA_ROT_ROT_SLOT k.val ≠ t / 256 % 256); let alone := ∀ k : Fin 128, k.val ≠ c.val → k.val ≠ d.val → s.ctxSt k.val = 0 ∧ s.mode k.val ≠ 2; let fresh (x : Nat) : Prop := (s.ctx x).prev.all (fun p => decide (p < t)) = true; let occurs (x : Nat) : Prop := s.mode x = 2 ∧ t / 0x10000 % s.cf F.CTX_PER_PERIOD x = s.cf F.CTX_PER_MODULO x ∧ s.cf F.CTX_SLOT_SLOT x = t / 256 % 256 ∧ ¬(s.cf F.CTX_CFG_ONESHOT x = 1 ∧ (s.ctx x).onceDone = true); let exact (x : Nat) : Prop := s.ctxSt x = 1 ∧ fresh x ∧ ((s.mode x = 1 ∧ slotUp (s.cf F.CTX_LAUNCH_TIME x) = t) ∨ (s.mode x = 3 ∧ (s.ctx x).armAt.any (fun a => a != 0 && slotUp a == t) = true) ∨ occurs x); let open_ (x : Nat) : Prop := s.ctxSt x = 1 ∧ fresh x ∧ s.mode x = 3 ∧ (s.ctx x).armAt = some 0 ∧ (s.ctx x).armedAt ≤ t; let late (x : Nat) : Prop := s.ctxSt x = 1 ∧ fresh x ∧ s.mode x = 1 ∧ slotUp (s.cf F.CTX_LAUNCH_TIME x) < t; let free (x : Nat) : Prop := s.cf F.CTX_CFG_LOCK_REQ x = 0 ∨ s.lock = 2; goes ∧ alone ∧ c ≠ d ∧ exact c.val ∧ (open_ d.val ∨ late d.val) ∧ free c.val ∧ n = 7))
    ∧ (let s : State := onState |> (fun s => { s with tb := { s.tb with now := 256 } }) |> (fun s => { s with sched := { s.sched with served := false } }) |> setAct F.SCH_CTL_EN 0 1 |> (·.wr F.CTX_STAT_STATE 0 1) |> setAct F.CTX_CFG_MODE 0 1 |> setAct F.CTX_LAUNCH_TIME 0 256 |> (·.wr F.CTX_STAT_STATE 1 1) |> setAct F.CTX_CFG_MODE 1 3 |> (fun s => { s with sched := { s.sched with ctxs := s.sched.ctxs.put 1 { armAt := some 0 } } });
       let c : CtxId := 0;
       let d : CtxId := 1;
       s.on = true ∧ (s.rd F.COMMIT_STAT_STATE 0 = 2 → s.commit.copying = true ∨ s.swapDue = false) ∧ s.pert.kindEnd.at 3 = 0 ∧ (let t := if s.sched.served = true then (s.tb.now / 256 + 1) * 256 else s.tb.now; let n := if s.sched.served = true then 0 else s.sched.inSlot; let goes := s.schOn = true ∧ (s.sched.served = true → s.tb.now / 256 % 256 ≠ 255) ∧ (∀ k : Fin 12, s.con F.CA_ROT_ROT_AUTO k.val = true → s.cf F.CA_ROT_ROT_SLOT k.val ≠ t / 256 % 256); let alone := ∀ k : Fin 128, k.val ≠ c.val → k.val ≠ d.val → s.ctxSt k.val = 0 ∧ s.mode k.val ≠ 2; let fresh (x : Nat) : Prop := (s.ctx x).prev.all (fun p => decide (p < t)) = true; let occurs (x : Nat) : Prop := s.mode x = 2 ∧ t / 0x10000 % s.cf F.CTX_PER_PERIOD x = s.cf F.CTX_PER_MODULO x ∧ s.cf F.CTX_SLOT_SLOT x = t / 256 % 256 ∧ ¬(s.cf F.CTX_CFG_ONESHOT x = 1 ∧ (s.ctx x).onceDone = true); let exact (x : Nat) : Prop := s.ctxSt x = 1 ∧ fresh x ∧ ((s.mode x = 1 ∧ slotUp (s.cf F.CTX_LAUNCH_TIME x) = t) ∨ (s.mode x = 3 ∧ (s.ctx x).armAt.any (fun a => a != 0 && slotUp a == t) = true) ∨ occurs x); let open_ (x : Nat) : Prop := s.ctxSt x = 1 ∧ fresh x ∧ s.mode x = 3 ∧ (s.ctx x).armAt = some 0 ∧ (s.ctx x).armedAt ≤ t; let free (x : Nat) : Prop := s.cf F.CTX_CFG_LOCK_REQ x = 0 ∨ s.lock = 2; goes ∧ alone ∧ c ≠ d ∧ exact c.val ∧ open_ d.val ∧ free c.val ∧ free d.val ∧ n < 7))
    ∧ (let s : State := onState |> setAct F.CTX_CFG_MODE 0 2 |> (·.wr F.CTX_STAT_STATE 0 2) |> setAct F.CTX_SLOT_SLOT 0 1;
       let c : CtxId := 0;
       let d : CtxId := 0;
       s.on = true ∧ (s.rd F.COMMIT_STAT_STATE 0 = 2 → s.commit.copying = true ∨ s.swapDue = false) ∧ s.pert.kindEnd.at 3 = 0 ∧ (let t := if s.sched.served = true then (s.tb.now / 256 + 1) * 256 else s.tb.now; let goes := s.schOn = true ∧ (s.sched.served = true → s.tb.now / 256 % 256 ≠ 255) ∧ (∀ k : Fin 12, s.con F.CA_ROT_ROT_AUTO k.val = true → s.cf F.CA_ROT_ROT_SLOT k.val ≠ t / 256 % 256); let alone := ∀ k : Fin 128, k.val ≠ c.val → k.val ≠ d.val → s.ctxSt k.val = 0 ∧ s.mode k.val ≠ 2; let fresh (x : Nat) : Prop := (s.ctx x).prev.all (fun p => decide (p < t)) = true; let occurs (x : Nat) : Prop := s.mode x = 2 ∧ t / 0x10000 % s.cf F.CTX_PER_PERIOD x = s.cf F.CTX_PER_MODULO x ∧ s.cf F.CTX_SLOT_SLOT x = t / 256 % 256 ∧ ¬(s.cf F.CTX_CFG_ONESHOT x = 1 ∧ (s.ctx x).onceDone = true); goes ∧ alone ∧ c = d ∧ occurs c.val ∧ fresh c.val ∧ (s.ctxSt c.val = 2 ∨ s.ctxSt c.val = 3)))
    ∧ (let s : State := onState |> (·.wr F.CTX_STAT_STATE 0 2) |> (·.wr F.TB_STAT_LOCK 0 2);
       let c : CtxId := 0;
       s.on = true ∧ (s.rd F.COMMIT_STAT_STATE 0 = 2 → s.commit.copying = true ∨ s.swapDue = false) ∧ s.pert.kindEnd.at 3 = 0 ∧ s.tb.now % 256 = 0 ∧ s.ctxSt c.val = 2 ∧ s.schOn = true ∧ s.lock = 2 ∧ s.after c.val = true ∧ s.sched.inSlot < 8 ∧ s.tb.now + (s.ctx c.val).required ≤ (s.ctx c.val).deadline)
    ∧ (let s : State := onState |> (·.wr F.CTX_STAT_STATE 0 2);
       let c : CtxId := 0;
       s.on = true ∧ (s.rd F.COMMIT_STAT_STATE 0 = 2 → s.commit.copying = true ∨ s.swapDue = false) ∧ s.pert.kindEnd.at 3 = 0 ∧ s.ctxSt c.val = 2 ∧ (s.ctx c.val).deadline ≤ s.tb.now ∧ (s.mode c.val ≠ 2 ∨ (s.ctx c.val).renew = false)) := by
  and_intros <;> decide +kernel

/-- The hypotheses of each clause of `Steps`. -/
theorem test_meets_Steps :
    (let s : State := onState |> (·.wr F.CTX_STAT_STATE 3 3) |> (fun s => { s with sched := { s.sched with ctxs := s.sched.ctxs.put 3 { prog := [0x11800000, 0x11800000] } } });
     let c : CtxId := 3;
     s.on = true ∧ s.ctxSt c.val = 3 ∧ ((match (s.ctx c.val).prog[(s.ctx c.val).pos]? with | some w => decide (let r := bitsOf w 27 23; let primes := fun (scope : Nat) => !s.busyOp && (railsOf (scope - mAnd scope s.goodMask)).all fun y => mAnd (s.deps y) (0xFFFFFF - mOr s.goodMask (scope - mAnd scope s.goodMask)) == 0 && !s.hot y; let unlatched := !s.flag F.SEQ_STAT_LATCHED 0; let mayRail := !s.safe && !s.follower r && (!bitOf w 22 || unlatched && (mAnd (2 ^ r) s.goodMask == 2 ^ r || primes (2 ^ r))); stepKind w = 1 ∧ mayRail = true) | _ => false) = true))
    ∧ (let s : State := onState |> (·.wr F.CTX_STAT_STATE 3 3) |> (fun s => { s with sched := { s.sched with ctxs := s.sched.ctxs.put 3 { prog := [0x11C00000, 0x11C00000] } } });
       let c : CtxId := 3;
       s.on = true ∧ s.ctxSt c.val = 3 ∧ ((match (s.ctx c.val).prog[(s.ctx c.val).pos]? with | some w => decide (let r := bitsOf w 27 23; let primes := fun (scope : Nat) => !s.busyOp && (railsOf (scope - mAnd scope s.goodMask)).all fun y => mAnd (s.deps y) (0xFFFFFF - mOr s.goodMask (scope - mAnd scope s.goodMask)) == 0 && !s.hot y; let unlatched := !s.flag F.SEQ_STAT_LATCHED 0; let mayRail := !s.safe && !s.follower r && (!bitOf w 22 || unlatched && (mAnd (2 ^ r) s.goodMask == 2 ^ r || primes (2 ^ r))); stepKind w = 1 ∧ mayRail = false) | _ => false) = true))
    ∧ (let s : State := onState |> (·.wr F.HDR_STAT_STATE 0 2) |> (·.wr F.B_STAT_STATE 1 2) |> setAct F.B_VLIM_VMIN 1 0 |> (·.wr F.CTX_STAT_STATE 3 3) |> (fun s => { s with sched := { s.sched with ctxs := s.sched.ctxs.put 3 { prog := [0x21000000, 0x21000000] } } });
       let c : CtxId := 3;
       s.on = true ∧ s.ctxSt c.val = 3 ∧ ((match (s.ctx c.val).prog[(s.ctx c.val).pos]? with | some w => decide (let r := bitsOf w 27 23; let code := bitsOf w 15 0; let ho := s.rd F.WELL_STAT_HO 0; let maySet := decide (r < 21) && decide ((s.vlim r).1 ≤ code) && decide (code ≤ (s.vlim r).2) && !s.safe && !s.follower r && !([0, 1, 5, 6, 9, 0xA].contains (s.stgThrough r)) && (r != 0 || s.stgThrough r != 4 && ho != 1 && ho != 5 && !s.flag F.EST_STAT_DRAW 0); stepKind w = 2 ∧ maySet = true) | _ => false) = true))
    ∧ (let s : State := onState |> (·.wr F.CTX_STAT_STATE 3 3) |> (fun s => { s with sched := { s.sched with ctxs := s.sched.ctxs.put 3 { prog := [0x21801000, 0x21801000] } } });
       let c : CtxId := 3;
       s.on = true ∧ s.ctxSt c.val = 3 ∧ ((match (s.ctx c.val).prog[(s.ctx c.val).pos]? with | some w => decide (let r := bitsOf w 27 23; let code := bitsOf w 15 0; let ho := s.rd F.WELL_STAT_HO 0; let maySet := decide (r < 21) && decide ((s.vlim r).1 ≤ code) && decide (code ≤ (s.vlim r).2) && !s.safe && !s.follower r && !([0, 1, 5, 6, 9, 0xA].contains (s.stgThrough r)) && (r != 0 || s.stgThrough r != 4 && ho != 1 && ho != 5 && !s.flag F.EST_STAT_DRAW 0); stepKind w = 2 ∧ maySet = false) | _ => false) = true))
    ∧ (let s : State := onState |> (·.wr F.CTX_STAT_STATE 3 3) |> (fun s => { s with sched := { s.sched with ctxs := s.sched.ctxs.put 3 { prog := [0x30000000, 0x30000000] } } });
       let c : CtxId := 3;
       s.on = true ∧ s.ctxSt c.val = 3 ∧ ((match (s.ctx c.val).prog[(s.ctx c.val).pos]? with | some w => decide (let g := bitsOf w 27 25; let primes := fun (scope : Nat) => !s.busyOp && (railsOf (scope - mAnd scope s.goodMask)).all fun y => mAnd (s.deps y) (0xFFFFFF - mOr s.goodMask (scope - mAnd scope s.goodMask)) == 0 && !s.hot y; let unlatched := !s.flag F.SEQ_STAT_LATCHED 0; let mayGroup := !s.safe && (!bitOf w 24 || unlatched && primes (s.groupMask g)); stepKind w = 3 ∧ mayGroup = true) | _ => false) = true))
    ∧ (let s : State := onState |> (fun s => { s with power := { s.power with st := .safe } }) |> (·.wr F.CTX_STAT_STATE 3 3) |> (fun s => { s with sched := { s.sched with ctxs := s.sched.ctxs.put 3 { prog := [0x30000000, 0x30000000] } } });
       let c : CtxId := 3;
       s.on = true ∧ s.ctxSt c.val = 3 ∧ ((match (s.ctx c.val).prog[(s.ctx c.val).pos]? with | some w => decide (let g := bitsOf w 27 25; let primes := fun (scope : Nat) => !s.busyOp && (railsOf (scope - mAnd scope s.goodMask)).all fun y => mAnd (s.deps y) (0xFFFFFF - mOr s.goodMask (scope - mAnd scope s.goodMask)) == 0 && !s.hot y; let unlatched := !s.flag F.SEQ_STAT_LATCHED 0; let mayGroup := !s.safe && (!bitOf w 24 || unlatched && primes (s.groupMask g)); stepKind w = 3 ∧ mayGroup = false) | _ => false) = true))
    ∧ (let s : State := onState |> setAct F.MEAS_BLK_EN 0 1 |> setAct F.MS_CFG_TRIG 0 3 |> (·.wr F.CTX_STAT_STATE 3 3) |> (fun s => { s with sched := { s.sched with ctxs := s.sched.ctxs.put 3 { prog := [0x40200001, 0x40200001] } } });
       let c : CtxId := 3;
       s.on = true ∧ s.ctxSt c.val = 3 ∧ ((match (s.ctx c.val).prog[(s.ctx c.val).pos]? with | some w => decide (let ch := bitsOf w 26 21; let mayBurst := ((blkStreams s.cf).find? (fun i => i / 4 == bitsOf w 27 27)).any fun i => s.trig i == 3 && !(s.strm i).run && !badChannel ch && bitsOf w 7 0 != 0; stepKind w = 4 ∧ mayBurst = true) | _ => false) = true))
    ∧ (let s : State := onState |> (·.wr F.CTX_STAT_STATE 3 3) |> (fun s => { s with sched := { s.sched with ctxs := s.sched.ctxs.put 3 { prog := [0x40200001, 0x40200001] } } });
       let c : CtxId := 3;
       s.on = true ∧ s.ctxSt c.val = 3 ∧ ((match (s.ctx c.val).prog[(s.ctx c.val).pos]? with | some w => decide (let ch := bitsOf w 26 21; let mayBurst := ((blkStreams s.cf).find? (fun i => i / 4 == bitsOf w 27 27)).any fun i => s.trig i == 3 && !(s.strm i).run && !badChannel ch && bitsOf w 7 0 != 0; stepKind w = 4 ∧ mayBurst = false) | _ => false) = true))
    ∧ (let s : State := onState |> (·.wr F.CTX_STAT_STATE 3 3) |> (fun s => { s with sched := { s.sched with ctxs := s.sched.ctxs.put 3 { prog := [0x50000000, 0x50000000] } } });
       let c : CtxId := 3;
       s.on = true ∧ s.ctxSt c.val = 3 ∧ ((match (s.ctx c.val).prog[(s.ctx c.val).pos]? with | some w => decide (stepKind w = 5) | _ => false) = true))
    ∧ (let s : State := onState |> (·.wr F.CTX_STAT_STATE 3 3) |> (fun s => { s with sched := { s.sched with ctxs := s.sched.ctxs.put 3 { prog := [0x60000F05, 0x60000F05] } } });
       let c : CtxId := 3;
       s.on = true ∧ s.ctxSt c.val = 3 ∧ ((match (s.ctx c.val).prog[(s.ctx c.val).pos]? with | some w => decide (stepKind w = 6) | _ => false) = true))
    ∧ (let s : State := onState |> (·.wr F.EST_STAT_DRAW 0 1) |> (·.wr F.CTX_STAT_STATE 3 3) |> (fun s => { s with sched := { s.sched with ctxs := s.sched.ctxs.put 3 { prog := [0x70000000, 0x70000000] } } });
       let c : CtxId := 3;
       s.on = true ∧ s.ctxSt c.val = 3 ∧ ((match (s.ctx c.val).prog[(s.ctx c.val).pos]? with | some w => decide (let zone := s.rd F.WELL_CSTAT_ZONE 0; let mayLearn := if bitOf w 24 then s.con F.EST_CFG_LEARN_EN 0 && s.power.st == .run && s.anyStable && s.flag F.EST_STAT_WINDOW 0 && !s.flag F.EST_STAT_DRAW 0 && zone != 0 && zone != 4 && !s.flag F.WELL_CSTAT_FOLD 0 && !s.partnerDraws else s.flag F.EST_STAT_DRAW 0; stepKind w = 7 ∧ mayLearn = true) | _ => false) = true))
    ∧ (let s : State := onState |> (·.wr F.CTX_STAT_STATE 3 3) |> (fun s => { s with sched := { s.sched with ctxs := s.sched.ctxs.put 3 { prog := [0x70000000, 0x70000000] } } });
       let c : CtxId := 3;
       s.on = true ∧ s.ctxSt c.val = 3 ∧ ((match (s.ctx c.val).prog[(s.ctx c.val).pos]? with | some w => decide (let zone := s.rd F.WELL_CSTAT_ZONE 0; let mayLearn := if bitOf w 24 then s.con F.EST_CFG_LEARN_EN 0 && s.power.st == .run && s.anyStable && s.flag F.EST_STAT_WINDOW 0 && !s.flag F.EST_STAT_DRAW 0 && zone != 0 && zone != 4 && !s.flag F.WELL_CSTAT_FOLD 0 && !s.partnerDraws else s.flag F.EST_STAT_DRAW 0; stepKind w = 7 ∧ mayLearn = false) | _ => false) = true))
    ∧ (let s : State := onState |> (·.wr F.B_STAT_STATE 0 2) |> (·.wr F.CTX_STAT_STATE 3 3) |> (fun s => { s with sched := { s.sched with ctxs := s.sched.ctxs.put 3 { prog := [0x80000000, 0x80000000] } } });
       let c : CtxId := 3;
       s.on = true ∧ s.ctxSt c.val = 3 ∧ ((match (s.ctx c.val).prog[(s.ctx c.val).pos]? with | some w => decide (let k := bitsOf w 27 24; let mayRotate := !s.flag F.CA_STAT_FROZEN k && !s.flag F.CA_STAT_FLUSHING k && !s.flag F.CA_STAT_LOST k && !([0, 4, 6, 8, 9, 0xA].contains (s.rd F.B_STAT_STATE k)); stepKind w = 8 ∧ mayRotate = true) | _ => false) = true))
    ∧ (let s : State := onState |> (·.wr F.CTX_STAT_STATE 3 3) |> (fun s => { s with sched := { s.sched with ctxs := s.sched.ctxs.put 3 { prog := [0x80000000, 0x80000000] } } });
       let c : CtxId := 3;
       s.on = true ∧ s.ctxSt c.val = 3 ∧ ((match (s.ctx c.val).prog[(s.ctx c.val).pos]? with | some w => decide (let k := bitsOf w 27 24; let mayRotate := !s.flag F.CA_STAT_FROZEN k && !s.flag F.CA_STAT_FLUSHING k && !s.flag F.CA_STAT_LOST k && !([0, 4, 6, 8, 9, 0xA].contains (s.rd F.B_STAT_STATE k)); stepKind w = 8 ∧ mayRotate = false) | _ => false) = true))
    ∧ (let s : State := onState |> (·.wr F.CTX_STAT_STATE 3 3) |> (fun s => { s with sched := { s.sched with ctxs := s.sched.ctxs.put 3 { prog := [0x90000001, 0x90000001] } } });
       let c : CtxId := 3;
       s.on = true ∧ s.ctxSt c.val = 3 ∧ ((match (s.ctx c.val).prog[(s.ctx c.val).pos]? with | some w => decide (stepKind w = 9) | _ => false) = true)) := by
  and_intros <;> decide +kernel

/-- The hypotheses of each clause of `FeedsRun`. -/
theorem test_meets_FeedsRun :
    (let s : State := onState |> (·.wr F.PE_STAT_MATE 0 1);
     let f : FeedId := FeedId.b;
     s.on = true ∧ (let i := f.idx; s.feedSt i = 0 ∧ s.mateOk = true))
    ∧ (let s : State := onState;
       let f : FeedId := FeedId.b;
       s.on = true ∧ (let i := f.idx; s.feedSt i = 0 ∧ s.mateOk = false))
    ∧ (let s : State := onState |> (·.wr F.FEED_STAT_STATE 0 1);
       let f : FeedId := FeedId.a;
       s.on = true ∧ (let i := f.idx; s.feedSt i = 1))
    ∧ (let s : State := onState |> (·.wr F.FEED_STAT_STATE 0 1);
       let f : FeedId := FeedId.a;
       s.on = true ∧ (let i := f.idx; s.feedSt i = 1 ∧ s.feedSt (1 - i) ≠ 2))
    ∧ (let s : State := onState |> (·.wr F.FEED_STAT_STATE 0 1) |> (·.wr F.FEED_STAT_STATE 1 1);
       s.on = true ∧ s.feedSt 0 = 1 ∧ s.feedSt 1 = 1)
    ∧ (let s : State := onState |> (·.wr F.FEED_STAT_STATE 0 1) |> (·.wr F.FEED_STAT_STATE 1 2);
       let f : FeedId := .a;
       s.on = true ∧ (let i := f.idx; s.feedSt i = 1 ∧ s.feedSt (1 - i) = 2))
    ∧ (let s : State := onState |> (·.wr F.FEED_STAT_STATE 0 2);
       let f : FeedId := FeedId.a;
       s.on = true ∧ (let i := f.idx; s.feedSt i = 2))
    ∧ (let s : State := onState |> (·.wr F.FEED_STAT_STATE 0 3) |> (fun s => { s with feeds := (s.feeds.put 0 { s.feeds.at 0 with inWin := true }) });
       let f : FeedId := FeedId.a;
       s.on = true ∧ (let i := f.idx; s.feedValid i = true))
    ∧ (let s : State := onState;
       s.on = true)
    ∧ (let s : State := onState;
       let f : FeedId := FeedId.b;
       s.on = true ∧ (let i := f.idx; s.feedSt i ≠ 5))
    ∧ (let s : State := onState |> (·.wr F.FEED_STAT_STATE 0 5);
       let f : FeedId := FeedId.a;
       s.on = true ∧ (let i := f.idx; s.feedSt i = 5))
    ∧ (let s : State := onState |> (·.wr F.PE_STAT_MATE_RAW 0 1);
       s.on = true ∧ s.rd F.PE_STAT_MATE_RAW 0 = 1)
    ∧ (let s : State := onState |> (·.wr F.FEED_STAT_STATE 0 2);
       let f : FeedId := FeedId.a;
       s.on = true ∧ (let i := f.idx; s.feedSt i = 2))
    ∧ (let s : State := onState |> (·.wr F.FEED_STAT_STATE 0 2);
       let f : FeedId := FeedId.a;
       s.on = true ∧ (let i := f.idx; (s.feedSt i = 2 ∨ s.feedSt i = 3)))
    ∧ (let s : State := onState |> (·.wr F.PE_STAT_MATE 0 9) |> (fun s => { s with feeds := (s.feeds.put 0 { s.feeds.at 0 with inWin := true }) }) |> (·.wr F.FEED_STAT_STATE 0 4);
       let f : FeedId := FeedId.a;
       s.on = true ∧ (let i := f.idx; s.feedSt i = 4 ∧ (s.feeds.at i).inWin = true ∧ s.mateOk = true))
    ∧ (let s : State := onState |> (·.wr F.FEED_STAT_STATE 0 4);
       let f : FeedId := FeedId.a;
       s.on = true ∧ (let i := f.idx; s.feedSt i = 4 ∧ ((s.feeds.at i).inWin = false ∨ s.mateOk = false)))
    ∧ (let s : State := onState;
       let f : FeedId := FeedId.b;
       s.on = true ∧ (let i := f.idx; s.feedSt i ≠ 7))
    ∧ (let s : State := onState |> (·.wr F.FEED_STAT_STATE 0 7);
       let f : FeedId := FeedId.a;
       s.on = true ∧ (let i := f.idx; s.feedSt i = 7))
    ∧ (let s : State := onState |> (·.wr F.FEED_STAT_STATE 0 6);
       let f : FeedId := FeedId.a;
       s.on = true ∧ (let i := f.idx; s.feedSt i = 6))
    ∧ (let s : State := onState;
       let f : FeedId := FeedId.b;
       s.on = true ∧ (let i := f.idx; (s.feedSt i = 0 ∨ s.feedSt i = 1)))
    ∧ (let s : State := onState |> (·.wr F.FEED_STAT_STATE 0 3);
       let f : FeedId := FeedId.a;
       s.on = true ∧ (let i := f.idx; s.feedSt i = 3))
    ∧ (let s : State := onState |> (·.wr F.FEED_STAT_STATE 0 5);
       let f : FeedId := FeedId.a;
       s.on = true ∧ (let i := f.idx; s.feedSt i = 5))
    ∧ (let s : State := onState;
       let f : FeedId := FeedId.b;
       s.on = true ∧ (let i := f.idx; s.feedSt i ≠ 5))
    ∧ (let s : State := onState |> setAct F.PE_CFG_MATE_REQ 0 0 |> setAct F.TW_CFG_EN 0 1;
       s.on = true ∧ s.rd F.PE_STAT_MATE_RAW 0 = 0 ∧ s.gatesHeld = false)
    ∧ (let u : State := (List.range 8).foldl (fun s e => setAct F.FC_CLASS_SEV_CLASS (srcKey 4 e) 1 (setAct F.FC_CLASS_CLASS (srcKey 4 e) 1 s)) onState
       let s : State := u.wr F.FEED_STAT_PRESENT 0 1
       s.on = true ∧ u.on = true ∧ u.due = [] ∧ (∀ e : Fin 8, u.cf F.FC_CLASS_CLASS (srcKey 4 e.val) < 2 ∧ u.cf F.FC_CLASS_SEV_CLASS (srcKey 4 e.val) < 2)
        ∧ u.cf F.FC_CLASS_CLASS (srcKey 0x15 4) < 2 ∧ u.cf F.FC_CLASS_SEV_CLASS (srcKey 0x15 4) < 2 ∧ u.closed = s.closed ∧ u.well.floorOff = s.well.floorOff
        ∧ s.rd F.FEED_STAT_PRESENT 0 = 1 ∧ u.rd F.FEED_STAT_PRESENT 0 ≠ 1 ∧ u.rd F.FEED_STAT_PRESENT 1 ≠ 1 ∧ u.feedSt 0 = 0 ∧ u.feedSt 1 = 0)
    ∧ (let u : State := ((List.range 8).foldl (fun s e => setAct F.FC_CLASS_SEV_CLASS (srcKey 4 e) 1 (setAct F.FC_CLASS_CLASS (srcKey 4 e) 1 s)) onState).wr F.FEED_STAT_PRESENT 1 1
       u.on = true ∧ u.due = [] ∧ (∀ e : Fin 8, u.cf F.FC_CLASS_CLASS (srcKey 4 e.val) < 2 ∧ u.cf F.FC_CLASS_SEV_CLASS (srcKey 4 e.val) < 2)
        ∧ u.cf F.FC_CLASS_CLASS (srcKey 0x15 4) < 2 ∧ u.cf F.FC_CLASS_SEV_CLASS (srcKey 0x15 4) < 2 ∧ u.rd F.FEED_STAT_PRESENT 1 = 1) := by
  and_intros <;> decide +kernel

/-- The hypotheses of each clause of `SegmentsRetire`. -/
theorem test_meets_SegmentsRetire :
    (let s : State := onState;
     let m : Master := Master.twoWire;
     let c : Chan := 0;
     let a : Arr := Arr.hs;
     let g : Nat := 0;
     s.on = true ∧ g < segsOf a ∧ (let x := s.seg c.val a g; let sel := s.rd F.CA_SEL_CH m.idx = c.val ∧ s.rd F.CA_SEL_ARRAY m.idx = a.idx ∧ s.rd F.CA_SEL_SEG m.idx = g; let free := s.flag F.CA_STAT_FLUSHING c.val = false ∧ s.flag F.CA_STAT_LOST c.val = false ∧ s.follower (c.val + 1) = false; sel ∧ free ∧ x.health.retired = false))
    ∧ (let s : State := onState |> (fun s => { s with cist := { s.cist with segs := (s.cist.segs.put 0 { s.cist.segs.at 0 with health := Health.retiredGate }) } });
       let m : Master := Master.pcie;
       let c : Chan := 0;
       let a : Arr := Arr.hs;
       let g : Nat := 0;
       s.on = true ∧ g < segsOf a ∧ (let x := s.seg c.val a g; let sel := s.rd F.CA_SEL_CH m.idx = c.val ∧ s.rd F.CA_SEL_ARRAY m.idx = a.idx ∧ s.rd F.CA_SEL_SEG m.idx = g; let free := s.flag F.CA_STAT_FLUSHING c.val = false ∧ s.flag F.CA_STAT_LOST c.val = false ∧ s.follower (c.val + 1) = false; sel ∧ x.health.retired = true ∧ free))
    ∧ (let s : State := onState;
       let a : Arr := Arr.ls;
       let g : Nat := 4;
       let key : BitVec 8 := 0x04#8;
       s.on = true ∧ g < segsOf a ∧ key ≠ 0x5A)
    ∧ (let s : State := onState |> (·.wr F.CA_STAT_FLUSHING 0 1);
       let m : Master := Master.twoWire;
       let c : Chan := 0;
       let a : Arr := Arr.hs;
       let g : Nat := 0;
       s.on = true ∧ g < segsOf a ∧ (let sel := s.rd F.CA_SEL_CH m.idx = c.val ∧ s.rd F.CA_SEL_ARRAY m.idx = a.idx ∧ s.rd F.CA_SEL_SEG m.idx = g; sel ∧ s.flag F.CA_STAT_FLUSHING c.val = true))
    ∧ (let s : State := onState |> (·.wr F.CA_STAT_LOST 0 1);
       let m : Master := Master.twoWire;
       let c : Chan := 0;
       let a : Arr := Arr.hs;
       let g : Nat := 0;
       s.on = true ∧ g < segsOf a ∧ (let sel := s.rd F.CA_SEL_CH m.idx = c.val ∧ s.rd F.CA_SEL_ARRAY m.idx = a.idx ∧ s.rd F.CA_SEL_SEG m.idx = g; sel ∧ s.flag F.CA_STAT_FLUSHING c.val = false ∧ (s.flag F.CA_STAT_LOST c.val = true ∨ s.follower (c.val + 1) = true)))
    ∧ (let s : State := onState;
       let m : Master := Master.pcie;
       let c : Chan := 0;
       let a : Arr := Arr.hs;
       let g : Nat := 0;
       s.on = true ∧ g < segsOf a ∧ (let x := s.seg c.val a g; let sel := s.rd F.CA_SEL_CH m.idx = c.val ∧ s.rd F.CA_SEL_ARRAY m.idx = a.idx ∧ s.rd F.CA_SEL_SEG m.idx = g; let known := ∀ y ∈ s.openLinks c.val, y = (a, g); let free := s.flag F.CA_STAT_FLUSHING c.val = false ∧ s.flag F.CA_STAT_LOST c.val = false ∧ s.follower (c.val + 1) = false; sel ∧ free ∧ known ∧ x.health ≠ .retiredLink))
    ∧ (let s : State := onState |> (·.wr F.CA_STAT_FLUSHING 0 1);
       let c : Chan := 0;
       let a : Arr := Arr.hs;
       let g : Nat := 0;
       s.on = true ∧ g < segsOf a ∧ s.flag F.CA_STAT_FLUSHING c.val = true)
    ∧ (let s : State := onState;
       let c : Chan := 3;
       let a : Arr := Arr.ls;
       let g : Nat := 0;
       s.on = true ∧ g < segsOf a ∧ (let x := s.seg c.val a g; let known := ∀ y ∈ s.openLinks c.val, y = (a, g); s.flag F.CA_STAT_FLUSHING c.val = false ∧ known ∧ x.health ≠ .retiredLink))
    ∧ (let s : State := onState |> (fun s => { s with cist := { s.cist with segs := (s.cist.segs.put 0 { s.cist.segs.at 0 with health := Health.retiredLink }) } });
       let c : Chan := 0;
       let a : Arr := Arr.hs;
       let g : Nat := 0;
       s.on = true ∧ g < segsOf a ∧ (let x := s.seg c.val a g; let known := ∀ y ∈ s.openLinks c.val, y = (a, g); x.health = .retiredLink ∧ known))
    ∧ (let s : State := onState |> (fun s => { s with cist := { s.cist with probeNext := (s.cist.probeNext.put 0 1) } });
       let c : Chan := 0;
       let a : Arr := Arr.hs;
       let g : Nat := 0;
       s.on = true ∧ g < segsOf a ∧ (let k := arrKey c.val a; s.cist.probing.at k = 0 ∧ s.cist.probeNext.at k = g + 1 ∧ s.probeable c.val a g = true))
    ∧ (let s : State := onState;
       let c : Chan := 1;
       let a : Arr := Arr.hs;
       let g : Nat := 4;
       s.on = true ∧ g < segsOf a ∧ (let k := arrKey c.val a; s.cist.probing.at k = 0 ∧ s.cist.probeNext.at k = 0 ∧ s.cist.leaking.at k = [] ∧ s.probeable c.val a g = true))
    ∧ (let s : State := onState |> (fun s => { s with cist := { s.cist with probing := (s.cist.probing.put 0 1) } });
       let c : Chan := 0;
       let a : Arr := Arr.hs;
       let g : Nat := 0;
       let p : ProbeResult := { leak := 344, vth := 2 };
       s.on = true ∧ g < segsOf a ∧ (let k := arrKey c.val a; let x := s.seg c.val a g; s.cist.probing.at k = g + 1 ∧ x.health.retired = false ∧ s.cf F.CA_PROBE_GLEAK_LIM c.val * 10 < p.leak))
    ∧ (let s : State := onState |> setAct F.CA_PROBE_GLEAK_LIM 0 156 |> (fun s => { s with cist := { s.cist with segs := (s.cist.segs.put 0 { s.cist.segs.at 0 with vth := 1 }) } }) |> (fun s => { s with cist := { s.cist with segs := (s.cist.segs.put 0 { s.cist.segs.at 0 with suspect := true }) } }) |> (fun s => { s with cist := { s.cist with probing := (s.cist.probing.put 0 1) } });
       let c : Chan := 0;
       let a : Arr := Arr.hs;
       let g : Nat := 0;
       let p : ProbeResult := { leak := 487, vth := 299 };
       s.on = true ∧ g < segsOf a ∧ (let k := arrKey c.val a; let x := s.seg c.val a g; s.cist.probing.at k = g + 1 ∧ x.health.retired = false ∧ (let vth := s.vthFails c.val a g p.vth; p.leak ≤ s.cf F.CA_PROBE_GLEAK_LIM c.val * 10 ∧ vth = true ∧ x.suspect = true)))
    ∧ (let s : State := onState |> (fun s => { s with cist := { s.cist with probing := (s.cist.probing.put 0 1) } }) |> setAct F.CA_PROBE_GLEAK_LIM 0 255;
       let c : Chan := 0;
       let a : Arr := Arr.hs;
       let g : Nat := 0;
       let p : ProbeResult := { leak := 698, vth := 8 };
       s.on = true ∧ g < segsOf a ∧ (let k := arrKey c.val a; let x := s.seg c.val a g; s.cist.probing.at k = g + 1 ∧ x.health.retired = false ∧ (let vth := s.vthFails c.val a g p.vth; p.leak ≤ s.cf F.CA_PROBE_GLEAK_LIM c.val * 10 ∧ (vth = false ∨ x.suspect = false))))
    ∧ (let s : State := onState;
       let c : Chan := 1;
       let a : Arr := Arr.ls;
       let g : Nat := 7;
       s.on = true ∧ g < segsOf a ∧ s.chanSwitches c.val = false ∧ s.flushes c.val a = false)
    ∧ (let s : State := onState |> (·.wr F.B_STAT_STATE 11 2);
       let c : Chan := 11;
       let a : Arr := Arr.ls;
       let g : Nat := 73;
       let bank : Fin 16 := 0;
       s.on = true ∧ g < segsOf a ∧ bankOf a g = bank.val ∧ s.chanSwitches c.val = true ∧ s.driverOk c.val a bank.val = true)
    ∧ (let s : State := onState |> (·.wr F.B_STAT_STATE 9 5);
       let c : Chan := 9;
       let a : Arr := Arr.ls;
       let g : Nat := 0;
       let bank : Fin 16 := 0;
       s.on = true ∧ g < segsOf a ∧ bankOf a g = bank.val ∧ s.chanSwitches c.val = true) := by
  and_intros <;> decide +kernel

/-- The hypotheses of each clause of `BanksAdapt`. -/
theorem test_meets_BanksAdapt :
    (let s : State := onState |> (·.wr F.CA_STAT_FROZEN 2 1);
     let c : Chan := 2;
     s.on = true ∧ (let adapts := s.con F.CA_CFG_ADAPT_EN c.val = true; adapts ∧ s.flag F.CA_STAT_FROZEN c.val = true))
    ∧ (let s : State := onState |> setAct F.CA_CFG_ADAPT_EN 3 2;
       let c : Chan := 3;
       s.on = true ∧ (let adapts := s.con F.CA_CFG_ADAPT_EN c.val = true; ¬adapts))
    ∧ (let s : State := onState;
       let c : Chan := 3;
       let i : Nat := 10;
       let n : Nat := 0;
       s.on = true ∧ (let count := fun (u : State) (x : Arr) => ((List.range 16).filter (u.bankActive c.val x)).length; let room := fun (x : Arr) => (List.range 16).any (fun y => !s.bankActive c.val x y && s.usable c.val x y); let t := s.nTarget c.val i; let adapts := s.con F.CA_CFG_ADAPT_EN c.val = true; let still := (s.cist.swap.at (arrKey c.val .hs)).2 = 0 ∧ (s.cist.swap.at (arrKey c.val .ls)).2 = 0; adapts ∧ still ∧ s.flag F.CA_STAT_FROZEN c.val = false ∧ count s .hs = n ∧ count s .ls = n ∧ n < t ∧ room .hs = true ∧ room .ls = true))
    ∧ (let s : State := onState |> (fun s => { s with cist := { s.cist with active := (s.cist.active.put 0 0xFFFF).put 1 0xFFFF } }) |> setAct F.CA_CFG_ADAPT_EN 0 1;
       let c : Chan := 0;
       let i : Nat := 0;
       let n : Nat := 16;
       s.on = true ∧ (let count := fun (u : State) (x : Arr) => ((List.range 16).filter (u.bankActive c.val x)).length; let t := s.nTarget c.val i; let adapts := s.con F.CA_CFG_ADAPT_EN c.val = true; let still := (s.cist.swap.at (arrKey c.val .hs)).2 = 0 ∧ (s.cist.swap.at (arrKey c.val .ls)).2 = 0; adapts ∧ still ∧ s.flag F.CA_STAT_FROZEN c.val = false ∧ count s .hs = n ∧ count s .ls = n ∧ t + 2 ≤ n))
    ∧ (let s : State := onState |> (fun s => { s with cist := { s.cist with active := (s.cist.active.put 0 0xFFFF).put 1 0xFFFF } }) |> setAct F.CA_CFG_ADAPT_EN 0 1 |> setAct F.CA_CFG_MIN_BANKS 0 15;
       let c : Chan := 0;
       let i : Nat := 1000000;
       let n : Nat := 16;
       s.on = true ∧ (let count := fun (u : State) (x : Arr) => ((List.range 16).filter (u.bankActive c.val x)).length; let t := s.nTarget c.val i; let adapts := s.con F.CA_CFG_ADAPT_EN c.val = true; let still := (s.cist.swap.at (arrKey c.val .hs)).2 = 0 ∧ (s.cist.swap.at (arrKey c.val .ls)).2 = 0; adapts ∧ still ∧ s.flag F.CA_STAT_FROZEN c.val = false ∧ count s .hs = n ∧ count s .ls = n ∧ (t = n ∨ t + 1 = n)))
    ∧ (let s : State := onState;
       let b : Nat := 0;
       s.on = true ∧ b < 16)
    ∧ (let s : State := onState;
       s.on = true)
    ∧ (let s : State := onState |> (·.wr F.B_STAT_STATE 0 2);
       let m : Master := Master.pcie;
       let c : Chan := 0;
       s.on = true ∧ s.rd F.CA_SEL_CH m.idx = c.val ∧ s.flag F.CA_STAT_LOST c.val = false ∧ s.follower (c.val + 1) = false ∧ s.rotateErr c.val = 0)
    ∧ (let s : State := onState |> (·.wr F.CA_STAT_FLUSHING 0 5);
       let m : Master := Master.pcie;
       let c : Chan := 0;
       s.on = true ∧ s.rd F.CA_SEL_CH m.idx = c.val ∧ s.flag F.CA_STAT_LOST c.val = false ∧ s.follower (c.val + 1) = false ∧ (s.flag F.CA_STAT_FROZEN c.val = true ∨ s.flag F.CA_STAT_FLUSHING c.val = true ∨ s.rd F.B_STAT_STATE c.val = 8))
    ∧ (let s : State := onState;
       let m : Master := Master.twoWire;
       let c : Chan := 0;
       s.on = true ∧ s.rd F.CA_SEL_CH m.idx = c.val ∧ s.flag F.CA_STAT_LOST c.val = false ∧ s.follower (c.val + 1) = false ∧ s.flag F.CA_STAT_FROZEN c.val = false ∧ s.flag F.CA_STAT_FLUSHING c.val = false ∧ (s.rd F.B_STAT_STATE c.val = 0 ∨ s.rd F.B_STAT_STATE c.val = 4 ∨ s.rd F.B_STAT_STATE c.val = 6)) := by
  and_intros <;> decide +kernel

/-- The hypotheses of each clause of `ShortsFlush`. -/
theorem test_meets_ShortsFlush :
    (let s : State := onState |> (·.wr F.B_STAT_STATE 3 1);
     let c : Chan := 3;
     s.on = true ∧ (let quiet := s.flag F.CA_STAT_LOST c.val = false ∧ s.flag F.CA_STAT_FLUSHING c.val = false; quiet ∧ s.chanSwitches c.val = true))
    ∧ (let s : State := onState;
       let c : Chan := 1;
       let k : ShortKind := ShortKind.lsShort;
       s.on = true ∧ (let sees := fun (k : ShortKind) => k = .hsShort ∨ s.chanSwitches c.val = true; k ≠ .external ∧ ¬sees k))
    ∧ (let s : State := onState;
       let c : Chan := 5;
       let k : ShortKind := ShortKind.hsShort;
       s.on = true ∧ (let quiet := s.flag F.CA_STAT_LOST c.val = false ∧ s.flag F.CA_STAT_FLUSHING c.val = false; let sees := fun (k : ShortKind) => k = .hsShort ∨ s.chanSwitches c.val = true; k ≠ .external ∧ quiet ∧ sees k))
    ∧ (let s : State := onState;
       let c : Chan := 3;
       let k : ShortKind := ShortKind.hsShort;
       s.on = true ∧ (let quiet := s.flag F.CA_STAT_LOST c.val = false ∧ s.flag F.CA_STAT_FLUSHING c.val = false; let sees := fun (k : ShortKind) => k = .hsShort ∨ s.chanSwitches c.val = true; let recent := ((s.cist.shorts.at c.val).filter (fun t => decide (s.now ≤ t + 1000000))).length; k ≠ .external ∧ quiet ∧ sees k ∧ recent < s.cf F.CA_GCFG_FLUSH_MAX 0))
    ∧ (let s : State := onState;
       let c : Chan := 1;
       let k : ShortKind := ShortKind.hsShort;
       let b : Bool := true;
       let v : Bool := true;
       s.on = true ∧ (let quiet := s.flag F.CA_STAT_LOST c.val = false ∧ s.flag F.CA_STAT_FLUSHING c.val = false; let sees := fun (k : ShortKind) => k = .hsShort ∨ s.chanSwitches c.val = true; let recent := ((s.cist.shorts.at c.val).filter (fun t => decide (s.now ≤ t + 1000000))).length; k ≠ .external ∧ quiet ∧ sees k ∧ s.paired c.val = false ∧ (b = true ∨ v = false ∨ s.cf F.CA_GCFG_FLUSH_MAX 0 ≤ recent)))
    ∧ (let s : State := onState |> (·.wr F.CA_STAT_FLUSHING 3 1);
       let c : Chan := 3;
       let k : ShortKind := ShortKind.lsShort;
       s.on = true ∧ (let quiet := s.flag F.CA_STAT_LOST c.val = false ∧ s.flag F.CA_STAT_FLUSHING c.val = false; k ≠ .external ∧ ¬quiet))
    ∧ (let s : State := onState |> (·.wr F.CA_STAT_FLUSHING 2 7);
       let c : Chan := 2;
       let x : FlushScan := { opened := [(Arr.hs, 30)], stuck := false };
       s.on = true ∧ (let r := c.val + 1; let fresh := x.opened.any (fun y => (s.seg c.val y.1 y.2).health != .retiredLink); s.flag F.CA_STAT_FLUSHING c.val = true ∧ (s.stages.at r).flushCool = false ∧ fresh = true ∧ x.stuck = false ∧ (s.stages.at r).mismatchPend = false))
    ∧ (let s : State := onState |> (·.wr F.CA_STAT_FLUSHING 2 1);
       let c : Chan := 2;
       let x : FlushScan := { opened := [], stuck := false };
       s.on = true ∧ (let r := c.val + 1; let fresh := x.opened.any (fun y => (s.seg c.val y.1 y.2).health != .retiredLink); s.flag F.CA_STAT_FLUSHING c.val = true ∧ (s.stages.at r).flushCool = false ∧ (fresh = false ∨ x.stuck = true)))
    ∧ (let s : State := onState |> (·.wr F.CA_STAT_FLUSHING 0 1) |> (fun s => { s with stages := s.stages.put 1 { flushCool := true } });
       let c : Chan := 0;
       let x : FlushScan := { opened := [(.hs, 0)], stuck := false };
       s.on = true ∧ (let r := c.val + 1; let fresh := x.opened.any (fun y => (s.seg c.val y.1 y.2).health != .retiredLink); s.flag F.CA_STAT_FLUSHING c.val = true ∧ (s.stages.at r).flushCool = true ∧ fresh = true ∧ x.stuck = false ∧ (s.stages.at r).mismatchPend = false))
    ∧ (let s : State := onState |> (fun s => { s with stages := (s.stages.put 4 { s.stages.at 4 with flushCool := true }) }) |> (·.wr F.CA_STAT_FLUSHING 3 3);
       let c : Chan := 3;
       let x : FlushScan := { opened := [], stuck := false };
       s.on = true ∧ (let r := c.val + 1; let fresh := x.opened.any (fun y => (s.seg c.val y.1 y.2).health != .retiredLink); s.flag F.CA_STAT_FLUSHING c.val = true ∧ (s.stages.at r).flushCool = true ∧ (fresh = false ∨ x.stuck = true) ∧ s.paired c.val = false))
    ∧ (let s : State := onState;
       let c : Chan := 0;
       s.on = true ∧ s.flag F.CA_STAT_FLUSHING c.val = false) := by
  and_intros <;> decide +kernel

/-- The hypotheses of each clause of `StagesRun`. -/
theorem test_meets_StagesRun :
    (let s : State := onState |> (·.wr F.B_STAT_STATE 3 3);
     let r : Rail := 4;
     s.on = true ∧ (let i := r.val; (s.stg i = 1 ∨ s.stg i = 3) ∧ bitOf s.seq.joinAfterRamp i = false))
    ∧ (let s : State := onState;
       let r : Rail := 2;
       s.on = true ∧ (let i := r.val; s.stg i ≠ 1 ∧ s.stg i ≠ 3))
    ∧ (let s : State := onState |> (·.wr F.HDR_STAT_STATE 0 1);
       let r : Rail := 0;
       s.on = true ∧ (let i := r.val; s.stg i = 1))
    ∧ (let s : State := onState;
       let r : Rail := 0;
       s.on = true ∧ (let i := r.val; s.stg i ≠ 1))
    ∧ (let s : State := onState |> setAct F.B_CFG_HICCUP_EN 0 1 |> (·.wr F.B_STAT_STATE 0 3);
       let r : Rail := 1;
       let steady : Bool := false;
       s.on = true ∧ (let i := r.val; let n := (s.stages.at i).hiccups; let acts := (s.stg i = 2 ∨ s.stg i = 3 ∨ (15 ≤ i ∧ s.stg i = 1)) ∧ i ≤ 20 ∧ s.follower i = false ∧ (i = 0 → s.wellGives = false); acts ∧ (s.hiccupCf i).1 = true ∧ (if steady then 0 else n) < (s.hiccupCf i).2))
    ∧ (let s : State := onState |> (·.wr F.B_STAT_STATE 1 2);
       let r : Rail := 2;
       let steady : Bool := false;
       s.on = true ∧ (let i := r.val; let n := (s.stages.at i).hiccups; let acts := (s.stg i = 2 ∨ s.stg i = 3 ∨ (15 ≤ i ∧ s.stg i = 1)) ∧ i ≤ 20 ∧ s.follower i = false ∧ (i = 0 → s.wellGives = false); acts ∧ ((s.hiccupCf i).1 = false ∨ (s.hiccupCf i).2 ≤ (if steady then 0 else n))))
    ∧ (let s : State := onState |> (·.wr F.HDR_STAT_STATE 0 5);
       let r : Rail := 0;
       s.on = true ∧ (let i := r.val; i ≤ 20 ∧ s.follower i = false ∧ (i = 0 → s.wellGives = false) ∧ s.stg i = 5))
    ∧ (let s : State := onState;
       let r : Rail := 22;
       s.on = true ∧ (let i := r.val; let lead := s.leadRail i; (21 ≤ i ∨ (i < 15 ∧ s.stg lead = 1))))
    ∧ (let s : State := onState;
       let r : Rail := 3;
       s.on = true ∧ (let i := r.val; let lead := s.leadRail i; (s.stg lead = 0 ∨ 4 ≤ s.stg lead) ∧ s.stg lead ≠ 5))
    ∧ (let s : State := onState |> (·.wr F.WELL_STAT_NO_PACK 0 0) |> (·.wr F.WELL_STAT_CONV 0 2);
       let r : Rail := 0;
       s.on = true ∧ (let i := r.val; i = 0 ∧ s.wellGives = true))
    ∧ (let s : State := onState |> (·.wr F.B_STAT_STATE 0 4);
       let r : Rail := 1;
       s.on = true ∧ (let i := r.val; s.stg i = 4 ∧ 1 ≤ i ∧ i ≤ 14))
    ∧ (let s : State := onState;
       let r : Rail := 1;
       s.on = true ∧ (let i := r.val; s.stg i ≠ 4))
    ∧ (let s : State := onState |> (·.wr F.B_STAT_STATE 0 3);
       let r : Rail := 1;
       s.on = true ∧ (let i := r.val; switching (s.stg i) = true ∧ 1 ≤ i ∧ i ≤ 12))
    ∧ (let s : State := onState;
       let r : Rail := 0;
       s.on = true ∧ (let i := r.val; switching (s.stg i) = false))
    ∧ (let s : State := onState |> (·.wr F.HDR_STAT_STATE 0 5);
       let r : Rail := 0;
       s.on = true ∧ (let i := r.val; s.stg i = 5))
    ∧ (let s : State := onState;
       let r : Rail := 0;
       s.on = true ∧ (let i := r.val; s.stg i ≠ 5))
    ∧ (let s : State := onState;
       let c : Chan := 7;
       s.on = true ∧ (let i := c.val; s.cf F.B_CFG_SNS_LOCAL i = 0 ∧ s.rd F.B_STAT_SNS_LOST i = 0))
    ∧ (let s : State := onState |> setAct F.B_CFG_SNS_LOCAL 0 3;
       let c : Chan := 0;
       s.on = true ∧ (let i := c.val; (s.cf F.B_CFG_SNS_LOCAL i = 1 ∨ s.rd F.B_STAT_SNS_LOST i = 1)))
    ∧ (let s : State := onState |> (·.wr F.B_STAT_SNS_LOST 0 1);
       let c : Chan := 0;
       s.on = true ∧ (let i := c.val; s.rd F.B_STAT_SNS_LOST i = 1 ∧ s.cf F.B_CFG_SNS_LOCAL i = 0))
    ∧ (let s : State := onState;
       let c : Chan := 1;
       s.on = true ∧ (let i := c.val; (s.rd F.B_STAT_SNS_LOST i = 0 ∨ s.cf F.B_CFG_SNS_LOCAL i = 1)))
    ∧ (let s : State := onState |> (fun s => { s with stages := (s.stages.put 3 { s.stages.at 3 with snsRetry := true }) });
       let c : Chan := 2;
       s.on = true ∧ (let i := c.val; let r := i + 1; (s.stages.at r).snsRetry = true))
    ∧ (let s : State := onState;
       let c : Chan := 2;
       let t : Int := 2;
       s.on = true ∧ (let i := c.val; let r := i + 1; s.follower r = false ∧ t ≤ s.cf F.B_TEMP_T_WARN i * 8 ∧ t < s.cf F.B_TEMP_T_SHUT i * 8))
    ∧ (let s : State := onState |> setAct F.B_TEMP_T_WARN 0 3;
       let c : Chan := 0;
       let t : Int := 103;
       s.on = true ∧ (let i := c.val; let r := i + 1; s.follower r = false ∧ s.cf F.B_TEMP_T_WARN i * 8 < t ∧ t < s.cf F.B_TEMP_T_SHUT i * 8))
    ∧ (let s : State := onState |> (·.wr F.B_STAT_STATE 0 7);
       let c : Chan := 0;
       let t : Int := 6412664923;
       s.on = true ∧ (let i := c.val; let r := i + 1; s.follower r = false ∧ s.cf F.B_TEMP_T_SHUT i * 8 ≤ t ∧ s.stg r ≠ 0 ∧ s.stg r ≠ 6 ∧ s.stg r ≠ 0xA))
    ∧ (let s : State := onState;
       let c : Chan := 0;
       let x : TelWindow := { vAvg := 0, iAvg := -3381113914, pAvg := 5, temp := -192, vMax := 0, vMin := 3, iMax := -12143, inLimit := false, phase := [] };
       s.on = true ∧ (let i := c.val; let r := i + 1; s.follower r = false ∧ x.vAvg < 2 ^ 16 ∧ x.pAvg < 2 ^ 16 ∧ x.vMax < 2 ^ 16 ∧ x.vMin < 2 ^ 16)) := by
  and_intros <;> decide +kernel

/-- The hypotheses of each clause of `ControllersFail`. -/
theorem test_meets_ControllersFail :
    (let s : State := onState;
     let x : CtlUnit := (CtlUnit.b 3);
     s.on = true ∧ (let flushing := match x with | .b c => s.flag F.CA_STAT_FLUSHING c | _ => false; s.unitLost x = false ∧ s.solo x = false ∧ flushing = false ∧ s.onSpare x = false ∧ s.claimed x = false))
    ∧ (let s : State := onState |> (·.wr F.X_STAT_CTRL_SPARE 0 1);
       let x : CtlUnit := (CtlUnit.x 1);
       s.on = true ∧ (let flushing := match x with | .b c => s.flag F.CA_STAT_FLUSHING c | _ => false; s.unitLost x = false ∧ s.solo x = false ∧ flushing = false ∧ (s.onSpare x = true ∨ s.claimed x = true)))
    ∧ (let s : State := onState |> (·.wr F.B_STAT_SOLO 0 1);
       let x : CtlUnit := (CtlUnit.b 0);
       s.on = true ∧ (s.unitLost x = true ∨ s.solo x = true))
    ∧ (let s : State := onState |> (·.wr F.CA_STAT_FLUSHING 0 1);
       let x : CtlUnit := (CtlUnit.b 0);
       s.on = true ∧ (let flushing := match x with | .b c => s.flag F.CA_STAT_FLUSHING c | _ => false; s.unitLost x = false ∧ s.solo x = false ∧ flushing = true ∧ ((match unitRail x with | some _ => decide (True) | _ => false) = true)))
    ∧ (let s : State := onState |> (fun s => { s with well := { s.well with bist := true } });
       let x : CtlUnit := CtlUnit.well;
       s.on = true ∧ s.inBist x = true)
    ∧ (let s : State := onState |> (fun s => { s with well := { s.well with bist := true } });
       let x : CtlUnit := CtlUnit.well;
       s.on = true ∧ s.inBist x = true ∧ (∀ c, x = .b c → s.paired c.val = false))
    ∧ (let s : State := onState;
       let x : CtlUnit := (CtlUnit.b 9);
       s.on = true ∧ s.inBist x = false) := by
  and_intros <;> decide +kernel

/-- The hypotheses of each clause of `PumpAndLoads`. -/
theorem test_meets_PumpAndLoads :
    (let s : State := onState;
     let p : Fin 3 := 0;
     s.on = true ∧ s.rd F.HDR_STAT_LIVE 0 < 8 ∧ (let live := s.rd F.HDR_STAT_LIVE 0; bitOf live p.val = true))
    ∧ (let s : State := onState |> (·.wr F.HDR_STAT_LIVE 0 0);
       let p : Fin 3 := 0;
       s.on = true ∧ s.rd F.HDR_STAT_LIVE 0 < 8 ∧ (let live := s.rd F.HDR_STAT_LIVE 0; bitOf live p.val = false))
    ∧ (let s : State := onState |> (·.wr F.HDR_PH_CAUSE 0 1) |> (·.wr F.HDR_STAT_STATE 0 2);
       let p : Fin 3 := 0;
       s.on = true ∧ s.rd F.HDR_STAT_LIVE 0 < 8 ∧ s.stg 0 = 2 ∧ (s.rd F.HDR_PH_CAUSE p.val = 1 ∨ s.rd F.HDR_PH_CAUSE p.val = 4))
    ∧ (let s : State := onState;
       let p : Fin 3 := 1;
       s.on = true ∧ s.rd F.HDR_STAT_LIVE 0 < 8 ∧ (s.stg 0 ≠ 2 ∨ (s.rd F.HDR_PH_CAUSE p.val ≠ 1 ∧ s.rd F.HDR_PH_CAUSE p.val ≠ 4)))
    ∧ (let s : State := onState;
       s.on = true ∧ s.rd F.HDR_STAT_LIVE 0 < 8)
    ∧ (let s : State := onState |> (fun s => { s with phRetry := 3 });
       let p : Fin 3 := 0;
       s.on = true ∧ s.rd F.HDR_STAT_LIVE 0 < 8 ∧ bitOf s.phRetry p.val = true)
    ∧ (let s : State := onState;
       let p : Fin 3 := 0;
       s.on = true ∧ s.rd F.HDR_STAT_LIVE 0 < 8 ∧ bitOf s.phRetry p.val = false)
    ∧ (let s : State := onState;
       s.on = true ∧ s.rd F.HDR_STAT_LIVE 0 < 8)
    ∧ (let s : State := onState;
       s.on = true ∧ (s.overloadable = false ∨ s.overload ≠ 0))
    ∧ (let s : State := onState |> (·.wr F.HDR_STAT_STATE 0 2) |> (·.wr F.WELL_STAT_CONV 0 1) |> (·.wr F.WELL_STAT_NO_PACK 0 0) |> (·.wr F.WELL_STAT_FLOOR 0 0) |> setAct F.HDR_CFG_SHED_EN 0 0;
       s.on = true ∧ s.overloadable = true ∧ s.overload = 0 ∧ s.cf F.HDR_CFG_SHED_EN 0 = 0)
    ∧ (let s : State := onState |> (·.wr F.HDR_STAT_STATE 0 2) |> (·.wr F.WELL_STAT_CONV 0 1) |> (·.wr F.WELL_STAT_NO_PACK 0 0) |> (·.wr F.WELL_STAT_FLOOR 0 0) |> setAct F.HDR_CFG_SHED_EN 0 1 |> (fun s => { s with seq := { s.seq with joinAfterRamp := 1 } });
       s.on = true ∧ s.overloadable = true ∧ s.overload = 0 ∧ s.cf F.HDR_CFG_SHED_EN 0 = 1 ∧ s.safe = false ∧ s.draining = true)
    ∧ (let s : State := onState |> (·.wr F.HDR_STAT_STATE 0 2) |> (·.wr F.WELL_STAT_CONV 0 1) |> (·.wr F.WELL_STAT_NO_PACK 0 0) |> (·.wr F.WELL_STAT_FLOOR 0 0) |> setAct F.HDR_CFG_SHED_EN 0 1;
       s.on = true ∧ s.overloadable = true ∧ s.overload = 0 ∧ s.cf F.HDR_CFG_SHED_EN 0 = 1 ∧ s.safe = false ∧ s.draining = false)
    ∧ (let s : State := onState |> (·.wr F.HDR_STAT_STATE 0 2) |> (·.wr F.WELL_STAT_CONV 0 1) |> (·.wr F.WELL_STAT_NO_PACK 0 0) |> (·.wr F.WELL_STAT_FLOOR 0 0) |> setAct F.HDR_CFG_SHED_EN 0 1 |> (fun s => { s with power := { s.power with st := .safe } });
       s.on = true ∧ s.overloadable = true ∧ s.overload = 0 ∧ s.cf F.HDR_CFG_SHED_EN 0 = 1 ∧ s.safe = true)
    ∧ (let s : State := onState |> (fun s => { s with overload := 2 });
       s.on = true ∧ s.overload = 2)
    ∧ (let s : State := onState;
       s.on = true ∧ s.overload ≠ 2)
    ∧ (let s : State := onState;
       s.on = true)
    ∧ (let s : State := onState;
       let k : Fin 6 := 1;
       s.on = true ∧ (let l := 15 + k.val; (s.stg l = 0 ∨ s.stg l = 6)))
    ∧ (let s : State := onState |> (·.wr F.L_STAT_STATE 0 1);
       let k : Fin 6 := 0;
       s.on = true ∧ (let l := 15 + k.val; s.stg l ≠ 0 ∧ s.stg l ≠ 6))
    ∧ (let s : State := onState |> (·.wr F.S_STAT_STATE 1 2);
       let j : Fin 3 := 1;
       s.on = true ∧ (let w := 21 + j.val; s.stg w = 2))
    ∧ (let s : State := onState;
       let j : Fin 3 := 0;
       s.on = true ∧ (let w := 21 + j.val; s.stg w ≠ 2))
    ∧ (let s : State := onState;
       let j : Fin 3 := 0;
       s.on = true ∧ s.rd F.S_STAT_REV_BLOCK j.val = 0) := by
  and_intros <;> decide +kernel

/-- The hypotheses of each clause of `RailsPrime`. -/
theorem test_meets_RailsPrime :
    (let s : State := onState |> (·.wr F.SQ_RSTAT_STEP 0 1) |> (fun s => { s with seq := { s.seq with primeScope := 1 } });
     let r : Rail := 0;
     s.on = true ∧ (let i := r.val; let ready := s.stepOf i = 1 ∧ bitOf s.seq.primeScope i = true ∧ mAnd (s.deps i) (0xFFFFFF - s.goodMask) = 0 ∧ s.orderLets i = true; ready ∧ s.stgLost i = false ∧ s.hot i = false))
    ∧ (let s : State := onState;
       let r : Rail := 2;
       s.on = true ∧ (let i := r.val; let ready := s.stepOf i = 1 ∧ bitOf s.seq.primeScope i = true ∧ mAnd (s.deps i) (0xFFFFFF - s.goodMask) = 0 ∧ s.orderLets i = true; ¬ready))
    ∧ (let s : State := onState |> (·.wr F.SQ_RSTAT_STEP 0 1) |> (fun s => { s with seq := { s.seq with primeScope := 1 } }) |> (fun s => { s with stages := s.stages.put 0 { hot := true } });
       let r : Rail := 0;
       s.on = true ∧ (let i := r.val; let ready := s.stepOf i = 1 ∧ bitOf s.seq.primeScope i = true ∧ mAnd (s.deps i) (0xFFFFFF - s.goodMask) = 0 ∧ s.orderLets i = true; ready ∧ (s.stgLost i = true ∨ s.hot i = true)))
    ∧ (let s : State := onState |> (·.wr F.SQ_RSTAT_STEP 0 2);
       let r : Rail := 0;
       s.on = true ∧ (let i := r.val; s.stepOf i = 2 ∧ s.rampOver i = true ∧ bitOf s.seq.joinAfterRamp i = false ∧ s.seq.shedPend = false))
    ∧ (let s : State := onState;
       let r : Rail := 1;
       s.on = true ∧ (let i := r.val; let level := s.stg i = 2 ∨ (i = 0 ∧ (s.stg 0 = 0 ∨ s.stg 0 = 4 ∨ s.stg 0 = 6)); (s.stepOf i ≠ 2 ∨ s.rampOver i = false ∨ bitOf s.seq.joinAfterRamp i = true) ∧ (s.stepOf i ≠ 3 ∨ ¬level)))
    ∧ (let s : State := onState |> (·.wr F.SQ_RSTAT_STEP 0 3);
       let r : Rail := 0;
       s.on = true ∧ (let i := r.val; let level := s.stg i = 2 ∨ (i = 0 ∧ (s.stg 0 = 0 ∨ s.stg 0 = 4 ∨ s.stg 0 = 6)); s.stepOf i = 3 ∧ level))
    ∧ (let s : State := onState;
       let r : Rail := 1;
       s.on = true ∧ (let i := r.val; s.stepOf i ≠ 2))
    ∧ (let s : State := onState |> (·.wr F.SQ_RSTAT_STEP 4 2);
       let r : Rail := 4;
       s.on = true ∧ (let i := r.val; s.stepOf i = 2))
    ∧ (let s : State := onState |> (·.wr F.SQ_RSTAT_STEP 6 4);
       let r : Rail := 6;
       s.on = true ∧ (let i := r.val; s.stepOf i = 4 ∧ s.stgLost i = false ∧ s.hot i = false))
    ∧ (let s : State := onState;
       let r : Rail := 1;
       s.on = true ∧ (let i := r.val; s.stepOf i ≠ 4))
    ∧ (let s : State := onState |> (fun s => { s with power := { s.power with primeDue := true } });
       s.on = true ∧ s.power.primeDue = true ∧ s.power.checking = false ∧ s.op = 0 ∧ s.flag F.SEQ_STAT_LATCHED 0 = false ∧ s.power.st = .run)
    ∧ (let s : State := onState;
       s.on = true ∧ (s.power.primeDue = false ∨ s.power.checking = true ∨ s.op ≠ 0)) := by
  and_intros <;> decide +kernel

/-- The hypotheses of each clause of `FaultsOfRails`. -/
theorem test_meets_FaultsOfRails :
    (let s : State := onState |> (·.wr F.SQ_RSTAT_STEP 0 3);
     let r : Rail := 0;
     s.on = true ∧ s.follower r.val = false ∧ (let i := r.val; s.stepOf i = 3))
    ∧ (let s : State := onState |> (·.wr F.SQ_RSTAT_STEP 1 2);
       let r : Rail := 1;
       let cause : Byte := 0x04#8;
       s.on = true ∧ s.follower r.val = false ∧ (let i := r.val; s.stepOf i = 2 ∧ cause ≠ 6))
    ∧ (let s : State := onState |> (·.wr F.SQ_RSTAT_STEP 1 9);
       let r : Rail := 1;
       s.on = true ∧ s.follower r.val = false ∧ (let i := r.val; (s.stepOf i = 8 ∨ s.stepOf i = 9)))
    ∧ (let s : State := onState;
       let r : Rail := 0;
       let cause : Byte := 0x04#8;
       s.on = true ∧ s.follower r.val = false ∧ (let i := r.val; (s.stepOf i ≠ 2 ∨ cause = 6) ∧ s.stepOf i ≠ 3 ∧ s.stepOf i ≠ 8 ∧ s.stepOf i ≠ 9))
    ∧ (let s : State := onState |> (·.wr F.SEQ_STAT_LATCHED 0 1);
       s.on = true ∧ s.flag F.SEQ_STAT_LATCHED 0 = true ∧ s.draining = false)
    ∧ (let s : State := onState;
       s.on = true ∧ s.flag F.SEQ_STAT_LATCHED 0 = false)
    ∧ (let s : State := onState |> (·.wr F.SEQ_STAT_LATCHED 0 1) |> (fun s => { s with seq := { s.seq with joinAfterRamp := 1 } });
       s.on = true ∧ s.flag F.SEQ_STAT_LATCHED 0 = true ∧ s.draining = true)
    ∧ (let s : State := onState |> (·.wr F.UNIT_STAT_SEQ_LANE_OK 0 1);
       let lane : Fin 3 := 2;
       s.on = true ∧ (let k := lane.val; bitOf s.lanes k = false))
    ∧ (let s : State := onState |> (·.wr F.UNIT_STAT_SEQ_LANE_OK 0 6);
       let lane : Fin 3 := 1;
       s.on = true ∧ (let k := lane.val; s.lanes ≠ 7 ∧ bitOf s.lanes k = true))
    ∧ (let s : State := onState;
       let lane : Fin 3 := 0;
       s.on = true ∧ (let k := lane.val; let recent := (s.seq.laneTimes.at k).filter (fun t => decide (s.now ≤ t + 3600000000)); s.lanes = 7 ∧ recent.length < 2))
    ∧ (let s : State := onState;
       let lane : Fin 3 := 1;
       let p : Bool := true;
       s.on = true ∧ (let k := lane.val; let recent := (s.seq.laneTimes.at k).filter (fun t => decide (s.now ≤ t + 3600000000)); s.lanes = 7 ∧ (p = true ∨ 2 ≤ recent.length))) := by
  and_intros <;> decide +kernel

/-- The hypotheses of each clause of `RailsDrain`. -/
theorem test_meets_RailsDrain :
    (let s : State := onState |> (·.wr F.S_STAT_STATE 0 2) |> (·.wr F.SQ_RSTAT_STEP 21 7);
     let r : Rail := 21;
     s.on = true ∧ (let i := r.val; let st := s.stg i; let ready := s.stepOf i = 7 ∧ bitOf s.seq.lead i = false ∧ s.drainLets i = true; ready ∧ switching st = true))
    ∧ (let s : State := onState |> (·.wr F.SQ_RSTAT_STEP 17 7);
       let r : Rail := 17;
       s.on = true ∧ (let i := r.val; let st := s.stg i; let ready := s.stepOf i = 7 ∧ bitOf s.seq.lead i = false ∧ s.drainLets i = true; ready ∧ i ≠ 0 ∧ st = 0))
    ∧ (let s : State := onState;
       let r : Rail := 3;
       s.on = true ∧ (let i := r.val; let ready := s.stepOf i = 7 ∧ bitOf s.seq.lead i = false ∧ s.drainLets i = true; ¬ready))
    ∧ (let s : State := onState;
       s.on = true)
    ∧ (let s : State := onState |> (·.wr F.SQ_RSTAT_STEP 1 8);
       let r : Rail := 1;
       s.on = true ∧ (let i := r.val; s.stepOf i = 8))
    ∧ (let s : State := onState |> (·.wr F.SQ_RSTAT_STEP 0 9);
       let r : Rail := 0;
       s.on = true ∧ (let i := r.val; s.stepOf i = 9))
    ∧ (let s : State := onState;
       let r : Rail := 2;
       s.on = true ∧ (let i := r.val; s.stepOf i ≠ 8 ∧ s.stepOf i ≠ 9))
    ∧ (let s : State := onState;
       let r : Rail := 1;
       s.on = true ∧ (let i := r.val; s.stepOf i ≠ 8))
    ∧ (let s : State := onState;
       let r : Rail := 1;
       s.on = true ∧ (let i := r.val; s.stepOf i ≠ 9))
    ∧ (let s : State := onState |> (fun s => { s with power := { s.power with resetAfterDrain := (some ResetKind.host) } });
       s.on = true ∧ ((match s.power.resetAfterDrain with | some _ => decide (s.draining = false ∧ s.safe = false) | _ => false) = true))
    ∧ (let s : State := onState;
       s.on = true ∧ (s.power.resetAfterDrain = none ∨ s.draining = true ∨ s.safe = true)) := by
  and_intros <;> decide +kernel

/-- The hypotheses of each clause of `Supervision`. -/
theorem test_meets_Supervision :
    (let s : State := onState;
     let mon : Fin 32 := 31;
     let k : MonCmp := MonCmp.warnHi;
     s.on = true ∧ (let m := mon.val; let held := s.flag F.WM_MSTAT_BLANK m || !s.cmpOn m k || (decide (m < 24) && s.follower m); held = true))
    ∧ (let s : State := onState |> (fun s => { s with pert := { s.pert with kindEnd := s.pert.kindEnd.put 4 9 } }) |> (·.wr F.PT_WM_MASK_MASK 0 1);
       s.on = true ∧ s.flag F.WM_MSTAT_BLANK 0 = false ∧ s.cmpOn 0 .warnLo = true ∧ s.follower 0 = false ∧ s.monDelayed 0 = true ∧ MonEdge.out ≠ .qualified)
    ∧ (let s : State := onState;
       let mon : Fin 32 := 0;
       let k : MonCmp := MonCmp.warnLo;
       s.on = true ∧ (let m := mon.val; let held := s.flag F.WM_MSTAT_BLANK m || !s.cmpOn m k || (decide (m < 24) && s.follower m); let late := s.monDelayed m; held = false ∧ late = false ∧ s.rd (cmpFld k) m = 0 ∧ m ≠ 24))
    ∧ (let s : State := onState |> (·.wr F.WM_MSTAT_ABOVE_RST 0 1);
       let mon : Fin 32 := 0;
       let k : MonCmp := MonCmp.rstHi;
       s.on = true ∧ (let m := mon.val; let held := s.flag F.WM_MSTAT_BLANK m || !s.cmpOn m k || (decide (m < 24) && s.follower m); let late := s.monDelayed m; held = false ∧ late = false ∧ s.rd (cmpFld k) m = 1 ∧ m ≠ 24))
    ∧ (let s : State := onState;
       let mon : Fin 32 := 3;
       let k : MonCmp := MonCmp.rstLo;
       s.on = true ∧ (let m := mon.val; let held := s.flag F.WM_MSTAT_BLANK m || !s.cmpOn m k || (decide (m < 24) && s.follower m); let isRst := k = .rstLo ∨ k = .rstHi; held = false ∧ (¬isRst ∨ s.rd (cmpFld k) m = 0 ∨ 24 ≤ m ∨ qualState (decide (k = .rstLo)) (s.stepOf m) = false)))
    ∧ (let s : State := onState |> (·.wr F.WM_MSTAT_BELOW_RST 0 3) |> (·.wr F.SQ_RSTAT_STEP 0 3);
       let mon : Fin 32 := 0;
       let k : MonCmp := MonCmp.rstLo;
       s.on = true ∧ (let m := mon.val; let held := s.flag F.WM_MSTAT_BLANK m || !s.cmpOn m k || (decide (m < 24) && s.follower m); let isRst := k = .rstLo ∨ k = .rstHi; held = false ∧ isRst ∧ s.rd (cmpFld k) m = 1 ∧ m < 24 ∧ s.stepOf m = 3))
    ∧ (let s : State := onState |> (·.wr F.WM_MSTAT_ABOVE_RST 0 1) |> (·.wr F.SQ_RSTAT_STEP 0 7);
       let mon : Fin 32 := 0;
       let k : MonCmp := MonCmp.rstHi;
       s.on = true ∧ (let m := mon.val; let held := s.flag F.WM_MSTAT_BLANK m || !s.cmpOn m k || (decide (m < 24) && s.follower m); held = false ∧ k = .rstHi ∧ s.rd (cmpFld k) m = 1 ∧ m < 24 ∧ (s.stepOf m = 7 ∨ s.stepOf m = 8 ∨ s.stepOf m = 9)))
    ∧ (let s : State := onState |> (·.wr F.WM_MSTAT_BLANK 0 3);
       let mon : Fin 32 := 0;
       s.on = true ∧ (let m := mon.val; let late := s.monDelayed m; s.flag F.WM_MSTAT_BLANK m = true ∧ late = false))
    ∧ (let s : State := onState;
       let mon : Fin 32 := 0;
       s.on = true ∧ (let m := mon.val; s.flag F.WM_MSTAT_BLANK m = false))
    ∧ (let s : State := onState |> (fun s => { s with pert := { s.pert with kindEnd := s.pert.kindEnd.put 4 9 } }) |> (·.wr F.PT_WM_MASK_MASK 0 0x1000000);
       s.on = true ∧ (let now := s.monDelayed 24 = false; ¬now))
    ∧ (let s : State := onState |> (·.wr F.PE_STAT_NO_FEED 0 0);
       s.on = true ∧ (let raised := s.power.st = .run ∧ s.rd F.PE_STAT_NO_FEED 0 = 0; let now := s.monDelayed 24 = false; let warn := now ∧ s.cmpActs 24 .warnLo = true; warn ∧ raised))
    ∧ (let s : State := onState;
       s.on = true ∧ (let raised := s.power.st = .run ∧ s.rd F.PE_STAT_NO_FEED 0 = 0; let now := s.monDelayed 24 = false; let warn := now ∧ s.cmpActs 24 .warnLo = true; warn ∧ ¬raised))
    ∧ (let s : State := onState |> (·.wr F.PFW_STAT_SUPPLY 0 1) |> (·.wr F.PE_STAT_NO_FEED 0 0);
       s.on = true ∧ (let raised := s.power.st = .run ∧ s.rd F.PE_STAT_NO_FEED 0 = 0; let now := s.monDelayed 24 = false; let warn := now ∧ s.cmpActs 24 .warnLo = true; warn ∧ raised ∧ s.rd F.PFW_STAT_SUPPLY 0 = 1 ∧ s.wmon.supRst = false))
    ∧ (let s : State := onState |> (·.wr F.PE_STAT_NO_FEED 0 0);
       s.on = true ∧ (let raised := s.power.st = .run ∧ s.rd F.PE_STAT_NO_FEED 0 = 0; let now := s.monDelayed 24 = false; let lost := now ∧ s.cmpActs 24 .rstLo = true; lost ∧ raised))
    ∧ (let s : State := onState;
       s.on = true ∧ (let raised := s.power.st = .run ∧ s.rd F.PE_STAT_NO_FEED 0 = 0; let now := s.monDelayed 24 = false; let lost := now ∧ s.cmpActs 24 .rstLo = true; lost ∧ ¬raised))
    ∧ (let s : State := onState |> (·.wr F.WM_MSTAT_BLANK 24 1);
       s.on = true ∧ (let now := s.monDelayed 24 = false; let warn := now ∧ s.cmpActs 24 .warnLo = true; now ∧ ¬warn))
    ∧ (let s : State := onState |> (·.wr F.WM_MSTAT_BLANK 24 1);
       s.on = true ∧ (let now := s.monDelayed 24 = false; let lost := now ∧ s.cmpActs 24 .rstLo = true; now ∧ ¬lost))
    ∧ (let s : State := onState |> (·.wr F.PFW_STAT_RESET 0 2);
       s.on = true ∧ s.pfwMask = 0)
    ∧ (let s : State := onState;
       s.on = true ∧ s.pfwMask ≠ 0)
    ∧ (let s : State := onState |> (·.wr F.B_STAT_STATE 0 1);
       let t : Fin 36 := 0;
       s.on = true ∧ s.rd F.WM_AUDIT_PASSES 0 < 65536 ∧ (let i := t.val; s.tripHeard i = true))
    ∧ (let s : State := onState;
       let t : Fin 36 := 19;
       s.on = true ∧ s.rd F.WM_AUDIT_PASSES 0 < 65536 ∧ (let i := t.val; s.tripHeard i = false))
    ∧ (let s : State := onState |> (·.wr F.B_STAT_STATE 0 1);
       let t : Fin 36 := 0;
       s.on = true ∧ s.rd F.WM_AUDIT_PASSES 0 < 65536 ∧ (let i := t.val; let ov := (12 ≤ i ∧ i < 24) ∨ i = 32 ∨ i = 33 ∨ i = 35; s.tripHeard i = true ∧ ((match tripRail i with | some r => decide ((s.stg (s.leadRail r) = 8 ∨ (¬ov ∧ (s.stg (s.leadRail r) = 1 ∨ s.stg (s.leadRail r) = 4 ∨ s.stg (s.leadRail r) = 5)))) | _ => false) = true)))
    ∧ (let s : State := onState |> (·.wr F.HDR_STAT_STATE 0 2);
       let t : Fin 36 := 24;
       s.on = true ∧ s.rd F.WM_AUDIT_PASSES 0 < 65536 ∧ (let i := t.val; s.tripHeard i = true ∧ ((match tripRail i with | some r => decide (s.stg (s.leadRail r) = 2 ∧ r ≤ 12) | _ => false) = true)))
    ∧ (let s : State := onState |> (·.wr F.WELL_STAT_CONV 0 2);
       let t : Fin 36 := 34;
       s.on = true ∧ s.rd F.WM_AUDIT_PASSES 0 < 65536 ∧ (let i := t.val; s.tripHeard i = true ∧ tripRail i = none))
    ∧ (let s : State := onState;
       let d : Fin 164 := 0;
       let off : Nat := 0;
       s.on = true ∧ s.rd F.WM_AUDIT_PASSES 0 < 65536 ∧ (let audited := s.audits d.val = true; audited ∧ off ≤ s.cf F.WM_GCFG_AUDIT_TOL 0))
    ∧ (let s : State := onState;
       let d : Fin 164 := 0;
       let off : Nat := 2456576967;
       s.on = true ∧ s.rd F.WM_AUDIT_PASSES 0 < 65536 ∧ (let audited := s.audits d.val = true; audited ∧ s.cf F.WM_GCFG_AUDIT_TOL 0 < off ∧ s.wmon.retest ≠ d.val + 1))
    ∧ (let s : State := onState |> (fun s => { s with wmon := { s.wmon with retest := 1 } });
       let d : Fin 164 := 0;
       let off : Nat := 10;
       s.on = true ∧ s.rd F.WM_AUDIT_PASSES 0 < 65536 ∧ (let audited := s.audits d.val = true; audited ∧ s.cf F.WM_GCFG_AUDIT_TOL 0 < off ∧ s.wmon.retest = d.val + 1))
    ∧ (let s : State := onState;
       let d : Fin 164 := 130;
       s.on = true ∧ s.rd F.WM_AUDIT_PASSES 0 < 65536 ∧ (let audited := s.audits d.val = true; ¬audited))
    ∧ (let s : State := onState;
       s.on = true ∧ s.rd F.WM_AUDIT_PASSES 0 < 65536 ∧ s.wmon.readback = 0)
    ∧ (let s : State := onState |> (fun s => { s with wmon := { s.wmon with readback := 2 } });
       s.on = true ∧ s.rd F.WM_AUDIT_PASSES 0 < 65536 ∧ s.wmon.readback ≠ 0)
    ∧ (let s : State := onState;
       let x : Fin 256 := 188;
       s.on = true ∧ s.rd F.WM_AUDIT_PASSES 0 < 65536 ∧ 164 ≤ x.val) := by
  and_intros <;> decide +kernel

/-- The hypotheses of each clause of `SeverityAndHistory`. -/
theorem test_meets_SeverityAndHistory :
    (let s : State := onState;
     let m : Master := Master.pcie;
     let b : Fin 23 := 0;
     s.on = true ∧ s.rd F.FH_SEL_BLOCK m.idx = b.val) := by decide +kernel

/-- The hypotheses of each clause of `Perturbations`. -/
theorem test_meets_Perturbations :
    (let s : State := onState;
     s.on = true ∧ s.rd F.PT_STAT_ALLOWED 0 = 0)
    ∧ (let s : State := onState |> (·.wr F.PT_STAT_ALLOWED 0 1) |> (fun s => { s with power := { s.power with st := PState.safe } });
       s.on = true ∧ s.rd F.PT_STAT_ALLOWED 0 ≠ 0 ∧ (s.safe = true ∨ s.pert.session ≠ none))
    ∧ (let s : State := onState |> (·.wr F.PT_STAT_ALLOWED 0 1);
       let n : BitVec 16 := 0x7e1a#16;
       s.on = true ∧ (let free := s.rd F.PT_STAT_ALLOWED 0 ≠ 0 ∧ s.safe = false ∧ s.pert.session = none; free ∧ s.pert.key = none ∧ n = 0x7E1A))
    ∧ (let s : State := onState |> (·.wr F.PT_STAT_ALLOWED 0 1);
       let n : BitVec 16 := 0xffff#16;
       s.on = true ∧ (let free := s.rd F.PT_STAT_ALLOWED 0 ≠ 0 ∧ s.safe = false ∧ s.pert.session = none; free ∧ s.pert.key = none ∧ n ≠ 0x7E1A))
    ∧ (let s : State := onState |> (·.wr F.PT_STAT_ALLOWED 0 1) |> (fun s => { s with pert := { s.pert with key := (some (Master.pcie, 22)) } });
       let m : Master := Master.pcie;
       let n : BitVec 16 := 0x91c5#16;
       s.on = true ∧ (let free := s.rd F.PT_STAT_ALLOWED 0 ≠ 0 ∧ s.safe = false ∧ s.pert.session = none; free ∧ ((match s.pert.key with | some (o, t) => decide (n = 0x91C5 ∧ o = m ∧ s.now ≤ t + 1000) | _ => false) = true)))
    ∧ (let s : State := onState |> (fun s => { s with pert := { s.pert with key := (some (Master.pcie, 1)) } }) |> (·.wr F.PT_STAT_ALLOWED 0 1);
       let m : Master := Master.pcie;
       let n : BitVec 16 := 0x0001#16;
       s.on = true ∧ (let free := s.rd F.PT_STAT_ALLOWED 0 ≠ 0 ∧ s.safe = false ∧ s.pert.session = none; free ∧ ((match s.pert.key with | some (o, t) => decide ((n ≠ 0x91C5 ∨ o ≠ m ∨ t + 1000 < s.now)) | _ => false) = true)))
    ∧ (let s : State := onState |> (fun s => { s with pert := { s.pert with session := (some Master.pcie) } });
       let m : Master := Master.pcie;
       s.on = true ∧ s.pert.session = some m)
    ∧ (let s : State := onState;
       s.on = true ∧ s.pert.session = none)
    ∧ (let s : State := onState |> (fun s => { s with pert := { s.pert with session := (some Master.twoWire) } });
       let m : Master := Master.pcie;
       s.on = true ∧ s.pert.session = some m.other)
    ∧ (let s : State := onState |> (fun s => { s with pert := { s.pert with session := (some Master.pcie) } });
       let m : Master := Master.pcie;
       s.on = true ∧ s.pert.session = some m ∧ s.wmon.late = [])
    ∧ (let s : State := onState;
       s.on = true ∧ s.pert.session = none)
    ∧ (let s : State := onState |> (fun s => { s with pert := { s.pert with session := (some Master.twoWire) } });
       let m : Master := Master.pcie;
       s.on = true ∧ s.pert.session = some m.other)
    ∧ (let s : State := onState |> (fun s => { s with pert := { s.pert with session := (some Master.pcie) } });
       let m : Master := Master.pcie;
       let n : BitVec 16 := 0x7d08#16;
       s.on = true ∧ s.pert.session = some m ∧ n ≠ 0)
    ∧ (let s : State := onState |> (·.wr F.PT_WM_MASK_MASK 0 65536) |> (fun s => { s with pert := { s.pert with session := (some Master.pcie) } });
       let m : Master := Master.pcie;
       let n : BitVec 16 := 0x91c5#16;
       s.on = true ∧ s.pert.session = some m ∧ n ≠ 0 ∧ s.rd F.PT_WM_MASK_MASK 0 ≠ 0)
    ∧ (let s : State := onState |> (fun s => { s with pert := { s.pert with session := (some Master.pcie) } });
       let m : Master := Master.pcie;
       let n : BitVec 16 := 0xa5c3#16;
       s.on = true ∧ s.pert.session = some m ∧ n.toNat % 256 ≠ 0)
    ∧ (let s : State := onState |> (fun s => { s with pert := { s.pert with session := (some Master.pcie) } });
       let m : Master := Master.pcie;
       s.on = true ∧ s.pert.session = some m)
    ∧ (let s : State := onState |> (fun s => { s with pert := { s.pert with kindEnd := (s.pert.kindEnd.put 1 65536) } });
       let k : Fin 4 := 0;
       s.on = true ∧ s.pert.kindEnd.at (k.val + 1) ≠ 0)
    ∧ (let s : State := onState;
       let k : Fin 4 := 0;
       s.on = true ∧ s.pert.kindEnd.at (k.val + 1) = 0) := by
  and_intros <;> decide +kernel

/-- The hypotheses of each clause of `HandOvers`. -/
theorem test_meets_HandOvers :
    (let s : State := onState |> (·.wr F.WELL_STAT_CONV 0 1) |> (·.wr F.WELL_STAT_NO_PACK 0 0) |> (·.wr F.HDR_STAT_STATE 0 4);
     s.on = true ∧ (let ho := s.rd F.WELL_STAT_HO 0; let able := s.wellSources = true ∧ (s.stg 0 = 4 ∨ s.stg 0 = 6 ∨ ho = 1) ∧ (ho = 0 ∨ ho = 1 ∨ ho = 6); able ∧ s.power.st = .run))
    ∧ (let s : State := onState |> (·.wr F.WELL_STAT_CONV 0 1) |> (·.wr F.WELL_STAT_NO_PACK 0 0) |> (·.wr F.HDR_STAT_STATE 0 4) |> (fun s => { s with power := { s.power with st := .safe } });
       s.on = true ∧ (let ho := s.rd F.WELL_STAT_HO 0; let able := s.wellSources = true ∧ (s.stg 0 = 4 ∨ s.stg 0 = 6 ∨ ho = 1) ∧ (ho = 0 ∨ ho = 1 ∨ ho = 6); able ∧ s.power.st = .safe))
    ∧ (let s : State := onState;
       s.on = true ∧ (let ho := s.rd F.WELL_STAT_HO 0; let able := s.wellSources = true ∧ (s.stg 0 = 4 ∨ s.stg 0 = 6 ∨ ho = 1) ∧ (ho = 0 ∨ ho = 1 ∨ ho = 6); (¬able ∨ (s.power.st ≠ .run ∧ s.power.st ≠ .safe))))
    ∧ (let s : State := onState;
       s.on = true ∧ s.well.leadPend = false)
    ∧ (let s : State := onState |> (fun s => { s with power := { s.power with st := PState.safe } }) |> (fun s => { s with well := { s.well with leadPend := true } });
       s.on = true ∧ s.well.leadPend = true ∧ s.safe = true)
    ∧ (let s : State := onState |> (fun s => { s with well := { s.well with leadPend := true } });
       s.on = true ∧ s.well.leadPend = true ∧ s.safe = false)
    ∧ (let s : State := onState |> (fun s => { s with well := { s.well with hoDone := true } }) |> (·.wr F.FEED_STAT_STABLE 0 1) |> (·.wr F.WELL_STAT_HO 0 3) |> (fun s => { s with power := { s.power with st := .hold } });
       s.on = true ∧ (let ho := s.rd F.WELL_STAT_HO 0; let may := s.well.hoDone = true ∧ s.anyStable = true ∧ (ho = 3 ∨ ho = 4) ∧ s.stg 0 ≠ 6 ∧ s.draining = false ∧ (s.power.st = .hold ∨ (s.safe = true ∧ s.stg 0 ≠ 0)); may))
    ∧ (let s : State := onState;
       s.on = true ∧ (let ho := s.rd F.WELL_STAT_HO 0; let may := s.well.hoDone = true ∧ s.anyStable = true ∧ (ho = 3 ∨ ho = 4) ∧ s.stg 0 ≠ 6 ∧ s.draining = false ∧ (s.power.st = .hold ∨ (s.safe = true ∧ s.stg 0 ≠ 0)); ¬may))
    ∧ (let s : State := onState |> (·.wr F.WELL_STAT_HO 0 5) |> (·.wr F.HDR_STAT_STATE 0 1);
       s.on = true ∧ (let ho := s.rd F.WELL_STAT_HO 0; let ramped := s.stg 0 = 1 ∨ s.stg 0 = 2 ∨ s.stg 0 = 3; ho = 5 ∧ ramped ∧ s.seq.handover = false ∧ s.power.afterCutoff = none))
    ∧ (let s : State := onState;
       s.on = true ∧ (let ho := s.rd F.WELL_STAT_HO 0; let ramped := s.stg 0 = 1 ∨ s.stg 0 = 2 ∨ s.stg 0 = 3; (ho ≠ 5 ∨ ¬ramped)))
    ∧ (let s : State := onState |> (·.wr F.WELL_STAT_HO 0 6);
       s.on = true ∧ (let ho := s.rd F.WELL_STAT_HO 0; ho = 6))
    ∧ (let s : State := onState;
       s.on = true ∧ (let ho := s.rd F.WELL_STAT_HO 0; ho ≠ 6))
    ∧ (let s : State := onState |> (fun s => { s with power := { s.power with st := PState.hold } });
       s.on = true ∧ s.power.st = .hold ∧ s.power.afterCutoff = none)
    ∧ (let s : State := onState |> (fun s => { s with power := { s.power with st := PState.safe } });
       s.on = true ∧ s.safe = true ∧ s.anyFeed = false)
    ∧ (let s : State := onState;
       s.on = true ∧ (s.power.st = .run ∨ (s.power.st = .hold ∧ s.power.afterCutoff ≠ none) ∨ (s.power.st = .safe ∧ s.anyFeed = true))) := by
  and_intros <;> decide +kernel

/-- The hypotheses of each clause of `WellCommands`. -/
theorem test_meets_WellCommands :
    (let s : State := onState;
     let m : Master := Master.twoWire;
     s.on = true ∧ s.barred m = false ∧ s.rd F.EST_STAT_DRAW 0 ≤ 1)
    ∧ (let s : State := onState;
       let m : Master := Master.pcie;
       s.on = true ∧ s.barred m = false ∧ s.rd F.EST_STAT_DRAW 0 ≤ 1 ∧ (let hold := s.power.st = .hold; ¬hold))
    ∧ (let s : State := onState |> (fun s => { s with well := { s.well with leadPend := true } }) |> (fun s => { s with power := { s.power with st := PState.hold } });
       let m : Master := Master.pcie;
       s.on = true ∧ s.barred m = false ∧ s.rd F.EST_STAT_DRAW 0 ≤ 1 ∧ (let ho := s.rd F.WELL_STAT_HO 0; let busy := s.draining = true ∨ s.power.afterCutoff ≠ none ∨ ho = 1 ∨ ho = 2 ∨ ho = 5 ∨ s.well.leadPend = true; let hold := s.power.st = .hold; hold ∧ busy))
    ∧ (let s : State := onState |> (fun s => { s with power := { s.power with st := PState.hold } });
       let m : Master := Master.pcie;
       s.on = true ∧ s.barred m = false ∧ s.rd F.EST_STAT_DRAW 0 ≤ 1 ∧ (let ho := s.rd F.WELL_STAT_HO 0; let busy := s.draining = true ∨ s.power.afterCutoff ≠ none ∨ ho = 1 ∨ ho = 2 ∨ ho = 5 ∨ s.well.leadPend = true; let hold := s.power.st = .hold; hold ∧ ¬busy ∧ s.primed = 0 ∧ s.busyOp = false))
    ∧ (let s : State := onState |> (fun s => { s with well := { s.well with lend := true } }) |> (fun s => { s with power := { s.power with st := PState.hold } });
       let m : Master := Master.pcie;
       s.on = true ∧ s.barred m = false ∧ s.rd F.EST_STAT_DRAW 0 ≤ 1 ∧ (let hold := s.power.st = .hold; hold ∧ s.well.lend = true))
    ∧ (let s : State := onState |> setAct F.WELL_CFG_VREG 0 65535 |> (fun s => { s with power := { s.power with st := PState.hold } });
       let m : Master := Master.twoWire;
       s.on = true ∧ s.barred m = false ∧ s.rd F.EST_STAT_DRAW 0 ≤ 1 ∧ (let hold := s.power.st = .hold; let excess := ((holdSum (fun f i => s.cf f i)).add ⟨s.cf F.WELL_LEND_I_LEND 0 * 50 * (s.cf F.WELL_CFG_VREG 0 * 10), 1⟩).gt ⟨200000000, 1⟩; hold ∧ s.well.lend = false ∧ excess = true))
    ∧ (let s : State := onState |> (fun s => { s with power := { s.power with st := PState.hold } });
       let m : Master := Master.pcie;
       s.on = true ∧ s.barred m = false ∧ s.rd F.EST_STAT_DRAW 0 ≤ 1 ∧ (let hold := s.power.st = .hold; let excess := ((holdSum (fun f i => s.cf f i)).add ⟨s.cf F.WELL_LEND_I_LEND 0 * 50 * (s.cf F.WELL_CFG_VREG 0 * 10), 1⟩).gt ⟨200000000, 1⟩; hold ∧ s.well.lend = false ∧ excess = false))
    ∧ (let s : State := onState;
       let m : Master := Master.pcie;
       s.on = true ∧ s.barred m = false ∧ s.rd F.EST_STAT_DRAW 0 ≤ 1 ∧ s.well.lend = false)
    ∧ (let s : State := onState |> (fun s => { s with well := { s.well with lend := true } });
       let m : Master := Master.pcie;
       s.on = true ∧ s.barred m = false ∧ s.rd F.EST_STAT_DRAW 0 ≤ 1 ∧ s.well.lend = true)
    ∧ (let s : State := onState;
       let m : Master := Master.pcie;
       s.on = true ∧ s.barred m = false ∧ s.rd F.EST_STAT_DRAW 0 ≤ 1 ∧ s.rd F.WELL_CSTAT_CHG_FAULT 0 = 0)
    ∧ (let s : State := onState |> (·.wr F.WELL_CSTAT_CHG_FAULT 0 1);
       let m : Master := Master.pcie;
       s.on = true ∧ s.barred m = false ∧ s.rd F.EST_STAT_DRAW 0 ≤ 1 ∧ s.rd F.WELL_CSTAT_CHG_FAULT 0 = 1)
    ∧ (let s : State := onState |> (fun s => { s with power := { s.power with st := PState.hold } });
       let m : Master := Master.pcie;
       s.on = true ∧ s.barred m = false ∧ s.rd F.EST_STAT_DRAW 0 ≤ 1 ∧ (let hold := s.power.st = .hold; (hold ∨ s.chg = 8)))
    ∧ (let s : State := onState |> (·.wr F.WELL_STAT_CONV 0 1) |> (·.wr F.WELL_STAT_NO_PACK 0 0);
       let m : Master := Master.pcie;
       s.on = true ∧ s.barred m = false ∧ s.rd F.EST_STAT_DRAW 0 ≤ 1 ∧ s.power.st = .run ∧ s.chg ≠ 8 ∧ s.chgMay = true ∧ s.rd F.WELL_CSTAT_CHG_FAULT 0 = 0)
    ∧ (let s : State := onState |> (·.wr F.WELL_STAT_VALVE 0 1);
       let m : Master := Master.pcie;
       s.on = true ∧ s.barred m = false ∧ s.rd F.EST_STAT_DRAW 0 ≤ 1 ∧ s.rd F.WELL_STAT_VALVE 0 = 1 ∧ s.rd F.WELL_STAT_VALVE_FAULT 0 = 0)
    ∧ (let s : State := onState;
       let m : Master := Master.pcie;
       s.on = true ∧ s.barred m = false ∧ s.rd F.EST_STAT_DRAW 0 ≤ 1 ∧ (s.rd F.WELL_STAT_VALVE 0 = 0 ∨ s.rd F.WELL_STAT_VALVE_FAULT 0 = 1))
    ∧ (let s : State := onState |> (·.wr F.WELL_STAT_NO_PACK 0 0);
       let m : Master := Master.pcie;
       s.on = true ∧ s.barred m = false ∧ s.rd F.EST_STAT_DRAW 0 ≤ 1 ∧ s.pack = true)
    ∧ (let s : State := onState;
       let m : Master := Master.pcie;
       s.on = true ∧ s.barred m = false ∧ s.rd F.EST_STAT_DRAW 0 ≤ 1 ∧ s.pack = false) := by
  and_intros <;> decide +kernel

/-- The hypotheses of each clause of `ChargerPhases`. -/
theorem test_meets_ChargerPhases :
    (let s : State := onState |> (·.wr F.WELL_CSTAT_CHG 0 1);
     let v : Fin 32768 := 3;
     s.on = true ∧ (let n := s.cf F.WELL_PACK_CELLS 0; let pre := s.cf F.WELL_CHG_V_V_PRE 0 * 20 * n; s.chg = 1 ∧ v.val < pre))
    ∧ (let s : State := onState |> (·.wr F.WELL_CSTAT_CHG 0 1);
       let v : Fin 32768 := 10937;
       s.on = true ∧ (let n := s.cf F.WELL_PACK_CELLS 0; let full := s.cf F.WELL_CHG_V_V_CHG 0 * n - (if s.rd F.WELL_CSTAT_ZONE 0 = 3 then s.cf F.WELL_ADJ_WARM_DV 0 * 10 * n else 0); let again := full - s.cf F.WELL_CHG_V_RECHG 0 * 10 * n; let pre := s.cf F.WELL_CHG_V_V_PRE 0 * 20 * n; s.chg = 1 ∧ pre ≤ v.val ∧ v.val < again))
    ∧ (let s : State := onState |> (·.wr F.WELL_CSTAT_CHG 0 1);
       let v : Fin 32768 := 29863;
       s.on = true ∧ (let n := s.cf F.WELL_PACK_CELLS 0; let full := s.cf F.WELL_CHG_V_V_CHG 0 * n - (if s.rd F.WELL_CSTAT_ZONE 0 = 3 then s.cf F.WELL_ADJ_WARM_DV 0 * 10 * n else 0); let again := full - s.cf F.WELL_CHG_V_RECHG 0 * 10 * n; let pre := s.cf F.WELL_CHG_V_V_PRE 0 * 20 * n; s.chg = 1 ∧ pre ≤ v.val ∧ again ≤ v.val))
    ∧ (let s : State := onState |> (·.wr F.WELL_CSTAT_CHG 0 3);
       let v : Fin 32768 := 25498;
       s.on = true ∧ (let n := s.cf F.WELL_PACK_CELLS 0; let full := s.cf F.WELL_CHG_V_V_CHG 0 * n - (if s.rd F.WELL_CSTAT_ZONE 0 = 3 then s.cf F.WELL_ADJ_WARM_DV 0 * 10 * n else 0); s.chg = 3 ∧ full ≤ v.val))
    ∧ (let s : State := onState |> (·.wr F.WELL_CSTAT_CHG 0 3);
       let v : Fin 32768 := 3;
       s.on = true ∧ (let n := s.cf F.WELL_PACK_CELLS 0; let full := s.cf F.WELL_CHG_V_V_CHG 0 * n - (if s.rd F.WELL_CSTAT_ZONE 0 = 3 then s.cf F.WELL_ADJ_WARM_DV 0 * 10 * n else 0); s.chg = 3 ∧ v.val < full))
    ∧ (let s : State := onState |> (·.wr F.WELL_CSTAT_CHG 0 2);
       s.on = true ∧ s.chg = 2)
    ∧ (let s : State := onState |> (·.wr F.WELL_CSTAT_CHG 0 4);
       s.on = true ∧ s.chg = 4 ∧ s.cf F.WELL_CHG_T_T_TOPOFF 0 ≠ 0)
    ∧ (let s : State := onState |> (·.wr F.WELL_CSTAT_CHG 0 5);
       s.on = true ∧ s.chg = 5)
    ∧ (let s : State := onState |> setAct F.WELL_CHG_T_T_TOPOFF 0 0 |> (·.wr F.WELL_CSTAT_CHG 0 4);
       s.on = true ∧ s.chg = 4 ∧ s.cf F.WELL_CHG_T_T_TOPOFF 0 = 0)
    ∧ (let s : State := onState |> (·.wr F.WELL_CSTAT_CHG 0 6);
       s.on = true ∧ s.chg = 6)
    ∧ (let s : State := onState;
       s.on = true ∧ s.chg ≠ 2)
    ∧ (let s : State := onState;
       s.on = true ∧ s.chg ≠ 4)
    ∧ (let s : State := onState;
       s.on = true ∧ s.chg ≠ 5)
    ∧ (let s : State := onState;
       s.on = true ∧ s.chg ≠ 6)
    ∧ (let s : State := onState |> (·.wr F.WELL_CSTAT_CHG 0 2) |> setAct F.WELL_CHG_T_T_PRE 0 0;
       s.on = true ∧ (let limit := (if s.chg = 2 then s.cf F.WELL_CHG_T_T_PRE 0 * 60000000 else s.cf F.WELL_CHG_T_T_FAST 0 * 360000000); let spent := 2 * limit ≤ s.well.count ∨ 2 * limit ≤ s.well.wall; 2 ≤ s.chg ∧ s.chg ≤ 4 ∧ spent))
    ∧ (let s : State := onState;
       s.on = true ∧ (let limit := (if s.chg = 2 then s.cf F.WELL_CHG_T_T_PRE 0 * 60000000 else s.cf F.WELL_CHG_T_T_FAST 0 * 360000000); let spent := 2 * limit ≤ s.well.count ∨ 2 * limit ≤ s.well.wall; (¬(2 ≤ s.chg ∧ s.chg ≤ 4) ∨ ¬spent)))
    ∧ (let s : State := onState;
       let code : Fin 65536 := 2;
       s.on = true ∧ (let inRange := 2 * 65536 ≤ 100 * code.val ∧ 100 * code.val ≤ 98 * 65536; ¬inRange))
    ∧ (let s : State := onState;
       let code : Fin 65536 := 63471;
       s.on = true ∧ (let t := ntcTemp (s.cf F.WELL_NTC_NOM 0) (s.cf F.WELL_NTC_BETA 0) code.val; let edge := fun (f : Fld) => 8 * ofField 8 (s.cf f 0); let inRange := 2 * 65536 ≤ 100 * code.val ∧ 100 * code.val ≤ 98 * 65536; inRange ∧ edge F.WELL_ZONE_T1 ≤ edge F.WELL_ZONE_T2 ∧ edge F.WELL_ZONE_T2 ≤ edge F.WELL_ZONE_T3 ∧ edge F.WELL_ZONE_T3 ≤ edge F.WELL_ZONE_T4 ∧ t < edge F.WELL_ZONE_T1 - 16))
    ∧ (let s : State := onState;
       let code : Fin 65536 := 45441;
       s.on = true ∧ (let t := ntcTemp (s.cf F.WELL_NTC_NOM 0) (s.cf F.WELL_NTC_BETA 0) code.val; let edge := fun (f : Fld) => 8 * ofField 8 (s.cf f 0); let inRange := 2 * 65536 ≤ 100 * code.val ∧ 100 * code.val ≤ 98 * 65536; inRange ∧ edge F.WELL_ZONE_T1 ≤ edge F.WELL_ZONE_T2 ∧ edge F.WELL_ZONE_T2 ≤ edge F.WELL_ZONE_T3 ∧ edge F.WELL_ZONE_T3 ≤ edge F.WELL_ZONE_T4 ∧ edge F.WELL_ZONE_T1 + 16 ≤ t ∧ t < edge F.WELL_ZONE_T2 - 16))
    ∧ (let s : State := onState;
       let code : Fin 65536 := 24724;
       s.on = true ∧ (let t := ntcTemp (s.cf F.WELL_NTC_NOM 0) (s.cf F.WELL_NTC_BETA 0) code.val; let edge := fun (f : Fld) => 8 * ofField 8 (s.cf f 0); let inRange := 2 * 65536 ≤ 100 * code.val ∧ 100 * code.val ≤ 98 * 65536; inRange ∧ edge F.WELL_ZONE_T1 ≤ edge F.WELL_ZONE_T2 ∧ edge F.WELL_ZONE_T2 ≤ edge F.WELL_ZONE_T3 ∧ edge F.WELL_ZONE_T3 ≤ edge F.WELL_ZONE_T4 ∧ edge F.WELL_ZONE_T2 + 16 ≤ t ∧ t < edge F.WELL_ZONE_T3 - 16))
    ∧ (let s : State := onState;
       let code : Fin 65536 := 20298;
       s.on = true ∧ (let t := ntcTemp (s.cf F.WELL_NTC_NOM 0) (s.cf F.WELL_NTC_BETA 0) code.val; let edge := fun (f : Fld) => 8 * ofField 8 (s.cf f 0); let inRange := 2 * 65536 ≤ 100 * code.val ∧ 100 * code.val ≤ 98 * 65536; inRange ∧ edge F.WELL_ZONE_T1 ≤ edge F.WELL_ZONE_T2 ∧ edge F.WELL_ZONE_T2 ≤ edge F.WELL_ZONE_T3 ∧ edge F.WELL_ZONE_T3 ≤ edge F.WELL_ZONE_T4 ∧ edge F.WELL_ZONE_T3 + 16 ≤ t ∧ t < edge F.WELL_ZONE_T4 - 16))
    ∧ (let s : State := onState;
       let code : Fin 65536 := 3019;
       s.on = true ∧ (let t := ntcTemp (s.cf F.WELL_NTC_NOM 0) (s.cf F.WELL_NTC_BETA 0) code.val; let edge := fun (f : Fld) => 8 * ofField 8 (s.cf f 0); let inRange := 2 * 65536 ≤ 100 * code.val ∧ 100 * code.val ≤ 98 * 65536; inRange ∧ edge F.WELL_ZONE_T1 ≤ edge F.WELL_ZONE_T2 ∧ edge F.WELL_ZONE_T2 ≤ edge F.WELL_ZONE_T3 ∧ edge F.WELL_ZONE_T3 ≤ edge F.WELL_ZONE_T4 ∧ edge F.WELL_ZONE_T4 + 16 ≤ t))
    ∧ (let s : State := onState;
       let code : Fin 65536 := 24820;
       s.on = true ∧ (let z := s.zoneOf code.val; s.rd F.WELL_CSTAT_ZONE 0 = z))
    ∧ (let s : State := onState;
       let code : Fin 65536 := 3;
       s.on = true ∧ (let z := s.zoneOf code.val; s.rd F.WELL_CSTAT_ZONE 0 ≠ z))
    ∧ (let s : State := onState;
       let c : Fin 200 := 51;
       s.on = true ∧ c.val ≤ s.cf F.WELL_ADJ_T_FOLD 0)
    ∧ (let s : State := onState;
       let c : Fin 200 := 190;
       s.on = true ∧ s.cf F.WELL_ADJ_T_FOLD 0 < c.val) := by
  and_intros <;> decide +kernel

/-- The hypotheses of each clause of `EstimatorSamples`. -/
theorem test_meets_EstimatorSamples :
    (let s : State := onState;
     3 ≤ s.cf F.WELL_PACK_CELLS 0 ∧ s.rd F.EST_EFC_EFC 0 < 2 ^ 32 ∧ s.rd F.EST_STAT_CONFLICT 0 ≤ 1 ∧ s.on = true ∧ s.pack = false)
    ∧ (let s : State := onState |> (·.wr F.WELL_STAT_NO_PACK 0 0);
       3 ≤ s.cf F.WELL_PACK_CELLS 0 ∧ s.rd F.EST_EFC_EFC 0 < 2 ^ 32 ∧ s.rd F.EST_STAT_CONFLICT 0 ≤ 1 ∧ s.on = true ∧ s.pack = true)
    ∧ (let s : State := onState;
       3 ≤ s.cf F.WELL_PACK_CELLS 0 ∧ s.rd F.EST_EFC_EFC 0 < 2 ^ 32 ∧ s.rd F.EST_STAT_CONFLICT 0 ≤ 1 ∧ (s.power.off = false ∨ s.power.st ≠ .dormant ∨ s.pack = false))
    ∧ (let s : State := onState |> (fun s => { s with power := { s.power with st := PState.dormant } }) |> (fun s => { s with power := { s.power with off := true } }) |> (·.wr F.WELL_STAT_NO_PACK 0 0);
       3 ≤ s.cf F.WELL_PACK_CELLS 0 ∧ s.rd F.EST_EFC_EFC 0 < 2 ^ 32 ∧ s.rd F.EST_STAT_CONFLICT 0 ≤ 1 ∧ s.power.off = true ∧ s.power.st = .dormant ∧ s.pack = true)
    ∧ (let s : State := onState |> (·.wr F.WELL_STAT_NO_PACK 0 0) |> setAct F.WELL_PACK_CELLS 0 4 |> (fun s => { s with est := { last := some { vbat := 16000, cur := 0, temp := 0, dq := 0, slow := false, charged := false }, socV := 1000000 } });
       let l : EstReading := { vbat := 16000, cur := 0, temp := 0, dq := 0, slow := false, charged := false };
       let r : EstReading := { vbat := 16040, cur := 0, temp := 0, dq := 0, slow := false, charged := false };
       let d : Fin 4000 := 0;
       let t : Fin 6 := 1;
       let b : Fin 8 := 7;
       s.on = true ∧ s.pack = true ∧ s.cf F.WELL_PACK_CELLS 0 = 4 ∧ (let di : Int := 500 + d.val; let now : EstReading := { r with cur := l.cur + di, slow := false }; let soc := s.socOf ((((now.vbat * 10000 / 4 : Nat) : Int)) - now.cur * (s.impedance s.est.socV now.temp : Nat) / 15000000); let meas : Int := ((((now.vbat * 10000 / 4 : Nat) : Int)) - ((l.vbat * 10000 / 4 : Nat) : Int)) / di; let k := t.val * 8 + b.val; let old := s.rd F.EST_Z_Z k; let here := min 7 (soc / 125000) = b.val ∧ min 5 (max 0 ((r.temp + 220) / 120)) = (t.val : Int); let pair := s.est.last = some l ∧ s.rd F.EST_STAT_SLOW 0 = 0 ∧ soc < s.est.socV + 10000 ∧ s.est.socV < soc + 10000; pair ∧ here ∧ 1 ≤ meas ∧ meas ≤ 5000 ∧ (old : Int) ≤ 2 * meas ∧ meas ≤ 4 * (old : Int)))
    ∧ (let s : State := onState |> (·.wr F.WELL_STAT_NO_PACK 0 48);
       let r : EstReading := { vbat := 14020, cur := 2092724304, temp := 0, dq := 4, slow := false, charged := true };
       let l : EstReading := { vbat := 14077, cur := -7, temp := -7, dq := 10, slow := false, charged := false };
       let d : Fin 4000 := 0;
       let b : Fin 8 := 2;
       let t : Fin 6 := 0;
       s.on = true ∧ s.pack = true ∧ s.cf F.WELL_PACK_CELLS 0 = 4 ∧ (let di : Int := 500 + d.val; let now : EstReading := { r with cur := l.cur + di, slow := false }; let soc := s.socOf ((((now.vbat * 10000 / 4 : Nat) : Int)) - now.cur * (s.impedance s.est.socV now.temp : Nat) / 15000000); let meas : Int := ((((now.vbat * 10000 / 4 : Nat) : Int)) - ((l.vbat * 10000 / 4 : Nat) : Int)) / di; let k := t.val * 8 + b.val; let old := s.rd F.EST_Z_Z k; let here := min 7 (soc / 125000) = b.val ∧ min 5 (max 0 ((r.temp + 220) / 120)) = (t.val : Int); let pair := s.est.last = some l ∧ s.rd F.EST_STAT_SLOW 0 = 0 ∧ soc < s.est.socV + 10000 ∧ s.est.socV < soc + 10000; (¬pair ∨ ¬here ∨ meas < 1 ∨ 5000 < meas ∨ 2 * meas < old ∨ 4 * (old : Int) < meas) ∧ (s.est.last = some l ∨ s.est.last = none))) := by
  and_intros <;> decide +kernel

/-- The hypotheses of each clause of `LearningDraw`. -/
theorem test_meets_LearningDraw :
    (let s : State := onState;
     let m : Master := Master.pcie;
     s.on = true ∧ s.barred m = false ∧ s.rd F.EST_STAT_DRAW 0 ≤ 1 ∧ s.rd F.EST_STAT_CONFLICT 0 ≤ 1 ∧ (let ready := s.cf F.EST_CFG_LEARN_EN 0 = 1 ∧ s.power.st = .run ∧ s.anyStable = true ∧ s.rd F.EST_STAT_WINDOW 0 = 1; ¬ready))
    ∧ (let s : State := onState |> (·.wr F.EST_STAT_DRAW 0 1) |> (·.wr F.EST_STAT_WINDOW 0 1) |> (·.wr F.FEED_STAT_STABLE 0 1);
       let m : Master := Master.twoWire;
       s.on = true ∧ s.barred m = false ∧ s.rd F.EST_STAT_DRAW 0 ≤ 1 ∧ s.rd F.EST_STAT_CONFLICT 0 ≤ 1 ∧ (let draws := s.rd F.EST_STAT_DRAW 0 = 1; let ready := s.cf F.EST_CFG_LEARN_EN 0 = 1 ∧ s.power.st = .run ∧ s.anyStable = true ∧ s.rd F.EST_STAT_WINDOW 0 = 1; ready ∧ draws))
    ∧ (let s : State := onState |> (·.wr F.WELL_CSTAT_FOLD 0 1) |> (·.wr F.FEED_STAT_STABLE 0 3) |> (·.wr F.EST_STAT_WINDOW 0 1);
       let m : Master := Master.twoWire;
       s.on = true ∧ s.barred m = false ∧ s.rd F.EST_STAT_DRAW 0 ≤ 1 ∧ s.rd F.EST_STAT_CONFLICT 0 ≤ 1 ∧ (let draws := s.rd F.EST_STAT_DRAW 0 = 1; let ready := s.cf F.EST_CFG_LEARN_EN 0 = 1 ∧ s.power.st = .run ∧ s.anyStable = true ∧ s.rd F.EST_STAT_WINDOW 0 = 1; let cold := s.rd F.WELL_CSTAT_ZONE 0 = 0 ∨ s.rd F.WELL_CSTAT_ZONE 0 = 4 ∨ s.rd F.WELL_CSTAT_FOLD 0 = 1; ready ∧ ¬draws ∧ cold))
    ∧ (let s : State := onState |> (·.wr F.EST_STAT_WINDOW 0 1) |> (·.wr F.FEED_STAT_STABLE 0 1) |> setAct F.TW_CFG_EN 0 1 |> setAct F.TW_SLOT_RAIL 0 3 |> (·.wr F.TW_PARTNER_FLAGS 0 1);
       let m : Master := .pcie;
       s.on = true ∧ s.barred m = false ∧ s.rd F.EST_STAT_DRAW 0 ≤ 1 ∧ s.rd F.EST_STAT_CONFLICT 0 ≤ 1 ∧ (let draws := s.rd F.EST_STAT_DRAW 0 = 1; let ready := s.cf F.EST_CFG_LEARN_EN 0 = 1 ∧ s.power.st = .run ∧ s.anyStable = true ∧ s.rd F.EST_STAT_WINDOW 0 = 1; let cold := s.rd F.WELL_CSTAT_ZONE 0 = 0 ∨ s.rd F.WELL_CSTAT_ZONE 0 = 4 ∨ s.rd F.WELL_CSTAT_FOLD 0 = 1; ready ∧ ¬draws ∧ ¬cold ∧ s.partnerDraws = true))
    ∧ (let s : State := onState |> (·.wr F.EST_STAT_WINDOW 0 3) |> (·.wr F.FEED_STAT_STABLE 0 1);
       let m : Master := Master.pcie;
       s.on = true ∧ s.barred m = false ∧ s.rd F.EST_STAT_DRAW 0 ≤ 1 ∧ s.rd F.EST_STAT_CONFLICT 0 ≤ 1 ∧ (let draws := s.rd F.EST_STAT_DRAW 0 = 1; let ready := s.cf F.EST_CFG_LEARN_EN 0 = 1 ∧ s.power.st = .run ∧ s.anyStable = true ∧ s.rd F.EST_STAT_WINDOW 0 = 1; let cold := s.rd F.WELL_CSTAT_ZONE 0 = 0 ∨ s.rd F.WELL_CSTAT_ZONE 0 = 4 ∨ s.rd F.WELL_CSTAT_FOLD 0 = 1; ready ∧ ¬draws ∧ ¬cold ∧ s.partnerDraws = false))
    ∧ (let s : State := onState;
       let m : Master := Master.pcie;
       s.on = true ∧ s.barred m = false ∧ s.rd F.EST_STAT_DRAW 0 ≤ 1 ∧ s.rd F.EST_STAT_CONFLICT 0 ≤ 1 ∧ (let draws := s.rd F.EST_STAT_DRAW 0 = 1; ¬draws))
    ∧ (let s : State := onState |> (·.wr F.EST_STAT_DRAW 0 1);
       let m : Master := Master.pcie;
       s.on = true ∧ s.barred m = false ∧ s.rd F.EST_STAT_DRAW 0 ≤ 1 ∧ s.rd F.EST_STAT_CONFLICT 0 ≤ 1 ∧ (let draws := s.rd F.EST_STAT_DRAW 0 = 1; draws))
    ∧ (let s : State := onState |> (·.wr F.EST_STAT_DRAW 0 1) |> (fun s => { s with est := { s.est with qDraw := 500000 } });
       let m : Master := .pcie;
       s.on = true ∧ s.barred m = false ∧ s.rd F.EST_STAT_DRAW 0 ≤ 1 ∧ s.rd F.EST_STAT_CONFLICT 0 ≤ 1 ∧ (let draws := s.rd F.EST_STAT_DRAW 0 = 1; let q := s.est.qDraw; let c := s.rd F.EST_CAP_C_LEARN 0; let fits := 500000 ≤ q ∧ q ≤ 60000000 ∧ (c = 0 ∨ (7 * c * 10000 ≤ 10 * q ∧ 10 * q ≤ 13 * c * 10000)); draws ∧ fits))
    ∧ (let s : State := onState |> (·.wr F.EST_STAT_DRAW 0 3);
       let m : Master := Master.pcie;
       s.on = true ∧ s.barred m = false ∧ s.rd F.EST_STAT_DRAW 0 ≤ 1 ∧ s.rd F.EST_STAT_CONFLICT 0 ≤ 1 ∧ (let draws := s.rd F.EST_STAT_DRAW 0 = 1; let q := s.est.qDraw; let c := s.rd F.EST_CAP_C_LEARN 0; let fits := 500000 ≤ q ∧ q ≤ 60000000 ∧ (c = 0 ∨ (7 * c * 10000 ≤ 10 * q ∧ 10 * q ≤ 13 * c * 10000)); draws ∧ ¬fits))
    ∧ (let s : State := onState;
       let m : Master := Master.pcie;
       s.on = true ∧ s.barred m = false ∧ s.rd F.EST_STAT_DRAW 0 ≤ 1 ∧ s.rd F.EST_STAT_CONFLICT 0 ≤ 1 ∧ s.pack = false)
    ∧ (let s : State := onState |> (·.wr F.WELL_STAT_NO_PACK 0 2);
       let m : Master := Master.pcie;
       s.on = true ∧ s.barred m = false ∧ s.rd F.EST_STAT_DRAW 0 ≤ 1 ∧ s.rd F.EST_STAT_CONFLICT 0 ≤ 1 ∧ s.pack = true)
    ∧ (let s : State := onState;
       let m : Master := Master.pcie;
       s.on = true ∧ s.barred m = false ∧ s.rd F.EST_STAT_DRAW 0 ≤ 1 ∧ s.rd F.EST_STAT_CONFLICT 0 ≤ 1) := by
  and_intros <;> decide +kernel

/-- The hypotheses of each clause of `TwinStatesAndGates`. -/
theorem test_meets_TwinStatesAndGates :
    (let s : State := onState |> (·.wr F.TW_STAT_STATE 0 1);
     s.on = true ∧ s.closed < 256 ∧ (let st := s.twSt; st = 1))
    ∧ (let s : State := onState;
       s.on = true ∧ s.closed < 256 ∧ (let st := s.twSt; st ≠ 1))
    ∧ (let s : State := onState;
       s.on = true ∧ s.closed < 256 ∧ (let st := s.twSt; (st = 0 ∨ st = 1)))
    ∧ (let s : State := onState |> (·.wr F.TW_STAT_STATE 0 14);
       s.on = true ∧ s.closed < 256 ∧ (let st := s.twSt; 2 ≤ st))
    ∧ (let s : State := onState |> (·.wr F.TW_STAT_STATE 0 2);
       s.on = true ∧ s.closed < 256 ∧ (let st := s.twSt; (st = 2 ∨ st = 6)))
    ∧ (let s : State := onState;
       s.on = true ∧ s.closed < 256 ∧ (let st := s.twSt; st ≠ 2 ∧ st ≠ 6))
    ∧ (let s : State := onState;
       s.on = true ∧ s.closed < 256 ∧ (let hb := s.rd F.TW_STAT_HB 0 = 1; ¬hb))
    ∧ (let s : State := onState |> (·.wr F.TW_STAT_HB 0 1);
       s.on = true ∧ s.closed < 256 ∧ (let hb := s.rd F.TW_STAT_HB 0 = 1; hb))
    ∧ (let s : State := onState |> (·.wr F.TW_STAT_STATE 0 2);
       s.on = true ∧ s.closed < 256 ∧ (let st := s.twSt; let hb := s.rd F.TW_STAT_HB 0 = 1; st = 2 ∧ ¬hb))
    ∧ (let s : State := onState;
       s.on = true ∧ s.closed < 256 ∧ (let st := s.twSt; let hb := s.rd F.TW_STAT_HB 0 = 1; (st ≠ 2 ∨ hb)))
    ∧ (let s : State := onState;
       s.on = true ∧ s.closed < 256)
    ∧ (let s : State := onState |> setAct F.TW_CFG_EN 0 1 |> setAct F.TW_SLOT_RAIL 0 3 |> (·.wr F.SQ_RSTAT_STEP 3 3) |> setAct F.PE_CFG_MATE_REQ 0 0 |> (·.wr F.TW_STAT_STATE 0 4);
       let k : Fin 8 := 0;
       s.on = true ∧ s.closed < 256 ∧ (let st := s.twSt; let good := s.mayClose k.val = true ∧ s.stepOf (s.cf F.TW_SLOT_RAIL k.val) = 3; good ∧ st = 4))
    ∧ (let s : State := onState |> setAct F.TW_CFG_EN 0 1 |> setAct F.TW_SLOT_RAIL 0 3 |> (·.wr F.SQ_RSTAT_STEP 3 3) |> setAct F.PE_CFG_MATE_REQ 0 0 |> (·.wr F.TW_STAT_STATE 0 1);
       let k : Fin 8 := 0;
       s.on = true ∧ s.closed < 256 ∧ (let st := s.twSt; let good := s.mayClose k.val = true ∧ s.stepOf (s.cf F.TW_SLOT_RAIL k.val) = 3; good ∧ (st = 1 ∨ st = 2 ∨ st = 6)))
    ∧ (let s : State := onState;
       let k : Fin 8 := 3;
       s.on = true ∧ s.closed < 256 ∧ (let st := s.twSt; let good := s.mayClose k.val = true ∧ s.stepOf (s.cf F.TW_SLOT_RAIL k.val) = 3; (¬good ∨ st = 0 ∨ st = 3 ∨ st = 5 ∨ 7 ≤ st)))
    ∧ (let s : State := onState;
       let k : Fin 8 := 0;
       s.on = true ∧ s.closed < 256 ∧ bitOf s.twin.ramp k.val = false)
    ∧ (let s : State := onState |> (fun s => { s with twin := { s.twin with ramp := 3 } }) |> (·.wr F.TW_STAT_STATE 0 7);
       let k : Fin 8 := 0;
       s.on = true ∧ s.closed < 256 ∧ (let st := s.twSt; bitOf s.twin.ramp k.val = true ∧ st = 7))
    ∧ (let s : State := onState |> (·.wr F.TW_STAT_STATE 0 4) |> (fun s => { s with twin := { s.twin with ramp := 5 } });
       let k : Fin 8 := 2;
       s.on = true ∧ s.closed < 256 ∧ (let st := s.twSt; bitOf s.twin.ramp k.val = true ∧ st = 4))
    ∧ (let s : State := onState |> (·.wr F.TW_STAT_CLOSED 0 198) |> setAct F.TW_CFG_EN 0 3 |> setAct F.TW_SLOT_RAIL 2 7;
       let k : Fin 8 := 2;
       s.on = true ∧ s.closed < 256 ∧ usedSlot s.cf k.val = true ∧ bitOf s.closed k.val = true)
    ∧ (let s : State := onState;
       let k : Fin 8 := 3;
       s.on = true ∧ s.closed < 256 ∧ (usedSlot s.cf k.val = false ∨ bitOf s.closed k.val = false)) := by
  and_intros <;> decide +kernel

/-- The hypotheses of each clause of `TwinMessages`. -/
theorem test_meets_TwinMessages :
    (let s : State := onState;
     let m : Master := Master.pcie;
     s.on = true ∧ s.barred m = false ∧ (let st := s.twSt; let live := st = 5 ∧ s.safe = false; ¬live))
    ∧ (let s : State := onState |> (·.wr F.TW_STAT_STATE 0 5);
       let m : Master := Master.pcie;
       s.on = true ∧ s.barred m = false ∧ (let st := s.twSt; let pir := s.pMirror; let other := s.rd F.TW_PARTNER_STATE 0 = 5; let troubled := bitOf (s.rd F.TW_PARTNER_FLAGS 0) 4 = true ∨ bitOf (s.rd F.TW_PARTNER_FLAGS 0) 5 = true ∨ s.rd F.TW_PARTNER_PSTATE 0 = 4; let carried := ∀ k : Fin 8, usedSlot s.cf k.val = true → bitOf (mirAt pir 158 1) k.val = true; let live := st = 5 ∧ s.safe = false; live ∧ (¬other ∨ troubled ∨ ¬carried ∨ s.twin.acked = true)))
    ∧ (let s : State := onState |> (·.wr F.TW_STAT_STATE 0 5) |> (·.wr F.TW_PARTNER_STATE 0 5);
       let m : Master := .pcie;
       s.on = true ∧ s.barred m = false ∧ (let st := s.twSt; let pir := s.pMirror; let other := s.rd F.TW_PARTNER_STATE 0 = 5; let troubled := bitOf (s.rd F.TW_PARTNER_FLAGS 0) 4 = true ∨ bitOf (s.rd F.TW_PARTNER_FLAGS 0) 5 = true ∨ s.rd F.TW_PARTNER_PSTATE 0 = 4; let carried := ∀ k : Fin 8, usedSlot s.cf k.val = true → bitOf (mirAt pir 158 1) k.val = true; let live := st = 5 ∧ s.safe = false; let may := live ∧ other ∧ ¬troubled ∧ carried ∧ s.twin.acked = false; may ∧ s.twin.asked = false))
    ∧ (let s : State := onState |> (·.wr F.TW_STAT_STATE 0 5) |> (·.wr F.TW_PARTNER_STATE 0 5) |> (·.wr F.TW_STAT_EJECT 0 1);
       let m : Master := .pcie;
       s.on = true ∧ s.barred m = false ∧ (let st := s.twSt; let pir := s.pMirror; let other := s.rd F.TW_PARTNER_STATE 0 = 5; let troubled := bitOf (s.rd F.TW_PARTNER_FLAGS 0) 4 = true ∨ bitOf (s.rd F.TW_PARTNER_FLAGS 0) 5 = true ∨ s.rd F.TW_PARTNER_PSTATE 0 = 4; let carried := ∀ k : Fin 8, usedSlot s.cf k.val = true → bitOf (mirAt pir 158 1) k.val = true; let live := st = 5 ∧ s.safe = false; let may := live ∧ other ∧ ¬troubled ∧ carried ∧ s.twin.acked = false; may ∧ s.twin.asked = false ∧ s.rd F.TW_STAT_EJECT 0 = 1))
    ∧ (let s : State := onState;
       let m : Master := Master.pcie;
       s.on = true ∧ s.barred m = false ∧ s.rd F.TW_STAT_EJECT 0 = 0)
    ∧ (let s : State := onState |> (·.wr F.TW_STAT_EJECT 0 1);
       let m : Master := Master.pcie;
       s.on = true ∧ s.barred m = false ∧ (let st := s.twSt; let live := st = 5 ∧ s.safe = false; ¬live ∧ s.rd F.TW_STAT_EJECT 0 = 1))
    ∧ (let s : State := onState;
       let m : Master := Master.pcie;
       s.on = true ∧ s.barred m = false ∧ (let st := s.twSt; st ≠ 3))
    ∧ (let s : State := onState |> (·.wr F.TW_STAT_STATE 0 3);
       let m : Master := Master.pcie;
       s.on = true ∧ s.barred m = false ∧ (let st := s.twSt; st = 3))
    ∧ (let s : State := onState;
       let m : Master := Master.pcie;
       s.on = true ∧ s.barred m = false ∧ (let st := s.twSt; let hb := s.rd F.TW_STAT_HB 0 = 1; (¬(st = 8 ∨ st = 9) ∨ ¬hb)))
    ∧ (let s : State := onState |> (·.wr F.TW_STAT_HB 0 1) |> (·.wr F.TW_STAT_STATE 0 8);
       let m : Master := Master.twoWire;
       s.on = true ∧ s.barred m = false ∧ (let st := s.twSt; let hb := s.rd F.TW_STAT_HB 0 = 1; (st = 8 ∨ st = 9) ∧ hb))
    ∧ (let s : State := onState;
       let m : Master := Master.pcie;
       s.on = true ∧ s.barred m = false ∧ (let hb := s.rd F.TW_STAT_HB 0 = 1; ¬hb))
    ∧ (let s : State := onState |> (·.wr F.TW_STAT_HB 0 1);
       let m : Master := Master.pcie;
       s.on = true ∧ s.barred m = false ∧ (let st := s.twSt; let hb := s.rd F.TW_STAT_HB 0 = 1; hb ∧ st ≠ 5))
    ∧ (let s : State := onState |> (·.wr F.TW_STAT_HB 0 1) |> (·.wr F.SEQ_STAT_LATCHED 0 1) |> (·.wr F.TW_STAT_STATE 0 5);
       let m : Master := Master.pcie;
       s.on = true ∧ s.barred m = false ∧ (let st := s.twSt; let hb := s.rd F.TW_STAT_HB 0 = 1; hb ∧ st = 5 ∧ (s.safe = true ∨ s.rd F.SEQ_STAT_LATCHED 0 = 1)))
    ∧ (let s : State := onState |> setAct F.TW_SLOT_RAIL 0 2 |> setAct F.TW_CFG_EN 0 1 |> (·.wr F.TW_STAT_HB 0 1) |> (·.wr F.TW_STAT_STATE 0 5);
       let m : Master := Master.twoWire;
       s.on = true ∧ s.barred m = false ∧ (let st := s.twSt; let hb := s.rd F.TW_STAT_HB 0 = 1; let carries := ∀ k : Fin 8, usedSlot s.cf k.val = true → s.carries k.val = true; let live := st = 5 ∧ s.safe = false; hb ∧ live ∧ s.rd F.SEQ_STAT_LATCHED 0 = 0 ∧ ¬carries))
    ∧ (let s : State := onState |> (fun s => { s with twin := { s.twin with asked := true } }) |> (·.wr F.TW_STAT_HB 0 1) |> (·.wr F.TW_STAT_STATE 0 5);
       let m : Master := Master.pcie;
       s.on = true ∧ s.barred m = false ∧ (let st := s.twSt; let hb := s.rd F.TW_STAT_HB 0 = 1; let isB := s.rd F.TW_STAT_ROLE 0 = 1; let carries := ∀ k : Fin 8, usedSlot s.cf k.val = true → s.carries k.val = true; let live := st = 5 ∧ s.safe = false; hb ∧ live ∧ s.rd F.SEQ_STAT_LATCHED 0 = 0 ∧ carries ∧ ¬isB ∧ s.twin.asked = true))
    ∧ (let s : State := onState |> (·.wr F.TW_STAT_HB 0 1) |> (·.wr F.TW_STAT_STATE 0 5);
       let m : Master := Master.pcie;
       s.on = true ∧ s.barred m = false ∧ (let st := s.twSt; let hb := s.rd F.TW_STAT_HB 0 = 1; let isB := s.rd F.TW_STAT_ROLE 0 = 1; let carries := ∀ k : Fin 8, usedSlot s.cf k.val = true → s.carries k.val = true; let live := st = 5 ∧ s.safe = false; hb ∧ live ∧ s.rd F.SEQ_STAT_LATCHED 0 = 0 ∧ carries ∧ (isB ∨ s.twin.asked = false)))
    ∧ (let s : State := onState |> (·.wr F.TW_STAT_STATE 0 5) |> (fun s => { s with twin := { s.twin with asked := true } });
       let m : Master := Master.pcie;
       s.on = true ∧ s.barred m = false ∧ (let st := s.twSt; s.twin.asked = true ∧ st = 5))
    ∧ (let s : State := onState;
       let m : Master := Master.pcie;
       s.on = true ∧ s.barred m = false ∧ (let st := s.twSt; (s.twin.asked = false ∨ st ≠ 5)))
    ∧ (let s : State := onState |> (fun s => { s with twin := { s.twin with asked := true } });
       let m : Master := Master.pcie;
       s.on = true ∧ s.barred m = false ∧ s.twin.asked = true)
    ∧ (let s : State := onState;
       let m : Master := Master.pcie;
       s.on = true ∧ s.barred m = false ∧ s.twin.asked = false)
    ∧ (let s : State := onState;
       let m : Master := Master.pcie;
       s.on = true ∧ s.barred m = false ∧ s.twin.boundary = none)
    ∧ (let s : State := onState |> (fun s => { s with twin := { s.twin with boundary := (some 1) } });
       let m : Master := Master.pcie;
       let ahead : Fin 1000 := 1;
       s.on = true ∧ s.barred m = false ∧ 1 ≤ ahead.val ∧ s.twin.boundary = some ((s.strokes + ahead.val) % 2 ^ 32))
    ∧ (let s : State := onState |> (fun s => { s with twin := { s.twin with boundary := (some 0) } });
       let m : Master := Master.pcie;
       s.on = true ∧ s.barred m = false ∧ s.twin.boundary = some (s.strokes % 2 ^ 32))
    ∧ (let s : State := onState |> (·.wr F.TW_STAT_HB 0 1);
       let m : Master := Master.pcie;
       s.on = true ∧ s.barred m = false ∧ (let hb := s.rd F.TW_STAT_HB 0 = 1; hb ∧ (s.power.st ≠ .hold ∨ s.well.lend = true)))
    ∧ (let s : State := onState |> (·.wr F.TW_STAT_HB 0 1) |> (fun s => { s with well := { s.well with lend := true } });
       let m : Master := Master.pcie;
       s.on = true ∧ s.barred m = false ∧ (let hb := s.rd F.TW_STAT_HB 0 = 1; hb ∧ s.well.lend = true))
    ∧ (let s : State := onState |> (·.wr F.TW_STAT_HB 0 1) |> (fun s => { s with power := { s.power with st := PState.hold } });
       let m : Master := Master.pcie;
       s.on = true ∧ s.barred m = false ∧ (let hb := s.rd F.TW_STAT_HB 0 = 1; hb ∧ s.power.st = .hold ∧ s.well.lend = false))
    ∧ (let s : State := onState;
       let m : Master := Master.pcie;
       s.on = true ∧ s.barred m = false ∧ (let hb := s.rd F.TW_STAT_HB 0 = 1; let auto := s.cf F.TW_CFG_AUTO_LEND 0 = 1 ∧ s.cf F.TW_CFG_EN 0 = 1 ∧ s.rd F.TW_STAT_PRESENT 0 = 1 ∧ ¬hb ∧ s.power.st = .hold ∧ s.well.lend = false; ¬auto))
    ∧ (let s : State := onState |> (·.wr F.TW_STAT_PRESENT 0 1) |> (fun s => { s with power := { s.power with st := PState.hold } }) |> setAct F.TW_CFG_EN 0 1;
       let m : Master := Master.pcie;
       s.on = true ∧ s.barred m = false ∧ (let hb := s.rd F.TW_STAT_HB 0 = 1; let auto := s.cf F.TW_CFG_AUTO_LEND 0 = 1 ∧ s.cf F.TW_CFG_EN 0 = 1 ∧ s.rd F.TW_STAT_PRESENT 0 = 1 ∧ ¬hb ∧ s.power.st = .hold ∧ s.well.lend = false; auto)) := by
  and_intros <;> decide +kernel

/-- The hypotheses of each clause of `FramesAndMirrors`. -/
theorem test_meets_FramesAndMirrors :
    (let s : State := onState |> (fun s => { s with twin := { s.twin with pass := List.replicate 200 0 } });
     let p : State := s;
     let k : Fin 8 := 0;
     s.on = true ∧ p.twSt < 16 ∧ p.closed < 256 ∧ p.rd F.TW_I_OWN k.val < 65536 ∧ p.rd F.TW_STAT_ROLE 0 ≤ 1 ∧ p.rd F.TW_STAT_TIME_REF 0 ≤ 1 ∧ p.rd F.PE_STAT_MATE 0 ≤ 1 ∧ p.twin.pass.length = 200)
    ∧ (let s : State := onState |> (fun s => { s with twin := { s.twin with pass := List.replicate 200 0 } });
       let p : State := s;
       let k : Fin 8 := 0;
       let f : List Byte := [];
       s.on = true ∧ p.twSt < 16 ∧ p.closed < 256 ∧ p.rd F.TW_I_OWN k.val < 65536 ∧ p.rd F.TW_STAT_ROLE 0 ≤ 1 ∧ p.rd F.TW_STAT_TIME_REF 0 ≤ 1 ∧ p.rd F.PE_STAT_MATE 0 ≤ 1 ∧ p.twin.pass.length = 200 ∧ (f.length ≠ 39 ∨ mirAt f 35 4 ≠ crc32c (f.take 35)))
    ∧ (let s : State := onState |> (fun s => { s with twin := { s.twin with pass := List.replicate 200 0 } });
       let p : State := s;
       let k : Fin 8 := 0;
       s.on = true ∧ p.twSt < 16 ∧ p.closed < 256 ∧ p.rd F.TW_I_OWN k.val < 65536 ∧ p.rd F.TW_STAT_ROLE 0 ≤ 1 ∧ p.rd F.TW_STAT_TIME_REF 0 ≤ 1 ∧ p.rd F.PE_STAT_MATE 0 ≤ 1 ∧ p.twin.pass.length = 200 ∧ p.twSt = 0)
    ∧ (let s : State := onState |> (fun s => { s with twin := { s.twin with pass := List.replicate 200 0 } }) |> (·.wr F.TW_STAT_STATE 0 5);
       let p : State := s;
       let k : Fin 8 := 0;
       s.on = true ∧ p.twSt < 16 ∧ p.closed < 256 ∧ p.rd F.TW_I_OWN k.val < 65536 ∧ p.rd F.TW_STAT_ROLE 0 ≤ 1 ∧ p.rd F.TW_STAT_TIME_REF 0 ≤ 1 ∧ p.rd F.PE_STAT_MATE 0 ≤ 1 ∧ p.twin.pass.length = 200 ∧ p.twSt ≠ 0)
    ∧ (let s : State := onState |> (fun s => { s with twin := { s.twin with pass := List.replicate 200 0 } }) |> (·.wr F.TW_STAT_STATE 0 5);
       let p : State := s;
       let k : Fin 8 := 0;
       s.on = true ∧ p.twSt < 16 ∧ p.closed < 256 ∧ p.rd F.TW_I_OWN k.val < 65536 ∧ p.rd F.TW_STAT_ROLE 0 ≤ 1 ∧ p.rd F.TW_STAT_TIME_REF 0 ≤ 1 ∧ p.rd F.PE_STAT_MATE 0 ≤ 1 ∧ p.twin.pass.length = 200 ∧ p.twSt ≠ 0 ∧ p.twin.txChunk = 0)
    ∧ (let s : State := onState |> (fun s => { s with twin := { s.twin with pass := List.replicate 200 0 } }) |> (·.wr F.TW_STAT_STATE 0 5) |> (fun s => { s with twin := { s.twin with msgs := [(2, 0, 3)] } });
       let p : State := s;
       let k : Fin 8 := 0;
       s.on = true ∧ p.twSt < 16 ∧ p.closed < 256 ∧ p.rd F.TW_I_OWN k.val < 65536 ∧ p.rd F.TW_STAT_ROLE 0 ≤ 1 ∧ p.rd F.TW_STAT_TIME_REF 0 ≤ 1 ∧ p.rd F.PE_STAT_MATE 0 ≤ 1 ∧ p.twin.pass.length = 200 ∧ (let news := p.twin.msgs.filter (fun x => x.1 != 1 || p.twin.asked); p.twSt ≠ 0 ∧ ((match news.head? with | some (_, _, _) => decide (True) | _ => false) = true)))
    ∧ (let s : State := onState |> (fun s => { s with twin := { s.twin with pass := List.replicate 200 0 } }) |> (·.wr F.TW_STAT_STATE 0 5) |> (fun s => { s with twin := { s.twin with asked := true } }) |> (fun s => { s with twin := { s.twin with msgs := [(1, 0, 1)] } });
       let p : State := s;
       let k : Fin 8 := 0;
       s.on = true ∧ p.twSt < 16 ∧ p.closed < 256 ∧ p.rd F.TW_I_OWN k.val < 65536 ∧ p.rd F.TW_STAT_ROLE 0 ≤ 1 ∧ p.rd F.TW_STAT_TIME_REF 0 ≤ 1 ∧ p.rd F.PE_STAT_MATE 0 ≤ 1 ∧ p.twin.pass.length = 200 ∧ (let news := p.twin.msgs.filter (fun x => x.1 != 1 || p.twin.asked); p.twSt ≠ 0 ∧ ((match news.head? with | some (c, _, n) => decide (c = 1 ∧ n ≤ 1) | _ => false) = true)))
    ∧ (let s : State := onState |> (fun s => { s with twin := { s.twin with pass := List.replicate 200 0 } });
       let p : State := s;
       let k : Fin 8 := 0;
       s.on = true ∧ p.twSt < 16 ∧ p.closed < 256 ∧ p.rd F.TW_I_OWN k.val < 65536 ∧ p.rd F.TW_STAT_ROLE 0 ≤ 1 ∧ p.rd F.TW_STAT_TIME_REF 0 ≤ 1 ∧ p.rd F.PE_STAT_MATE 0 ≤ 1 ∧ p.twin.pass.length = 200 ∧ (let m := (List.range 40).flatMap (fun i => s.twin.chunks.at i); let whole := s.rd F.TW_STAT_HB 0 = 1 ∧ m.length = 200 ∧ mirAt m 196 4 = crc32c (m.take 196); ¬whole))
    ∧ (let s : State := onState |> (fun s => { s with twin := { s.twin with pass := List.replicate 200 0 } }) |> (·.wr F.TW_STAT_HB 0 1) |> (fun s => { s with twin := { s.twin with chunks := ⟨(List.range 40).map fun i => (i, if i = 39 then 0 :: bytes 4 (crc32c (List.replicate 196 0)) else List.replicate 5 0)⟩ } });
       let p : State := s;
       let k : Fin 8 := 0;
       s.on = true ∧ p.twSt < 16 ∧ p.closed < 256 ∧ p.rd F.TW_I_OWN k.val < 65536 ∧ p.rd F.TW_STAT_ROLE 0 ≤ 1 ∧ p.rd F.TW_STAT_TIME_REF 0 ≤ 1 ∧ p.rd F.PE_STAT_MATE 0 ≤ 1 ∧ p.twin.pass.length = 200 ∧ (let m := (List.range 40).flatMap (fun i => s.twin.chunks.at i); let whole := s.rd F.TW_STAT_HB 0 = 1 ∧ m.length = 200 ∧ mirAt m 196 4 = crc32c (m.take 196); whole)) := by
  and_intros <;> decide +kernel

/-- The hypotheses of each clause of `RingsAndLink`. -/
theorem test_meets_RingsAndLink :
    (let s : State := onState |> (·.wr F.RG_STAT_STATE 3 1);
     let c : Fin 8 := 3;
     let q : Fin 16 := 10;
     let w : Word := 0x00000000#32;
     let be : BitVec 4 := 0xf#4;
     s.on = true ∧ s.rd F.RG_CFG_DEPTH_LOG2 c.val ≤ 12 ∧ s.rd F.RG_CFG_DEPTH_LOG2 (8 + q.val) ≤ 12 ∧ (let size := fun (r : Nat) => 2 ^ s.rd F.RG_CFG_DEPTH_LOG2 r; let dist := fun (r a b : Nat) => (b + 2 * size r - a) % (2 * size r); let val := w.toNat; let r := 8 + q.val; let fits := fun (r : Nat) => val < 8192 ∧ be = 15 ∧ s.ringSt r = 1 ∧ val < 2 * size r; let dev := s.devPos c.val; let cmdOk := fits c.val ∧ dist c.val dev (s.hostPos c.val) ≤ dist c.val dev val ∧ dist c.val dev val ≤ size c.val; cmdOk))
    ∧ (let s : State := onState;
       let c : Fin 8 := 2;
       let q : Fin 16 := 0;
       let w : Word := 0x00000001#32;
       let be : BitVec 4 := 0x0#4;
       s.on = true ∧ s.rd F.RG_CFG_DEPTH_LOG2 c.val ≤ 12 ∧ s.rd F.RG_CFG_DEPTH_LOG2 (8 + q.val) ≤ 12 ∧ (let size := fun (r : Nat) => 2 ^ s.rd F.RG_CFG_DEPTH_LOG2 r; let dist := fun (r a b : Nat) => (b + 2 * size r - a) % (2 * size r); let val := w.toNat; let r := 8 + q.val; let fits := fun (r : Nat) => val < 8192 ∧ be = 15 ∧ s.ringSt r = 1 ∧ val < 2 * size r; let dev := s.devPos c.val; let cmdOk := fits c.val ∧ dist c.val dev (s.hostPos c.val) ≤ dist c.val dev val ∧ dist c.val dev val ≤ size c.val; ¬cmdOk))
    ∧ (let s : State := onState |> (·.wr F.RG_STAT_STATE 8 1);
       let c : Fin 8 := 0;
       let q : Fin 16 := 0;
       let w : Word := 0;
       let be : BitVec 4 := 15;
       s.on = true ∧ s.rd F.RG_CFG_DEPTH_LOG2 c.val ≤ 12 ∧ s.rd F.RG_CFG_DEPTH_LOG2 (8 + q.val) ≤ 12 ∧ (let size := fun (r : Nat) => 2 ^ s.rd F.RG_CFG_DEPTH_LOG2 r; let dist := fun (r a b : Nat) => (b + 2 * size r - a) % (2 * size r); let val := w.toNat; let r := 8 + q.val; let fits := fun (r : Nat) => val < 8192 ∧ be = 15 ∧ s.ringSt r = 1 ∧ val < 2 * size r; let recOk := fits r ∧ dist r (s.hostPos r) val ≤ dist r (s.hostPos r) (s.devPos r); recOk))
    ∧ (let s : State := onState;
       let c : Fin 8 := 3;
       let q : Fin 16 := 0;
       let w : Word := 0x18000000#32;
       let be : BitVec 4 := 0xd#4;
       s.on = true ∧ s.rd F.RG_CFG_DEPTH_LOG2 c.val ≤ 12 ∧ s.rd F.RG_CFG_DEPTH_LOG2 (8 + q.val) ≤ 12 ∧ (let size := fun (r : Nat) => 2 ^ s.rd F.RG_CFG_DEPTH_LOG2 r; let dist := fun (r a b : Nat) => (b + 2 * size r - a) % (2 * size r); let val := w.toNat; let r := 8 + q.val; let fits := fun (r : Nat) => val < 8192 ∧ be = 15 ∧ s.ringSt r = 1 ∧ val < 2 * size r; let recOk := fits r ∧ dist r (s.hostPos r) val ≤ dist r (s.hostPos r) (s.devPos r); ¬recOk))
    ∧ (let s : State := onState;
       let c : Fin 8 := 7;
       let q : Fin 16 := 3;
       s.on = true ∧ s.rd F.RG_CFG_DEPTH_LOG2 c.val ≤ 12 ∧ s.rd F.RG_CFG_DEPTH_LOG2 (8 + q.val) ≤ 12 ∧ bitOf s.pert.delayed c.val = false)
    ∧ (let s : State := onState |> (fun s => { s with pert := { s.pert with delayed := 2 } });
       let c : Fin 8 := 1;
       let q : Fin 16 := 0;
       s.on = true ∧ s.rd F.RG_CFG_DEPTH_LOG2 c.val ≤ 12 ∧ s.rd F.RG_CFG_DEPTH_LOG2 (8 + q.val) ≤ 12 ∧ bitOf s.pert.delayed c.val = true)
    ∧ (let s : State := onState;
       let m : Master := Master.pcie;
       let n : BitVec 5 := 0x1f#5;
       s.on = true ∧ s.barred m = false ∧ (let r := n.toNat; 24 ≤ r))
    ∧ (let s : State := onState;
       let m : Master := Master.pcie;
       let n : BitVec 5 := 0x02#5;
       s.on = true ∧ s.barred m = false ∧ (let r := n.toNat; let st := s.ringSt r; let bme := s.rd F.HR_STAT_BME 0 = 1; r < 24 ∧ (st ≠ 0 ∨ ¬bme)))
    ∧ (let s : State := onState |> (·.wr F.HR_STAT_BME 0 1);
       let m : Master := Master.pcie;
       let n : BitVec 5 := 0x04#5;
       s.on = true ∧ s.barred m = false ∧ (let r := n.toNat; let st := s.ringSt r; let base := s.rd F.RG_BASE_LO_BASE r ≠ 0 ∨ s.rd F.RG_BASE_HI_BASE_HI r ≠ 0; let bme := s.rd F.HR_STAT_BME 0 = 1; r < 24 ∧ st = 0 ∧ bme ∧ ¬base))
    ∧ (let s : State := onState |> (·.wr F.HR_STAT_BME 0 1) |> (·.wr F.RG_BASE_LO_BASE 8 1) |> setAct F.RG_DECL_RATE 8 1000000;
       let m : Master := .pcie;
       let n : Byte := 8;
       s.on = true ∧ s.barred m = false ∧ (let r := n.toNat; let st := s.ringSt r; let shallow := 8 ≤ r ∧ tooShallow (2 ^ s.rd F.RG_CFG_DEPTH_LOG2 r) (s.cf F.RG_DECL_RATE r) (s.cf F.RG_SVC_SVC r) = true; let base := s.rd F.RG_BASE_LO_BASE r ≠ 0 ∨ s.rd F.RG_BASE_HI_BASE_HI r ≠ 0; let bme := s.rd F.HR_STAT_BME 0 = 1; r < 24 ∧ st = 0 ∧ bme ∧ base ∧ shallow))
    ∧ (let s : State := onState |> (·.wr F.HR_STAT_BME 0 9) |> (·.wr F.RG_BASE_LO_BASE 1 1);
       let m : Master := Master.twoWire;
       let n : BitVec 5 := 0x01#5;
       s.on = true ∧ s.barred m = false ∧ (let r := n.toNat; let st := s.ringSt r; let shallow := 8 ≤ r ∧ tooShallow (2 ^ s.rd F.RG_CFG_DEPTH_LOG2 r) (s.cf F.RG_DECL_RATE r) (s.cf F.RG_SVC_SVC r) = true; let base := s.rd F.RG_BASE_LO_BASE r ≠ 0 ∨ s.rd F.RG_BASE_HI_BASE_HI r ≠ 0; let bme := s.rd F.HR_STAT_BME 0 = 1; r < 24 ∧ st = 0 ∧ bme ∧ base ∧ ¬shallow))
    ∧ (let s : State := onState;
       let m : Master := Master.twoWire;
       let n : BitVec 5 := 0x03#5;
       s.on = true ∧ s.barred m = false ∧ (let r := n.toNat; let st := s.ringSt r; r < 24 ∧ st = 0))
    ∧ (let s : State := onState |> (·.wr F.RG_STAT_STATE 0 3);
       let m : Master := Master.pcie;
       let n : BitVec 5 := 0x00#5;
       s.on = true ∧ s.barred m = false ∧ (let r := n.toNat; let st := s.ringSt r; r < 24 ∧ st ≠ 0))
    ∧ (let s : State := onState;
       let m : Master := Master.pcie;
       let c : Fin 8 := 7;
       s.on = true ∧ s.barred m = false ∧ s.ring.reading.at c.val = 0)
    ∧ (let s : State := onState |> (fun s => { s with ring := { s.ring with reading := (s.ring.reading.put 0 2) } }) |> (·.wr F.RG_STAT_STATE 0 1);
       let m : Master := Master.pcie;
       let c : Fin 8 := 0;
       s.on = true ∧ s.barred m = false ∧ s.ring.reading.at c.val ≠ 0 ∧ s.ringSt c.val = 1)
    ∧ (let s : State := onState;
       let m : Master := Master.pcie;
       s.on = true ∧ s.barred m = false)
    ∧ (let s : State := onState;
       let m : Master := Master.pcie;
       let x : LinkCfg := { gen2 := false, bme := true, mps := 5, mrrs := 1 };
       s.on = true ∧ s.barred m = false ∧ bitOf (s.rd F.UNIT_STAT_ISLAND_OK 0) 8 = true ∧ x.mps < 8 ∧ x.mrrs < 8)
    ∧ (let s : State := onState |> (·.wr F.UNIT_STAT_ISLAND_OK 0 201);
       let m : Master := Master.pcie;
       s.on = true ∧ s.barred m = false ∧ bitOf (s.rd F.UNIT_STAT_ISLAND_OK 0) 8 = false)
    ∧ (let s : State := onState |> (·.wr F.HR_STAT_LINK 0 2);
       let m : Master := Master.pcie;
       s.on = true ∧ s.barred m = false ∧ (let up := s.rd F.HR_STAT_LINK 0 = 2; up))
    ∧ (let s : State := onState;
       let m : Master := Master.pcie;
       s.on = true ∧ s.barred m = false ∧ (let up := s.rd F.HR_STAT_LINK 0 = 2; ¬up))
    ∧ (let s : State := onState |> (·.wr F.HR_STAT_D3HOT 0 7);
       let m : Master := Master.pcie;
       s.on = true ∧ s.barred m = false ∧ s.rd F.HR_STAT_D3HOT 0 = 1) := by
  and_intros <;> decide +kernel

/-- The hypotheses of each clause of `RecordsWritten`. -/
theorem test_meets_RecordsWritten :
    (let s : State := onState;
     s.on = true ∧ s.ring.vecOpen < 2 ^ 32 ∧ s.ring.vecPend < 2 ^ 32)
    ∧ (let s : State := onState;
       let off : BitVec 12 := 0x002#12;
       s.on = true ∧ s.ring.vecOpen < 2 ^ 32 ∧ s.ring.vecPend < 2 ^ 32 ∧ (off.toNat < 0x800 ∨ 0xA00 ≤ off.toNat))
    ∧ (let s : State := onState;
       let off : BitVec 12 := 0xfff#12;
       s.on = true ∧ s.ring.vecOpen < 2 ^ 32 ∧ s.ring.vecPend < 2 ^ 32 ∧ ((0x180 ≤ off.toNat ∧ off.toNat < 0x800) ∨ (0xA00 ≤ off.toNat ∧ off.toNat / 4 ≠ 0x300)))
    ∧ (let s : State := onState |> (·.wr F.RG_STAT_STATE 8 1) |> (·.wr F.HR_STAT_LINK 0 2) |> (·.wr F.HR_STAT_BME 0 1) |> (fun s => { s with ring := { s.ring with queue := s.ring.queue.put 8 [{ typ := 1, lock := 0, src := 0, seq := 0, time := 0, pay := [] }] } });
       let q : Fin 16 := 0;
       s.on = true ∧ s.rd F.RG_CFG_DEPTH_LOG2 (8 + q.val) ≤ 12 ∧ (let r := 8 + q.val; let size := 2 ^ s.rd F.RG_CFG_DEPTH_LOG2 r; let dev := s.devPos r; let waits := s.ring.queue.at r; let free := size - (dev + 2 * size - s.hostPos r) % (2 * size); let n := min (min waits.length free) (min (size - dev % size) (2 ^ (2 + min 1 (s.rd F.HR_STAT_MPS 0)))); let goes := s.ringSt r = 1 ∧ s.linkRuns = true ∧ s.heldBack q.val = false ∧ n ≠ 0; goes))
    ∧ (let s : State := onState;
       let q : Fin 16 := 2;
       s.on = true ∧ s.rd F.RG_CFG_DEPTH_LOG2 (8 + q.val) ≤ 12 ∧ (let r := 8 + q.val; let size := 2 ^ s.rd F.RG_CFG_DEPTH_LOG2 r; let dev := s.devPos r; let waits := s.ring.queue.at r; let free := size - (dev + 2 * size - s.hostPos r) % (2 * size); let n := min (min waits.length free) (min (size - dev % size) (2 ^ (2 + min 1 (s.rd F.HR_STAT_MPS 0)))); let goes := s.ringSt r = 1 ∧ s.linkRuns = true ∧ s.heldBack q.val = false ∧ n ≠ 0; ¬goes))
    ∧ (let s : State := onState |> (·.wr F.HR_STAT_LINK 0 2) |> (·.wr F.HR_STAT_BME 0 1) |> setAct F.RG_IRQ_IRQ_CNT 8 1 |> setAct F.RG_IRQ_IRQ_TIME 8 1 |> (fun s => { s with ring := { s.ring with irqAt := s.ring.irqAt.put 8 1 } });
       let q : Fin 16 := 0;
       s.on = true ∧ s.rd F.RG_CFG_DEPTH_LOG2 (8 + q.val) ≤ 12 ∧ (let r := 8 + q.val; let lim := s.cf F.RG_IRQ_IRQ_CNT r; let due := s.linkRuns = true ∧ lim ≠ 0 ∧ s.cf F.RG_IRQ_IRQ_TIME r ≠ 0 ∧ s.ring.irqAt.at r ≠ 0; due))
    ∧ (let s : State := onState;
       let q : Fin 16 := 0;
       s.on = true ∧ s.rd F.RG_CFG_DEPTH_LOG2 (8 + q.val) ≤ 12 ∧ (let r := 8 + q.val; let lim := s.cf F.RG_IRQ_IRQ_CNT r; let due := s.linkRuns = true ∧ lim ≠ 0 ∧ s.cf F.RG_IRQ_IRQ_TIME r ≠ 0 ∧ s.ring.irqAt.at r ≠ 0; ¬due))
    ∧ (let s : State := onState;
       let q : Fin 16 := 2;
       s.on = true ∧ s.rd F.RG_CFG_DEPTH_LOG2 (8 + q.val) ≤ 12) := by
  and_intros <;> decide +kernel

/-- The hypotheses of each clause of `CommandsExecute`. -/
theorem test_meets_CommandsExecute :
    (let s : State := onState;
     let c : Fin 8 := 6;
     s.on = true ∧ s.rd F.RG_CFG_DEPTH_LOG2 c.val ≤ 12 ∧ (let n := s.ring.reading.at c.val; let ready := n ≠ 0 ∧ s.ringSt c.val = 1; ¬ready))
    ∧ (let s : State := onState |> (·.wr F.RG_STAT_STATE 0 1) |> (fun s => { s with ring := { s.ring with reading := s.ring.reading.put 0 1 } });
       let c : Fin 8 := 0;
       let gen : Bool := false;
       s.on = true ∧ s.rd F.RG_CFG_DEPTH_LOG2 c.val ≤ 12 ∧ (let size := 2 ^ s.rd F.RG_CFG_DEPTH_LOG2 c.val; let dev := s.devPos c.val; let n := s.ring.reading.at c.val; let ready := n ≠ 0 ∧ s.ringSt c.val = 1; let right := ready ∧ (gen = true ↔ dev < size); ready ∧ ¬right))
    ∧ (let s : State := onState |> (·.wr F.RG_STAT_STATE 0 1) |> (fun s => { s with ring := { s.ring with reading := s.ring.reading.put 0 1 } });
       let c : Fin 8 := 0;
       let gen : Bool := true;
       s.on = true ∧ s.rd F.RG_CFG_DEPTH_LOG2 c.val ≤ 12 ∧ (let size := 2 ^ s.rd F.RG_CFG_DEPTH_LOG2 c.val; let dev := s.devPos c.val; let n := s.ring.reading.at c.val; let ready := n ≠ 0 ∧ s.ringSt c.val = 1; let right := ready ∧ (gen = true ↔ dev < size); right))
    ∧ (let s : State := onState |> (·.wr F.RG_STAT_STATE 0 1) |> (fun s => { s with ring := { s.ring with reading := s.ring.reading.put 0 1 } });
       let c : Fin 8 := 0;
       let op : Fin 10 := 0;
       let gen : Bool := true;
       s.on = true ∧ s.rd F.RG_CFG_DEPTH_LOG2 c.val ≤ 12 ∧ (let size := 2 ^ s.rd F.RG_CFG_DEPTH_LOG2 c.val; let dev := s.devPos c.val; let n := s.ring.reading.at c.val; let known := 1 ≤ op.val ∧ op.val ≤ 7; let ready := n ≠ 0 ∧ s.ringSt c.val = 1; let right := ready ∧ (gen = true ↔ dev < size); right ∧ ¬known))
    ∧ (let s : State := onState |> (·.wr F.RG_STAT_STATE 0 1) |> (fun s => { s with ring := { s.ring with reading := s.ring.reading.put 0 1 } });
       let c : Fin 8 := 0;
       let op : Fin 10 := 1;
       let gen : Bool := true;
       let rest : Fin 32 := 1;
       s.on = true ∧ s.rd F.RG_CFG_DEPTH_LOG2 c.val ≤ 12 ∧ (let size := 2 ^ s.rd F.RG_CFG_DEPTH_LOG2 c.val; let dev := s.devPos c.val; let n := s.ring.reading.at c.val; let known := 1 ≤ op.val ∧ op.val ≤ 7; let ready := n ≠ 0 ∧ s.ringSt c.val = 1; let right := ready ∧ (gen = true ↔ dev < size); right ∧ known ∧ rest ≠ 0))
    ∧ (let s : State := onState |> (·.wr F.RG_STAT_STATE 0 1) |> (fun s => { s with ring := { s.ring with reading := s.ring.reading.put 0 1 } }) |> (·.wr F.RG_CFG_SEQ_CHK 0 1) |> (fun s => { s with ring := { s.ring with seqSet := 1 } }) |> (·.wr F.RG_HOST_EXPECT_SEQ 0 7);
       let c : Fin 8 := 0;
       let op : Fin 10 := 1;
       let gen : Bool := true;
       let rest : Fin 32 := 0;
       let seq : BitVec 16 := 0;
       let target : Fin 130 := 0;
       let p : Word := 0;
       s.on = true ∧ s.rd F.RG_CFG_DEPTH_LOG2 c.val ≤ 12 ∧ (let size := 2 ^ s.rd F.RG_CFG_DEPTH_LOG2 c.val; let dev := s.devPos c.val; let n := s.ring.reading.at c.val; let fits := s.rd F.RG_CFG_SEQ_CHK c.val = 0 ∨ bitOf s.ring.seqSet c.val = false ∨ s.rd F.RG_HOST_EXPECT_SEQ c.val = seq.toNat; let known := 1 ≤ op.val ∧ op.val ≤ 7; let args := argsOk op.val target.val (bytes 12 p.toNat) = true; let ready := n ≠ 0 ∧ s.ringSt c.val = 1; let right := ready ∧ (gen = true ↔ dev < size); right ∧ known ∧ rest = 0 ∧ (¬fits ∨ ¬args)))
    ∧ (let s : State := onState |> (·.wr F.RG_STAT_STATE 0 1) |> (fun s => { s with ring := { s.ring with reading := s.ring.reading.put 0 1 } });
       let c : Fin 8 := 0;
       let op : Fin 10 := 1;
       let gen : Bool := true;
       let rest : Fin 32 := 0;
       let seq : BitVec 16 := 0;
       let target : Fin 130 := 0;
       let launch : BitVec 64 := 1;
       let p : Word := 0;
       s.on = true ∧ s.rd F.RG_CFG_DEPTH_LOG2 c.val ≤ 12 ∧ (let size := 2 ^ s.rd F.RG_CFG_DEPTH_LOG2 c.val; let dev := s.devPos c.val; let n := s.ring.reading.at c.val; let fits := s.rd F.RG_CFG_SEQ_CHK c.val = 0 ∨ bitOf s.ring.seqSet c.val = false ∨ s.rd F.RG_HOST_EXPECT_SEQ c.val = seq.toNat; let known := 1 ≤ op.val ∧ op.val ≤ 7; let args := argsOk op.val target.val (bytes 12 p.toNat) = true; let t := launch.toNat; let late := t ≠ 0 ∧ (s.tb.everLocked = false ∨ s.tb.now + 2 ^ 40 < t ∨ t < s.tb.now); let ready := n ≠ 0 ∧ s.ringSt c.val = 1; let right := ready ∧ (gen = true ↔ dev < size); right ∧ known ∧ rest = 0 ∧ fits ∧ args ∧ late))
    ∧ (let s : State := onState |> (·.wr F.RG_STAT_STATE 0 1) |> (fun s => { s with ring := { s.ring with reading := s.ring.reading.put 0 1 } }) |> (fun s => { s with power := { s.power with st := .safe } });
       let c : Fin 8 := 0;
       let op : Fin 10 := 3;
       let gen : Bool := true;
       let rest : Fin 32 := 0;
       let seq : BitVec 16 := 0;
       let target : Fin 130 := 0;
       let launch : BitVec 64 := 0;
       let p : Word := 0;
       s.on = true ∧ s.rd F.RG_CFG_DEPTH_LOG2 c.val ≤ 12 ∧ (let size := 2 ^ s.rd F.RG_CFG_DEPTH_LOG2 c.val; let dev := s.devPos c.val; let n := s.ring.reading.at c.val; let fits := s.rd F.RG_CFG_SEQ_CHK c.val = 0 ∨ bitOf s.ring.seqSet c.val = false ∨ s.rd F.RG_HOST_EXPECT_SEQ c.val = seq.toNat; let known := 1 ≤ op.val ∧ op.val ≤ 7; let args := argsOk op.val target.val (bytes 12 p.toNat) = true; let t := launch.toNat; let late := t ≠ 0 ∧ (s.tb.everLocked = false ∨ s.tb.now + 2 ^ 40 < t ∨ t < s.tb.now); let barred := s.safe = true ∧ safeRefuses op.val (bytes 12 p.toNat) = true; let ready := n ≠ 0 ∧ s.ringSt c.val = 1; let right := ready ∧ (gen = true ↔ dev < size); right ∧ known ∧ rest = 0 ∧ fits ∧ args ∧ ¬late ∧ barred))
    ∧ (let s : State := onState |> (·.wr F.RG_STAT_STATE 0 1) |> (fun s => { s with ring := { s.ring with reading := s.ring.reading.put 0 1 } });
       let c : Fin 8 := 0;
       let op : Fin 10 := 1;
       let gen : Bool := true;
       let rest : Fin 32 := 0;
       let seq : BitVec 16 := 0;
       let target : Fin 130 := 0;
       let launch : BitVec 64 := 0;
       let p : Word := 0;
       s.on = true ∧ s.rd F.RG_CFG_DEPTH_LOG2 c.val ≤ 12 ∧ (let size := 2 ^ s.rd F.RG_CFG_DEPTH_LOG2 c.val; let dev := s.devPos c.val; let n := s.ring.reading.at c.val; let fits := s.rd F.RG_CFG_SEQ_CHK c.val = 0 ∨ bitOf s.ring.seqSet c.val = false ∨ s.rd F.RG_HOST_EXPECT_SEQ c.val = seq.toNat; let known := 1 ≤ op.val ∧ op.val ≤ 7; let args := argsOk op.val target.val (bytes 12 p.toNat) = true; let t := launch.toNat; let late := t ≠ 0 ∧ (s.tb.everLocked = false ∨ s.tb.now + 2 ^ 40 < t ∨ t < s.tb.now); let barred := s.safe = true ∧ safeRefuses op.val (bytes 12 p.toNat) = true; let ready := n ≠ 0 ∧ s.ringSt c.val = 1; let right := ready ∧ (gen = true ↔ dev < size); right ∧ known ∧ rest = 0 ∧ fits ∧ args ∧ ¬late ∧ ¬barred))
    ∧ (let s : State := onState |> (·.wr F.RG_STAT_STATE 1 1) |> (fun s => { s with ring := { s.ring with reading := (s.ring.reading.put 1 2) } });
       let c : Fin 8 := 1;
       let op : Fin 8 := 6;
       let p : Word := 0x00000000#32;
       s.on = true ∧ s.safe = false ∧ (let size := 2 ^ s.rd F.RG_CFG_DEPTH_LOG2 c.val; let dev := s.devPos c.val; let n := s.ring.reading.at c.val; let fits := ((op = 1 ∨ op = 3 ∨ op = 6) → p.toNat = 0) ∧ (op = 2 → 1 ≤ stepKind p.toNat ∧ stepKind p.toNat ≤ 8 ∧ stepInRange p.toNat = true ∧ stepClean p.toNat = true) ∧ (op = 4 → p.toNat = 1 ∨ p.toNat = 2) ∧ (op = 5 → p.toNat = 0xC35A) ∧ (op = 7 → p.toNat = 0 ∨ p.toNat = 1); s.ringSt c.val = 1 ∧ n ≠ 0 ∧ dev < 2 * size ∧ s.rd F.RG_CFG_SEQ_CHK c.val = 0 ∧ s.ring.held.at c.val = [] ∧ op ≠ 0 ∧ fits))
    ∧ (let s : State := onState;
       s.on = true ∧ (let w := if s.commit.swapAt ≤ s.tb.now then commitSwap s else s; w.ring.timed = []))
    ∧ (let s : State := onState |> (fun s => { s with ring := { s.ring with timed := [{ info := { ring := 0, pos := 3, seq := 9, quiet := false }, op := 3, fence := false, target := 0, launch := 536870912, pay := [0x00#8, 0x00#8, 0x00#8, 0x00#8, 0x00#8, 0x00#8, 0x00#8, 0x00#8, 0x00#8, 0x00#8, 0x00#8, 0x00#8] }] } });
       s.on = true ∧ (let w := if s.commit.swapAt ≤ s.tb.now then commitSwap s else s; ((match takeFirst (fun _ => true) w.ring.timed with | some y => decide (let due := slotUp y.1.launch ≤ w.tb.now ∧ (w.sched.served = true ∨ slotUp y.1.launch < w.tb.now / 256 * 256); ¬due) | _ => false) = true)))
    ∧ (let s : State := onState |> (fun s => { s with ring := { s.ring with timed := [{ info := { ring := 0, pos := 3, seq := 9, quiet := true }, op := 7, fence := false, target := 0, launch := 0, pay := [0x00#8, 0x00#8, 0x00#8, 0x00#8, 0x00#8, 0x00#8, 0x00#8, 0x00#8, 0x00#8, 0x00#8, 0x00#8, 0x00#8] }] } });
       s.on = true ∧ (let w := if s.commit.swapAt ≤ s.tb.now then commitSwap s else s; ((match takeFirst (fun _ => true) w.ring.timed with | some y => decide (let due := slotUp y.1.launch ≤ w.tb.now ∧ (w.sched.served = true ∨ slotUp y.1.launch < w.tb.now / 256 * 256); due ∧ w.ring.held.at y.1.info.ring.val = []) | _ => false) = true)))
    ∧ (let s : State := onState |> (fun s => { s with ring := { s.ring with timed := [{ info := { ring := 0, pos := 3, seq := 9, quiet := false }, op := 1, fence := false, target := 0, launch := 0, pay := [0x00#8, 0x00#8, 0x00#8, 0x00#8, 0x00#8, 0x00#8, 0x00#8, 0x00#8, 0x00#8, 0x00#8, 0x00#8, 0x00#8] }, { info := { ring := 0, pos := 3, seq := 9, quiet := false }, op := 3, fence := false, target := 0, launch := 0, pay := [0x00#8, 0x00#8, 0x00#8, 0x00#8, 0x00#8, 0x00#8, 0x00#8, 0x00#8, 0x00#8, 0x00#8, 0x00#8, 0x00#8] }] } });
       s.on = true ∧ (let w := if s.commit.swapAt ≤ s.tb.now then commitSwap s else s; ((match takeFirst (fun _ => true) w.ring.timed with | some y => decide (let due := slotUp y.1.launch ≤ w.tb.now ∧ (w.sched.served = true ∨ slotUp y.1.launch < w.tb.now / 256 * 256); due ∧ w.ring.held.at y.1.info.ring.val = [] ∧ y.1.op = 1) | _ => false) = true)))
    ∧ (let s : State := onState |> (fun s => { s with ring := { s.ring with timed := [{ info := { ring := 0, pos := 3, seq := 9, quiet := false }, op := 2, fence := false, target := 0, launch := 0, pay := [0x05#8, 0x0f#8, 0x00#8, 0x60#8, 0x00#8, 0x00#8, 0x00#8, 0x00#8, 0x00#8, 0x00#8, 0x00#8, 0x00#8] }] } });
       s.on = true ∧ (let w := if s.commit.swapAt ≤ s.tb.now then commitSwap s else s; ((match takeFirst (fun _ => true) w.ring.timed with | some y => decide (let due := slotUp y.1.launch ≤ w.tb.now ∧ (w.sched.served = true ∨ slotUp y.1.launch < w.tb.now / 256 * 256); due ∧ w.ring.held.at y.1.info.ring.val = [] ∧ y.1.op = 2 ∧ w.safe = false ∧ stepKind (ofLeBytes y.1.pay) = 6) | _ => false) = true)))
    ∧ (let s : State := onState;
       let c : Fin 8 := 2;
       s.on = true ∧ takeFirst (fun d : Desc => d.info.ring == c) s.ring.dispatched = none)
    ∧ (let s : State := onState |> (fun s => { s with ring := { s.ring with dispatched := [{ info := { ring := 3, pos := 0, seq := 255, quiet := true }, op := 0, fence := true, target := 2, launch := 3, pay := [] }] } });
       let c : Fin 8 := 3;
       s.on = true ∧ ((match takeFirst (fun d : Desc => d.info.ring == c) s.ring.dispatched with | some x => decide (let d := x.1; d.op ≠ 1) | _ => false) = true))
    ∧ (let s : State := onState |> (fun s => { s with ring := { s.ring with dispatched := [{ info := { ring := 0, pos := 1, seq := 2, quiet := true }, op := 1, fence := false, target := 1, launch := 3, pay := [0x2c#8, 0x2c#8] }] } });
       let c : Fin 8 := 0;
       s.on = true ∧ ((match takeFirst (fun d : Desc => d.info.ring == c) s.ring.dispatched with | some x => decide (let d := x.1; d.op ≠ 2) | _ => false) = true))
    ∧ (let s : State := onState |> (fun s => { s with ring := { s.ring with dispatched := [{ info := { ring := 0, pos := 1, seq := 1, quiet := false }, op := 3, fence := true, target := 0, launch := 5, pay := [] }, { info := { ring := 3, pos := 7, seq := 2, quiet := true }, op := 1, fence := true, target := 1, launch := 3, pay := [] }] } });
       let c : Fin 8 := 3;
       s.on = true ∧ ((match takeFirst (fun d : Desc => d.info.ring == c) s.ring.dispatched with | some x => decide (let d := x.1; d.op = 1) | _ => false) = true))
    ∧ (let s : State := onState |> (fun s => { s with ring := { s.ring with dispatched := [{ info := { ring := 0, pos := 3, seq := 65535, quiet := false }, op := 5, fence := false, target := 1, launch := 1, pay := [] }, { info := { ring := 6, pos := 14, seq := 5, quiet := false }, op := 2, fence := false, target := 3, launch := 3, pay := [] }] } });
       let c : Fin 8 := 6;
       s.on = true ∧ ((match takeFirst (fun d : Desc => d.info.ring == c) s.ring.dispatched with | some x => decide (let d := x.1; d.op = 2) | _ => false) = true))
    ∧ (let s : State := onState |> (fun s => { s with power := { s.power with st := .safe } }) |> (fun s => { s with ring := { s.ring with dispatched := [{ info := { ring := 0, pos := 0, seq := 0, quiet := false }, op := 2, fence := false, target := 0, launch := 0, pay := bytes 12 0x11800000 }] } });
       let c : Fin 8 := 0;
       s.on = true ∧ ((match takeFirst (fun d : Desc => d.info.ring == c) s.ring.dispatched with | some x => decide (let d := x.1; let barred := s.safe = true ∧ (safeRefuses d.op d.pay = true ∨ d.op = 5); d.op = 2 ∧ barred) | _ => false) = true))
    ∧ (let s : State := onState |> (fun s => { s with ring := { s.ring with dispatched := [{ info := { ring := 3, pos := 2, seq := 2, quiet := false }, op := 2, fence := true, target := 6, launch := 65535, pay := [0x05#8, 0x24#8] }, { info := { ring := 0, pos := 2, seq := 1, quiet := false }, op := 65535, fence := true, target := 8, launch := 2, pay := [0x24#8] }] } });
       let c : Fin 8 := 3;
       s.on = true ∧ ((match takeFirst (fun d : Desc => d.info.ring == c) s.ring.dispatched with | some x => decide (let d := x.1; let barred := s.safe = true ∧ (safeRefuses d.op d.pay = true ∨ d.op = 5); d.op = 2 ∧ ¬barred) | _ => false) = true))
    ∧ (let s : State := onState |> (fun s => { s with ring := { s.ring with dispatched := [{ info := { ring := 2, pos := 65535, seq := 1, quiet := true }, op := 0, fence := false, target := 1, launch := 4, pay := [0x00#8, 0x02#8] }, { info := { ring := 0, pos := 8, seq := 1, quiet := true }, op := 3, fence := false, target := 65535, launch := 2, pay := [0x2c#8] }] } });
       let c : Fin 8 := 0;
       s.on = true ∧ ((match takeFirst (fun d : Desc => d.info.ring == c) s.ring.dispatched with | some x => decide (let d := x.1; d.op = 3) | _ => false) = true))
    ∧ (let s : State := onState |> (fun s => { s with ring := { s.ring with dispatched := [{ info := { ring := 0, pos := 1, seq := 3, quiet := false }, op := 3, fence := false, target := 2, launch := 2, pay := [] }, { info := { ring := 1, pos := 3, seq := 1, quiet := false }, op := 3, fence := true, target := 0, launch := 1, pay := [0x06#8, 0x02#8] }] } }) |> (fun s => { s with power := { s.power with st := PState.safe } });
       let c : Fin 8 := 1;
       s.on = true ∧ ((match takeFirst (fun d : Desc => d.info.ring == c) s.ring.dispatched with | some x => decide (let d := x.1; let barred := s.safe = true ∧ (safeRefuses d.op d.pay = true ∨ d.op = 5); d.op = 3 ∧ barred) | _ => false) = true))
    ∧ (let s : State := onState |> (fun s => { s with ring := { s.ring with dispatched := [{ info := { ring := 5, pos := 5, seq := 3, quiet := false }, op := 65535, fence := false, target := 8, launch := 8, pay := [0x01#8, 0x2c#8] }, { info := { ring := 2, pos := 1, seq := 5, quiet := true }, op := 3, fence := false, target := 1, launch := 8, pay := [0x24#8, 0x24#8] }] } });
       let c : Fin 8 := 2;
       s.on = true ∧ ((match takeFirst (fun d : Desc => d.info.ring == c) s.ring.dispatched with | some x => decide (let d := x.1; let barred := s.safe = true ∧ (safeRefuses d.op d.pay = true ∨ d.op = 5); d.op = 3 ∧ ¬barred) | _ => false) = true))
    ∧ (let s : State := onState |> (fun s => { s with ring := { s.ring with dispatched := [{ info := { ring := 1, pos := 0, seq := 1, quiet := true }, op := 4, fence := true, target := 0, launch := 1, pay := [0x4c#8, 0x06#8] }, { info := { ring := 4, pos := 5, seq := 1, quiet := true }, op := 8, fence := false, target := 1, launch := 4, pay := [] }] } });
       let c : Fin 8 := 1;
       s.on = true ∧ ((match takeFirst (fun d : Desc => d.info.ring == c) s.ring.dispatched with | some x => decide (let d := x.1; d.op = 4) | _ => false) = true))
    ∧ (let s : State := onState |> (fun s => { s with ring := { s.ring with dispatched := [{ info := { ring := 3, pos := 1, seq := 1, quiet := true }, op := 1, fence := true, target := 0, launch := 0, pay := [0x24#8] }, { info := { ring := 7, pos := 65535, seq := 0, quiet := false }, op := 4, fence := false, target := 4, launch := 65535, pay := [] }] } }) |> (fun s => { s with power := { s.power with st := PState.safe } });
       let c : Fin 8 := 7;
       s.on = true ∧ ((match takeFirst (fun d : Desc => d.info.ring == c) s.ring.dispatched with | some x => decide (let d := x.1; let barred := s.safe = true ∧ (safeRefuses d.op d.pay = true ∨ d.op = 5); d.op = 4 ∧ barred) | _ => false) = true))
    ∧ (let s : State := onState |> (fun s => { s with ring := { s.ring with dispatched := [{ info := { ring := 2, pos := 65535, seq := 3, quiet := false }, op := 1, fence := true, target := 2, launch := 8, pay := [0x35#8, 0x2c#8] }, { info := { ring := 1, pos := 3, seq := 1, quiet := false }, op := 4, fence := false, target := 8, launch := 2, pay := [] }] } });
       let c : Fin 8 := 1;
       s.on = true ∧ ((match takeFirst (fun d : Desc => d.info.ring == c) s.ring.dispatched with | some x => decide (let d := x.1; let barred := s.safe = true ∧ (safeRefuses d.op d.pay = true ∨ d.op = 5); d.op = 4 ∧ ¬barred) | _ => false) = true))
    ∧ (let s : State := onState |> (fun s => { s with ring := { s.ring with dispatched := [{ info := { ring := 1, pos := 0, seq := 3, quiet := true }, op := 2, fence := true, target := 7, launch := 3, pay := [0x00#8, 0x04#8] }, { info := { ring := 6, pos := 2, seq := 65535, quiet := false }, op := 5, fence := false, target := 4, launch := 4, pay := [0xb7#8] }] } });
       let c : Fin 8 := 6;
       s.on = true ∧ ((match takeFirst (fun d : Desc => d.info.ring == c) s.ring.dispatched with | some x => decide (let d := x.1; d.op = 5) | _ => false) = true))
    ∧ (let s : State := onState |> (fun s => { s with ring := { s.ring with dispatched := [{ info := { ring := 3, pos := 4, seq := 0, quiet := true }, op := 5, fence := true, target := 3, launch := 1, pay := [0x4c#8, 0x08#8] }, { info := { ring := 7, pos := 3, seq := 3, quiet := false }, op := 1, fence := false, target := 1, launch := 1, pay := [0x04#8, 0xff#8] }] } }) |> (fun s => { s with power := { s.power with st := PState.safe } });
       let c : Fin 8 := 3;
       s.on = true ∧ ((match takeFirst (fun d : Desc => d.info.ring == c) s.ring.dispatched with | some x => decide (let d := x.1; let barred := s.safe = true ∧ (safeRefuses d.op d.pay = true ∨ d.op = 5); d.op = 5 ∧ barred) | _ => false) = true))
    ∧ (let s : State := onState |> (fun s => { s with ring := { s.ring with dispatched := [{ info := { ring := 5, pos := 3, seq := 1, quiet := false }, op := 1, fence := false, target := 4, launch := 3, pay := [0x24#8] }, { info := { ring := 0, pos := 1, seq := 2, quiet := true }, op := 5, fence := false, target := 4, launch := 3, pay := [] }] } });
       let c : Fin 8 := 0;
       s.on = true ∧ ((match takeFirst (fun d : Desc => d.info.ring == c) s.ring.dispatched with | some x => decide (let d := x.1; let barred := s.safe = true ∧ (safeRefuses d.op d.pay = true ∨ d.op = 5); d.op = 5 ∧ ¬barred) | _ => false) = true))
    ∧ (let s : State := onState |> (fun s => { s with ring := { s.ring with dispatched := [{ info := { ring := 0, pos := 0, seq := 0, quiet := false }, op := 6, fence := false, target := 0, launch := 0, pay := bytes 12 1 }] } });
       let c : Fin 8 := 0;
       s.on = true ∧ ((match takeFirst (fun d : Desc => d.info.ring == c) s.ring.dispatched with | some x => decide (let d := x.1; d.op = 6) | _ => false) = true))
    ∧ (let s : State := onState |> (fun s => { s with ring := { s.ring with dispatched := [{ info := { ring := 0, pos := 0, seq := 5, quiet := false }, op := 7, fence := false, target := 0, launch := 0, pay := [0x08#8] }, { info := { ring := 1, pos := 4, seq := 2, quiet := true }, op := 1, fence := true, target := 3, launch := 2, pay := [0x00#8] }] } });
       let c : Fin 8 := 0;
       s.on = true ∧ ((match takeFirst (fun d : Desc => d.info.ring == c) s.ring.dispatched with | some x => decide (let d := x.1; d.op = 7) | _ => false) = true))
    ∧ (let s : State := onState |> (fun s => { s with ring := { s.ring with dispatched := [{ info := { ring := 0, pos := 3, seq := 9, quiet := false }, op := 1, fence := false, target := 0, launch := 0, pay := [0x00#8, 0x00#8, 0x00#8, 0x00#8, 0x00#8, 0x00#8, 0x00#8, 0x00#8, 0x00#8, 0x00#8, 0x00#8, 0x00#8] }] } });
       let d : Desc := { info := { ring := 0, pos := 3, seq := 9, quiet := false }, op := 1, fence := false, target := 0, launch := 0, pay := [0x00#8, 0x00#8, 0x00#8, 0x00#8, 0x00#8, 0x00#8, 0x00#8, 0x00#8, 0x00#8, 0x00#8, 0x00#8, 0x00#8] };
       s.on = true ∧ s.safe = false ∧ s.ring.dispatched = [d] ∧ s.ring.held.at d.info.ring.val = [] ∧ d.op = 1)
    ∧ (let s : State := onState |> (fun s => { s with ring := { s.ring with dispatched := [{ info := { ring := 0, pos := 3, seq := 9, quiet := true }, op := 2, fence := false, target := 0, launch := 0, pay := [0x00#8, 0x00#8, 0x00#8, 0x54#8, 0x00#8, 0x00#8, 0x00#8, 0x00#8, 0x00#8, 0x00#8, 0x00#8, 0x00#8] }] } });
       let d : Desc := { info := { ring := 0, pos := 3, seq := 9, quiet := true }, op := 2, fence := false, target := 0, launch := 0, pay := [0x00#8, 0x00#8, 0x00#8, 0x54#8, 0x00#8, 0x00#8, 0x00#8, 0x00#8, 0x00#8, 0x00#8, 0x00#8, 0x00#8] };
       s.on = true ∧ s.safe = false ∧ s.ring.dispatched = [d] ∧ s.ring.held.at d.info.ring.val = [] ∧ (let p := ofLeBytes d.pay; d.op = 2 ∧ stepKind p = 5))
    ∧ (let s : State := onState |> (fun s => { s with ring := { s.ring with dispatched := [{ info := { ring := 0, pos := 3, seq := 9, quiet := false }, op := 2, fence := false, target := 0, launch := 0, pay := [0x05#8, 0x0f#8, 0x00#8, 0x60#8, 0x00#8, 0x00#8, 0x00#8, 0x00#8, 0x00#8, 0x00#8, 0x00#8, 0x00#8] }] } });
       let d : Desc := { info := { ring := 0, pos := 3, seq := 9, quiet := false }, op := 2, fence := false, target := 0, launch := 0, pay := [0x05#8, 0x0f#8, 0x00#8, 0x60#8, 0x00#8, 0x00#8, 0x00#8, 0x00#8, 0x00#8, 0x00#8, 0x00#8, 0x00#8] };
       s.on = true ∧ s.safe = false ∧ s.ring.dispatched = [d] ∧ s.ring.held.at d.info.ring.val = [] ∧ (let p := ofLeBytes d.pay; d.op = 2 ∧ stepKind p = 6 ∧ s.sched.sig < 256))
    ∧ (let s : State := onState |> (fun s => { s with ring := { s.ring with dispatched := [{ info := { ring := 0, pos := 3, seq := 9, quiet := true }, op := 2, fence := false, target := 0, launch := 0, pay := [0x00#8, 0x00#8, 0x00#8, 0x54#8, 0x00#8, 0x00#8, 0x00#8, 0x00#8, 0x00#8, 0x00#8, 0x00#8, 0x00#8] }] } });
       let d : Desc := { info := { ring := 0, pos := 3, seq := 9, quiet := true }, op := 2, fence := false, target := 0, launch := 0, pay := [0x00#8, 0x00#8, 0x00#8, 0x54#8, 0x00#8, 0x00#8, 0x00#8, 0x00#8, 0x00#8, 0x00#8, 0x00#8, 0x00#8] };
       s.on = true ∧ s.safe = false ∧ s.ring.dispatched = [d] ∧ s.ring.held.at d.info.ring.val = [] ∧ (let r : State := { s with ring := { s.ring with dispatched := [] } }; let p := ofLeBytes d.pay; d.op = 2 ∧ (r.stepAct p).1 = 0))
    ∧ (let s : State := onState |> setAct F.CTX_CFG_MODE 0 3 |> (fun s => { s with ring := { s.ring with dispatched := [{ info := { ring := 0, pos := 3, seq := 9, quiet := false }, op := 3, fence := false, target := 0, launch := 536870912, pay := [0x00#8, 0x00#8, 0x00#8, 0x00#8, 0x00#8, 0x00#8, 0x00#8, 0x00#8, 0x00#8, 0x00#8, 0x00#8, 0x00#8] }] } });
       let d : Desc := { info := { ring := 0, pos := 3, seq := 9, quiet := false }, op := 3, fence := false, target := 0, launch := 536870912, pay := [0x00#8, 0x00#8, 0x00#8, 0x00#8, 0x00#8, 0x00#8, 0x00#8, 0x00#8, 0x00#8, 0x00#8, 0x00#8, 0x00#8] };
       let t : CtxId := 0;
       s.on = true ∧ s.safe = false ∧ s.ring.dispatched = [d] ∧ s.ring.held.at d.info.ring.val = [] ∧ (let room := d.launch = 0 ∨ ((s.ctx t.val).prev.all (fun x => decide (x < slotUp d.launch)) = true ∧ s.slotLoad (slotUp d.launch) < 8); d.op = 3 ∧ d.target = t.val ∧ s.ctxSt t.val ≠ 1 ∧ s.ctxSt t.val ≠ 2 ∧ s.ctxSt t.val ≠ 3 ∧ s.mode t.val = 3 ∧ s.con F.SCH_CTL_EN 0 = true ∧ room))
    ∧ (let s : State := onState |> (fun s => { s with ring := { s.ring with dispatched := [{ info := { ring := 0, pos := 3, seq := 9, quiet := false }, op := 4, fence := false, target := 0, launch := 0, pay := [0x01#8, 0x00#8, 0x00#8, 0x00#8, 0x00#8, 0x00#8, 0x00#8, 0x00#8, 0x00#8, 0x00#8, 0x00#8, 0x00#8] }] } }) |> (fun s => { s with power := { s.power with st := PState.hold } });
       let d : Desc := { info := { ring := 0, pos := 3, seq := 9, quiet := false }, op := 4, fence := false, target := 0, launch := 0, pay := [0x01#8, 0x00#8, 0x00#8, 0x00#8, 0x00#8, 0x00#8, 0x00#8, 0x00#8, 0x00#8, 0x00#8, 0x00#8, 0x00#8] };
       s.on = true ∧ s.safe = false ∧ s.ring.dispatched = [d] ∧ s.ring.held.at d.info.ring.val = [] ∧ (let p := ofLeBytes d.pay; let ho := s.rd F.WELL_STAT_HO 0; let calm := s.draining = false ∧ s.power.afterCutoff = none ∧ ho ≠ 1 ∧ ho ≠ 2 ∧ ho ≠ 5 ∧ s.well.leadPend = false; d.op = 4 ∧ s.power.st = .hold ∧ calm ∧ (p = 1 ∨ p = 2)))
    ∧ (let s : State := onState |> (fun s => { s with ring := { s.ring with dispatched := [{ info := { ring := 0, pos := 3, seq := 9, quiet := false }, op := 5, fence := false, target := 0, launch := 0, pay := [0x5a#8, 0xc3#8, 0x00#8, 0x00#8, 0x00#8, 0x00#8, 0x00#8, 0x00#8, 0x00#8, 0x00#8, 0x00#8, 0x00#8] }] } });
       let d : Desc := { info := { ring := 0, pos := 3, seq := 9, quiet := false }, op := 5, fence := false, target := 0, launch := 0, pay := [0x5a#8, 0xc3#8, 0x00#8, 0x00#8, 0x00#8, 0x00#8, 0x00#8, 0x00#8, 0x00#8, 0x00#8, 0x00#8, 0x00#8] };
       s.on = true ∧ s.safe = false ∧ s.ring.dispatched = [d] ∧ s.ring.held.at d.info.ring.val = [] ∧ d.op = 5 ∧ s.power.resetAfterDrain = none)
    ∧ (let s : State := onState |> (fun s => { s with ring := { s.ring with dispatched := [{ info := { ring := 0, pos := 0, seq := 0, quiet := false }, op := 6, fence := false, target := 0, launch := 0, pay := bytes 12 0 }] } }) |> (·.wr F.TW_STAT_STATE 0 5) |> (·.wr F.TW_PARTNER_STATE 0 5) |> (·.wr F.TW_PARTNER_PSTATE 0 1);
       let d : Desc := { info := { ring := 0, pos := 0, seq := 0, quiet := false }, op := 6, fence := false, target := 0, launch := 0, pay := bytes 12 0 };
       s.on = true ∧ s.safe = false ∧ s.ring.dispatched = [d] ∧ s.ring.held.at d.info.ring.val = [] ∧ (let partner := s.rd F.TW_PARTNER_STATE 0 = 5 ∧ bitOf (s.rd F.TW_PARTNER_FLAGS 0) 4 = false ∧ bitOf (s.rd F.TW_PARTNER_FLAGS 0) 5 = false ∧ s.rd F.TW_PARTNER_PSTATE 0 ≠ 4 ∧ ∀ k : Fin 8, usedSlot s.cf k.val = true → bitOf (mirAt s.pMirror 158 1) k.val = true; d.op = 6 ∧ s.twSt = 5 ∧ partner ∧ s.twin.acked = false ∧ s.twin.asked = false))
    ∧ (let s : State := onState |> (fun s => { s with power := { s.power with st := PState.hold } }) |> (fun s => { s with ring := { s.ring with dispatched := [{ info := { ring := 0, pos := 3, seq := 9, quiet := false }, op := 7, fence := false, target := 0, launch := 0, pay := [0x01#8, 0x00#8, 0x00#8, 0x00#8, 0x00#8, 0x00#8, 0x00#8, 0x00#8, 0x00#8, 0x00#8, 0x00#8, 0x00#8] }] } });
       let d : Desc := { info := { ring := 0, pos := 3, seq := 9, quiet := false }, op := 7, fence := false, target := 0, launch := 0, pay := [0x01#8, 0x00#8, 0x00#8, 0x00#8, 0x00#8, 0x00#8, 0x00#8, 0x00#8, 0x00#8, 0x00#8, 0x00#8, 0x00#8] };
       s.on = true ∧ s.safe = false ∧ s.ring.dispatched = [d] ∧ s.ring.held.at d.info.ring.val = [] ∧ (let p := ofLeBytes d.pay; let excess := ((holdSum (fun f i => s.cf f i)).add ⟨s.cf F.WELL_LEND_I_LEND 0 * 50 * (s.cf F.WELL_CFG_VREG 0 * 10), 1⟩).gt ⟨200000000, 1⟩; d.op = 7 ∧ p = 1 ∧ s.power.st = .hold ∧ s.well.lend = false ∧ excess = false))
    ∧ (let s : State := onState |> (fun s => { s with well := { s.well with lend := true } }) |> (fun s => { s with ring := { s.ring with dispatched := [{ info := { ring := 0, pos := 3, seq := 9, quiet := true }, op := 7, fence := false, target := 0, launch := 0, pay := [0x00#8, 0x00#8, 0x00#8, 0x00#8, 0x00#8, 0x00#8, 0x00#8, 0x00#8, 0x00#8, 0x00#8, 0x00#8, 0x00#8] }] } });
       let d : Desc := { info := { ring := 0, pos := 3, seq := 9, quiet := true }, op := 7, fence := false, target := 0, launch := 0, pay := [0x00#8, 0x00#8, 0x00#8, 0x00#8, 0x00#8, 0x00#8, 0x00#8, 0x00#8, 0x00#8, 0x00#8, 0x00#8, 0x00#8] };
       s.on = true ∧ s.safe = false ∧ s.ring.dispatched = [d] ∧ s.ring.held.at d.info.ring.val = [] ∧ (let p := ofLeBytes d.pay; d.op = 7 ∧ p = 0 ∧ s.well.lend = true)) := by
  and_intros <;> decide +kernel

/-- The hypotheses of each clause of `StreamsConvert`. -/
theorem test_meets_StreamsConvert :
    (let s : State := onState;
     let up : Bool := false;
     let i : Fin 8 := 7;
     let data := s.power.off = false ∧ bitOf (s.rd F.UNIT_STAT_ISLAND_OK 0) 7 = true;
     s.rd F.MS_RES_COUNT i.val < 65536 ∧ s.rd F.MS_RES_VALUE i.val < 65536 ∧ (¬data ∨ up = s.con F.MEAS_GCFG_TRIG_EDGE 0))
    ∧ (let s : State := onState;
       let up : Bool := true;
       let i : Fin 8 := 1;
       let data := s.power.off = false ∧ bitOf (s.rd F.UNIT_STAT_ISLAND_OK 0) 7 = true;
       s.rd F.MS_RES_COUNT i.val < 65536 ∧ s.rd F.MS_RES_VALUE i.val < 65536 ∧ data ∧ up ≠ s.con F.MEAS_GCFG_TRIG_EDGE 0)
    ∧ (let s : State := onState |> (·.wr F.UNIT_STAT_ISLAND_OK 0 2);
       let i : Fin 8 := 1;
       let data := s.power.off = false ∧ bitOf (s.rd F.UNIT_STAT_ISLAND_OK 0) 7 = true;
       s.rd F.MS_RES_COUNT i.val < 65536 ∧ s.rd F.MS_RES_VALUE i.val < 65536 ∧ s.on = true ∧ ¬data)
    ∧ (let s : State := onState;
       let i : Fin 8 := 2;
       let at_ : ConvSlot := { slot := 168, ago := 3 };
       let data := s.power.off = false ∧ bitOf (s.rd F.UNIT_STAT_ISLAND_OK 0) 7 = true;
       let mc : Fin 2 := ⟨i.val / 4, by omega⟩;
       let slot := at_.slot;
       let quiet := ∀ j : Fin 8, (s.strm j.val).run = false;
       s.rd F.MS_RES_COUNT i.val < 65536 ∧ s.rd F.MS_RES_VALUE i.val < 65536 ∧ s.on = true ∧ data ∧ quiet ∧ s.ownerOf mc.val slot = none)
    ∧ (let s : State := onState |> setAct F.MS_CFG_TRIG 0 1;
       let i : Fin 8 := 0;
       let at_ : ConvSlot := { slot := 176, ago := 2 };
       let data := s.power.off = false ∧ bitOf (s.rd F.UNIT_STAT_ISLAND_OK 0) 7 = true;
       let mc : Fin 2 := ⟨i.val / 4, by omega⟩;
       let slot := at_.slot;
       let trig := s.cf F.MS_CFG_TRIG i.val;
       let avg := s.cf F.MS_FILT_AVG i.val;
       let raw := s.cf F.MS_FILT_N i.val = 0;
       let quiet := ∀ j : Fin 8, (s.strm j.val).run = false;
       let block := (blkStreams s.cf).contains i.val = true;
       let owns := s.ownerOf mc.val slot = some i.val ∧ trig = 1;
       s.rd F.MS_RES_COUNT i.val < 65536 ∧ s.rd F.MS_RES_VALUE i.val < 65536 ∧ s.on = true ∧ data ∧ quiet ∧ owns ∧ ¬block ∧ raw ∧ avg = 0)
    ∧ (let s : State := onState |> setAct F.MS_CFG_TRIG 1 1 |> setAct F.MS_FILT_AVG 1 51;
       let i : Fin 8 := 1;
       let at_ : ConvSlot := { slot := 0, ago := 0 };
       let data := s.power.off = false ∧ bitOf (s.rd F.UNIT_STAT_ISLAND_OK 0) 7 = true;
       let mc : Fin 2 := ⟨i.val / 4, by omega⟩;
       let slot := at_.slot;
       let trig := s.cf F.MS_CFG_TRIG i.val;
       let avg := s.cf F.MS_FILT_AVG i.val;
       let raw := s.cf F.MS_FILT_N i.val = 0;
       let quiet := ∀ j : Fin 8, (s.strm j.val).run = false;
       let block := (blkStreams s.cf).contains i.val = true;
       let owns := s.ownerOf mc.val slot = some i.val ∧ trig = 1;
       s.rd F.MS_RES_COUNT i.val < 65536 ∧ s.rd F.MS_RES_VALUE i.val < 65536 ∧ s.on = true ∧ data ∧ quiet ∧ owns ∧ ¬block ∧ raw ∧ 0 < avg)
    ∧ (let s : State := onState |> setAct F.MS_CFG_TRIG 1 1 |> setAct F.MS_FILT_AVG 1 51;
       let i : Fin 8 := 1;
       let at_ : ConvSlot := { slot := 0, ago := 0 };
       let data := s.power.off = false ∧ bitOf (s.rd F.UNIT_STAT_ISLAND_OK 0) 7 = true;
       let mc : Fin 2 := ⟨i.val / 4, by omega⟩;
       let slot := at_.slot;
       let x := s.strm i.val;
       let trig := s.cf F.MS_CFG_TRIG i.val;
       let avg := s.cf F.MS_FILT_AVG i.val;
       let raw := s.cf F.MS_FILT_N i.val = 0;
       let quiet := ∀ j : Fin 8, (s.strm j.val).run = false;
       let owns := s.ownerOf mc.val slot = some i.val ∧ trig = 1;
       s.rd F.MS_RES_COUNT i.val < 65536 ∧ s.rd F.MS_RES_VALUE i.val < 65536 ∧ s.on = true ∧ data ∧ quiet ∧ owns ∧ raw ∧ 0 < avg ∧ x.cnt < avg)
    ∧ (let s : State := onState |> setAct F.MS_CFG_TRIG 0 1 |> setAct F.MS_FILT_AVG 0 1 |> (fun s => { s with meas := { s.meas with streams := s.meas.streams.put 0 { cnt := 1 } } });
       let i : Fin 8 := 0;
       let at_ : ConvSlot := { slot := 0, ago := 0 };
       let data := s.power.off = false ∧ bitOf (s.rd F.UNIT_STAT_ISLAND_OK 0) 7 = true;
       let mc : Fin 2 := ⟨i.val / 4, by omega⟩;
       let slot := at_.slot;
       let x := s.strm i.val;
       let trig := s.cf F.MS_CFG_TRIG i.val;
       let avg := s.cf F.MS_FILT_AVG i.val;
       let raw := s.cf F.MS_FILT_N i.val = 0;
       let quiet := ∀ j : Fin 8, (s.strm j.val).run = false;
       let block := (blkStreams s.cf).contains i.val = true;
       let owns := s.ownerOf mc.val slot = some i.val ∧ trig = 1;
       s.rd F.MS_RES_COUNT i.val < 65536 ∧ s.rd F.MS_RES_VALUE i.val < 65536 ∧ s.on = true ∧ data ∧ quiet ∧ owns ∧ ¬block ∧ raw ∧ 0 < avg ∧ x.cnt = avg)
    ∧ (let s : State := onState |> setAct F.MS_FILT_N 3 1 |> setAct F.MS_CFG_TRIG 3 1;
       let i : Fin 8 := 3;
       let at_ : ConvSlot := { slot := 144, ago := 0 };
       let data := s.power.off = false ∧ bitOf (s.rd F.UNIT_STAT_ISLAND_OK 0) 7 = true;
       let mc : Fin 2 := ⟨i.val / 4, by omega⟩;
       let slot := at_.slot;
       let trig := s.cf F.MS_CFG_TRIG i.val;
       let raw := s.cf F.MS_FILT_N i.val = 0;
       let quiet := ∀ j : Fin 8, (s.strm j.val).run = false;
       let owns := s.ownerOf mc.val slot = some i.val ∧ trig = 1;
       s.rd F.MS_RES_COUNT i.val < 65536 ∧ s.rd F.MS_RES_VALUE i.val < 65536 ∧ s.on = true ∧ data ∧ quiet ∧ owns ∧ ¬raw)
    ∧ (let s : State := onState;
       let i : Fin 8 := 1;
       let sizes : List (Fin 64) := [0, 0, 1, 59];
       s.rd F.MS_RES_COUNT i.val < 65536 ∧ s.rd F.MS_RES_VALUE i.val < 65536 ∧ 1 ≤ sizes.length ∧ sizes.length ≤ 4)
    ∧ (let s : State := onState |> setAct F.MS_CFG_TRIG 0 1 |> setAct F.MS_CFG_SLOTS_LOG2 0 4 |> setAct F.MS_CFG_TRIG 4 1 |> setAct F.MS_CFG_SLOTS_LOG2 4 4;
       let i : Fin 8 := 0;
       let at_ : ConvSlot := { slot := 0, ago := 0 };
       let asks : List Service := [.readback];
       let data := s.power.off = false ∧ bitOf (s.rd F.UNIT_STAT_ISLAND_OK 0) 7 = true;
       let mc : Fin 2 := ⟨i.val / 4, by omega⟩;
       let slot := at_.slot;
       let trig := s.cf F.MS_CFG_TRIG i.val;
       let avg := s.cf F.MS_FILT_AVG i.val;
       let quiet := ∀ j : Fin 8, (s.strm j.val).run = false;
       let block := (blkStreams s.cf).contains i.val = true;
       let owns := s.ownerOf mc.val slot = some i.val ∧ trig = 1;
       let full := s.freeSlot 0 (slot / 16) = false ∧ s.freeSlot 1 (slot / 16) = false;
       let svc := s.nextService mc.val (slot / 16) asks;
       let rested := s.meas.lent.at mc.val = 0 ∨ s.meas.lent.at mc.val + 31 ≤ slot;
       s.rd F.MS_RES_COUNT i.val < 65536 ∧ s.rd F.MS_RES_VALUE i.val < 65536 ∧ s.on = true ∧ data ∧ quiet ∧ owns ∧ full ∧ rested ∧ svc.isSome = true ∧ ¬block ∧ avg = 0)
    ∧ (let s : State := onState |> setAct F.MS_CFG_TRIG 5 1;
       let i : Fin 8 := 5;
       let at_ : ConvSlot := { slot := 16, ago := 2 };
       let data := s.power.off = false ∧ bitOf (s.rd F.UNIT_STAT_ISLAND_OK 0) 7 = true;
       let mc : Fin 2 := ⟨i.val / 4, by omega⟩;
       let slot := at_.slot;
       let trig := s.cf F.MS_CFG_TRIG i.val;
       let avg := s.cf F.MS_FILT_AVG i.val;
       let raw := s.cf F.MS_FILT_N i.val = 0;
       let quiet := ∀ j : Fin 8, (s.strm j.val).run = false;
       let block := (blkStreams s.cf).contains i.val = true;
       let owns := s.ownerOf mc.val slot = some i.val ∧ trig = 1;
       let full := s.freeSlot 0 (slot / 16) = false ∧ s.freeSlot 1 (slot / 16) = false;
       let rested := s.meas.lent.at mc.val = 0 ∨ s.meas.lent.at mc.val + 31 ≤ slot;
       s.rd F.MS_RES_COUNT i.val < 65536 ∧ s.rd F.MS_RES_VALUE i.val < 65536 ∧ s.on = true ∧ data ∧ quiet ∧ owns ∧ ¬(full ∧ rested) ∧ ¬block ∧ raw ∧ avg = 0)
    ∧ (let s : State := onState |> (fun s => { s with meas := { s.meas with streams := (s.meas.streams.put 5 { s.meas.streams.at 5 with run := true }) } }) |> setAct F.MS_CFG_TRIG 5 3 |> (fun s => { s with meas := { s.meas with streams := (s.meas.streams.put 5 { s.meas.streams.at 5 with left := 5 }) } });
       let i : Fin 8 := 5;
       let data := s.power.off = false ∧ bitOf (s.rd F.UNIT_STAT_ISLAND_OK 0) 7 = true;
       let x := s.strm i.val;
       let trig := s.cf F.MS_CFG_TRIG i.val;
       let avg := s.cf F.MS_FILT_AVG i.val;
       let raw := s.cf F.MS_FILT_N i.val = 0;
       let block := (blkStreams s.cf).contains i.val = true;
       s.rd F.MS_RES_COUNT i.val < 65536 ∧ s.rd F.MS_RES_VALUE i.val < 65536 ∧ s.on = true ∧ data ∧ 1 < trig ∧ x.run = true ∧ (∀ j : Fin 8, j ≠ i → (s.strm j.val).run = false) ∧ x.first = none ∧ 1 < x.left ∧ ¬block ∧ raw ∧ avg = 0)
    ∧ (let s : State := onState |> setAct F.MS_CFG_TRIG 0 3 |> (fun s => { s with meas := { s.meas with streams := (s.meas.streams.put 0 { s.meas.streams.at 0 with run := true }) } });
       let i : Fin 8 := 0;
       let at_ : ConvSlot := { slot := 133, ago := 3 };
       let data := s.power.off = false ∧ bitOf (s.rd F.UNIT_STAT_ISLAND_OK 0) 7 = true;
       let mc : Fin 2 := ⟨i.val / 4, by omega⟩;
       let slot := at_.slot;
       let x := s.strm i.val;
       let trig := s.cf F.MS_CFG_TRIG i.val;
       let avg := s.cf F.MS_FILT_AVG i.val;
       let raw := s.cf F.MS_FILT_N i.val = 0;
       let block := (blkStreams s.cf).contains i.val = true;
       s.rd F.MS_RES_COUNT i.val < 65536 ∧ s.rd F.MS_RES_VALUE i.val < 65536 ∧ s.on = true ∧ data ∧ 1 < trig ∧ x.run = true ∧ (∀ j : Fin 8, j ≠ i → (s.strm j.val).run = false) ∧ s.ownerOf mc.val slot = none ∧ x.first = none ∧ x.left ≤ 1 ∧ ¬block ∧ raw ∧ avg = 0)
    ∧ (let s : State := onState |> setAct F.MS_CFG_TRIG 0 1 |> setAct F.MEAS_BLK_EN 0 3;
       let i : Fin 8 := 0;
       let at_ : ConvSlot := { slot := 160, ago := 1 };
       let data := s.power.off = false ∧ bitOf (s.rd F.UNIT_STAT_ISLAND_OK 0) 7 = true;
       let mc : Fin 2 := ⟨i.val / 4, by omega⟩;
       let slot := at_.slot;
       let trig := s.cf F.MS_CFG_TRIG i.val;
       let avg := s.cf F.MS_FILT_AVG i.val;
       let raw := s.cf F.MS_FILT_N i.val = 0;
       let quiet := ∀ j : Fin 8, (s.strm j.val).run = false;
       let owns := s.ownerOf mc.val slot = some i.val ∧ trig = 1;
       s.rd F.MS_RES_COUNT i.val < 65536 ∧ s.rd F.MS_RES_VALUE i.val < 65536 ∧ s.on = true ∧ data ∧ quiet ∧ owns ∧ raw ∧ avg = 0 ∧ blkStreams s.cf = [i.val] ∧ s.meas.blk.length < 7)
    ∧ (let s : State := onState |> setAct F.MS_CFG_TRIG 0 1 |> setAct F.MEAS_BLK_EN 0 1 |> (fun s => { s with meas := { s.meas with blk := List.replicate 7 (0, 0) } });
       let i : Fin 8 := 0;
       let at_ : ConvSlot := { slot := 0, ago := 0 };
       let data := s.power.off = false ∧ bitOf (s.rd F.UNIT_STAT_ISLAND_OK 0) 7 = true;
       let mc : Fin 2 := ⟨i.val / 4, by omega⟩;
       let slot := at_.slot;
       let trig := s.cf F.MS_CFG_TRIG i.val;
       let avg := s.cf F.MS_FILT_AVG i.val;
       let raw := s.cf F.MS_FILT_N i.val = 0;
       let quiet := ∀ j : Fin 8, (s.strm j.val).run = false;
       let owns := s.ownerOf mc.val slot = some i.val ∧ trig = 1;
       s.rd F.MS_RES_COUNT i.val < 65536 ∧ s.rd F.MS_RES_VALUE i.val < 65536 ∧ s.on = true ∧ data ∧ quiet ∧ owns ∧ raw ∧ avg = 0 ∧ blkStreams s.cf = [i.val] ∧ s.meas.blk.length = 7)
    ∧ (let s : State := onState;
       let n : Fin 16 := 5;
       let up : Nat := 8;
       let dn : Nat := 7;
       s.on = true ∧ (let data := bitOf (s.rd F.UNIT_STAT_ISLAND_OK 0) 7 = true; let periodic := s.cf F.MEAS_OW_MODE 0 / 4 ^ n.val % 4 = 3; let used := ∃ j : Fin 8, (s.strm j.val).run = true ∧ (s.strm j.val).ch.getD (s.cf F.MS_CFG_CH j.val) = n.val; let isOpen := (up - dn) * 3125 > s.cf F.MEAS_GCFG_OW_THR 0 * 1000000; let was := bitOf (s.rd F.MEAS_STAT_OPEN 0) n.val = true; (¬data ∨ ¬periodic ∨ used ∨ (isOpen ↔ was))))
    ∧ (let s : State := onState |> setAct F.MEAS_OW_MODE 0 4294967295;
       let n : Fin 16 := 1;
       let up : Nat := 58680;
       let dn : Nat := 0;
       s.on = true ∧ (let data := bitOf (s.rd F.UNIT_STAT_ISLAND_OK 0) 7 = true; let periodic := s.cf F.MEAS_OW_MODE 0 / 4 ^ n.val % 4 = 3; let used := ∃ j : Fin 8, (s.strm j.val).run = true ∧ (s.strm j.val).ch.getD (s.cf F.MS_CFG_CH j.val) = n.val; let isOpen := (up - dn) * 3125 > s.cf F.MEAS_GCFG_OW_THR 0 * 1000000; let was := bitOf (s.rd F.MEAS_STAT_OPEN 0) n.val = true; data ∧ periodic ∧ ¬used ∧ isOpen ∧ ¬was ∧ s.rd F.MEAS_STAT_OPEN 0 < 65536))
    ∧ (let s : State := onState |> (·.wr F.MEAS_STAT_OPEN 0 20585) |> setAct F.MEAS_OW_MODE 0 255;
       let n : Fin 16 := 3;
       let up : Nat := 0;
       let dn : Nat := 100;
       s.on = true ∧ (let data := bitOf (s.rd F.UNIT_STAT_ISLAND_OK 0) 7 = true; let periodic := s.cf F.MEAS_OW_MODE 0 / 4 ^ n.val % 4 = 3; let used := ∃ j : Fin 8, (s.strm j.val).run = true ∧ (s.strm j.val).ch.getD (s.cf F.MS_CFG_CH j.val) = n.val; let isOpen := (up - dn) * 3125 > s.cf F.MEAS_GCFG_OW_THR 0 * 1000000; let was := bitOf (s.rd F.MEAS_STAT_OPEN 0) n.val = true; data ∧ periodic ∧ ¬used ∧ ¬isOpen ∧ was ∧ s.rd F.MEAS_STAT_OPEN 0 < 65536)) := by
  and_intros <;> decide +kernel

/-- The hypotheses of each clause of `CalibrationSeals`. -/
theorem test_meets_CalibrationSeals :
    (let s : State := onState;
     let en : Bool := true;
     s.met.written < 256 ∧ s.met.calErr < 256 ∧ (let m := s.met; let heard := en = true ∧ m.mvdd = true; ¬heard))
    ∧ (let s : State := onState |> (fun s => { s with met := { s.met with sealed := true } }) |> (fun s => { s with met := { s.met with mvdd := true } });
       let en : Bool := true;
       s.met.written < 256 ∧ s.met.calErr < 256 ∧ (let m := s.met; let heard := en = true ∧ m.mvdd = true; heard ∧ m.sealed = true))
    ∧ (let s : State := onState |> (fun s => { s with met := { s.met with mvdd := true } }) |> (fun s => { s with met := { s.met with burning := true } });
       let en : Bool := true;
       s.met.written < 256 ∧ s.met.calErr < 256 ∧ (let m := s.met; let heard := en = true ∧ m.mvdd = true; heard ∧ m.sealed = false ∧ m.burning = true))
    ∧ (let s : State := onState |> (fun s => { s with met := { s.met with mvdd := true } });
       let en : Bool := true;
       let p : Byte := 0x4c#8;
       let v : Word := 0x70000000#32;
       s.met.written < 256 ∧ s.met.calErr < 256 ∧ (let m := s.met; let key := v.toNat; let heard := en = true ∧ m.mvdd = true; let low := p.toNat = 0x3C ∨ m.calInRange p.toNat key = false; heard ∧ m.sealed = false ∧ m.burning = false ∧ low ∧ p.toNat ≠ 0x3C))
    ∧ (let s : State := onState |> (fun s => { s with met := { s.met with mvdd := true } });
       let en : Bool := true;
       let p : Byte := 0x08#8;
       let v : Word := 0x00000000#32;
       s.met.written < 256 ∧ s.met.calErr < 256 ∧ (let m := s.met; let key := v.toNat; let heard := en = true ∧ m.mvdd = true; let low := p.toNat = 0x3C ∨ m.calInRange p.toNat key = false; heard ∧ m.sealed = false ∧ m.burning = false ∧ ¬low))
    ∧ (let s : State := onState |> (fun s => { s with met := { s.met with mvdd := true } });
       let en : Bool := true;
       s.met.written < 256 ∧ s.met.calErr < 256 ∧ (let m := s.met; let heard := en = true ∧ m.mvdd = true; let missing := m.written ≠ 0xFF; heard ∧ m.sealed = false ∧ m.burning = false ∧ missing))
    ∧ (let s : State := onState |> (fun s => { s with met := { s.met with mvdd := true } }) |> (fun s => { s with met := { s.met with written := 255 } });
       let en : Bool := true;
       let v : Word := 0x70000000#32;
       s.met.written < 256 ∧ s.met.calErr < 256 ∧ (let m := s.met; let key := v.toNat; let heard := en = true ∧ m.mvdd = true; let missing := m.written ≠ 0xFF; let wrong := key % 65536 ≠ 0x5EA1 ∨ key / 65536 ≠ m.serial % 65536; heard ∧ m.sealed = false ∧ m.burning = false ∧ ¬missing ∧ wrong))
    ∧ (let s : State := onState |> (fun s => { s with met := { s.met with mvdd := true } }) |> (fun s => { s with met := { s.met with written := 255 } });
       let en : Bool := true;
       let supply : Bool := false;
       let v : Word := 0x5EA1;
       s.met.written < 256 ∧ s.met.calErr < 256 ∧ (let m := s.met; let key := v.toNat; let heard := en = true ∧ m.mvdd = true; let missing := m.written ≠ 0xFF; let wrong := key % 65536 ≠ 0x5EA1 ∨ key / 65536 ≠ m.serial % 65536; heard ∧ m.sealed = false ∧ m.burning = false ∧ ¬missing ∧ ¬wrong ∧ supply = false))
    ∧ (let s : State := onState |> (fun s => { s with met := { s.met with mvdd := true } }) |> (fun s => { s with met := { s.met with written := 255 } });
       let en : Bool := true;
       let supply : Bool := true;
       let v : Word := 0x5EA1;
       s.met.written < 256 ∧ s.met.calErr < 256 ∧ (let m := s.met; let key := v.toNat; let heard := en = true ∧ m.mvdd = true; let missing := m.written ≠ 0xFF; let wrong := key % 65536 ≠ 0x5EA1 ∨ key / 65536 ≠ m.serial % 65536; heard ∧ m.sealed = false ∧ m.burning = false ∧ ¬missing ∧ ¬wrong ∧ supply = true))
    ∧ (let s : State := onState |> (fun s => { s with met := { s.met with mvdd := true } });
       let en : Bool := true;
       s.met.written < 256 ∧ s.met.calErr < 256 ∧ (let m := s.met; let heard := en = true ∧ m.mvdd = true; heard))
    ∧ (let s : State := onState |> (fun s => { s with met := { s.met with mvdd := true } });
       let en : Bool := true;
       let n : Fin 6 := 0;
       s.met.written < 256 ∧ s.met.calErr < 256 ∧ (let m := s.met; let heard := en = true ∧ m.mvdd = true; heard ∧ n.val ≤ 12))
    ∧ (let s : State := onState |> (fun s => { s with met := { s.met with mvdd := true } }) |> (fun s => { s with met := { s.met with burning := true } });
       s.met.written < 256 ∧ s.met.calErr < 256 ∧ (let m := s.met; m.burning = true ∧ m.mvdd = true))
    ∧ (let s : State := onState;
       s.met.written < 256 ∧ s.met.calErr < 256 ∧ (let m := s.met; (m.burning = false ∨ m.mvdd = false))) := by
  and_intros <;> decide +kernel

/-- The hypotheses of each clause of `MeteringRuns`. -/
theorem test_meets_MeteringRuns :
    (let s : State := onState;
     let x : MetSample := { i := 0, v := 7, c := 0, n := 3 };
     x.n ≠ 0 ∧ (let m := s.met; m.mvdd = false))
    ∧ (let s : State := onState |> (fun s => { s with met := { s.met with mvdd := true } });
       let x : MetSample := { i := 5, v := 9, c := -12, n := 24 };
       x.n ≠ 0 ∧ (let m := s.met; m.mvdd = true))
    ∧ (let s : State := onState |> (fun s => { s with met := { s.met with mvdd := true } });
       let x : MetSample := { i := -10, v := 0, c := 50, n := 3 };
       x.n ≠ 0 ∧ (let m := s.met; let reached := fun (n : Nat) => m.strokeCadence = some n ∧ (if m.back = true then m.lastCount + n - 1 else m.lastCount) ≤ m.time / 65536 / n * n; let due := m.strokeCadence = none ∨ reached 50 ∨ reached 60; m.mvdd = true ∧ due ∧ m.queue.length < 1024))
    ∧ (let s : State := onState |> (fun s => { s with met := { s.met with mvdd := true } }) |> (fun s => { s with met := { s.met with queue := List.replicate 1024 [] } });
       let x : MetSample := { i := 0, v := 0, c := 0, n := 1 };
       x.n ≠ 0 ∧ (let m := s.met; let reached := fun (n : Nat) => m.strokeCadence = some n ∧ (if m.back = true then m.lastCount + n - 1 else m.lastCount) ≤ m.time / 65536 / n * n; let due := m.strokeCadence = none ∨ reached 50 ∨ reached 60; m.mvdd = true ∧ due ∧ 1024 ≤ m.queue.length))
    ∧ (let s : State := onState |> (fun s => { s with met := { s.met with mvdd := true } }) |> (fun s => { s with met := { s.met with cadence := 1 } }) |> (fun s => { s with met := { s.met with timeOk := true } }) |> (fun s => { s with met := { s.met with lastCount := 1 } });
       let x : MetSample := { i := 0, v := 0, c := 0, n := 1 };
       x.n ≠ 0 ∧ (let m := s.met; let reached := fun (n : Nat) => m.strokeCadence = some n ∧ (if m.back = true then m.lastCount + n - 1 else m.lastCount) ≤ m.time / 65536 / n * n; let due := m.strokeCadence = none ∨ reached 50 ∨ reached 60; m.mvdd = true ∧ ¬due))
    ∧ (let x : MetSample := { i := -8, v := 6, c := 6971347017, n := 47 };
       x.n ≠ 0)
    ∧ (let s : State := onState;
       let x : MetSample := { i := 8, v := 0, c := 0, n := 14 };
       x.n ≠ 0 ∧ (let m := s.met; m.sealed = false))
    ∧ (let s : State := onState |> (fun s => { s with met := { s.met with mvdd := true } });
       let x : MetSample := { i := -5, v := -3808, c := 52895, n := 26 };
       x.n ≠ 0 ∧ (let m := s.met; (s.power.metDie = false ∨ m.mvdd = true)))
    ∧ (let s : State := onState;
       let x : MetSample := { i := 40804, v := 0, c := 0, n := 32 };
       x.n ≠ 0 ∧ (let m := s.met; s.power.metDie = true ∧ m.mvdd = false)) := by
  and_intros <;> decide +kernel

/-- The hypotheses of each clause of `MetrologyChannel`. -/
theorem test_meets_MetrologyChannel :
    (let s : State := onState;
     (s.on = false ∨ s.rd F.MET_STAT_LINK 0 = 0))
    ∧ (let s : State := onState |> (·.wr F.MET_STAT_LINK 0 1);
       s.on = true ∧ s.rd F.MET_STAT_LINK 0 = 1)
    ∧ (let s : State := onState;
       s.on = true)
    ∧ (let s : State := onState;
       let m := s.met;
       let hears := s.power.metDie = true ∧ m.mvdd = true ∧ s.on = true;
       ¬hears)
    ∧ (let s : State := onState |> (fun s => { s with met := { s.met with mvdd := true } });
       let m := s.met;
       let hears := s.power.metDie = true ∧ m.mvdd = true ∧ s.on = true;
       hears)
    ∧ (let s : State := onState;
       let m := s.met;
       m.sent = [])
    ∧ (let s : State := onState |> (fun s => { s with met := { s.met with sent := [2, 1024] } });
       let m := s.met;
       m.sent ≠ [] ∧ (s.power.metDie = false ∨ m.mvdd = false))
    ∧ (let s : State := onState |> (fun s => { s with met := { s.met with mvdd := true } }) |> (fun s => { s with met := { s.met with sent := [65535, 1] } });
       let m := s.met;
       m.sent ≠ [] ∧ s.power.metDie = true ∧ m.mvdd = true)
    ∧ (let s : State := onState |> (fun s => { s with met := { s.met with sent := [0, 2] } }) |> (fun s => { s with met := { s.met with mvdd := true } });
       let m := s.met;
       m.sent ≠ [] ∧ s.power.metDie = true ∧ m.mvdd = true ∧ m.sealed = false)
    ∧ (let s : State := onState |> (fun s => { s with met := { s.met with sealed := true } }) |> (fun s => { s with met := { s.met with mvdd := true } }) |> (fun s => { s with met := { s.met with sent := [0, 3] } });
       let m := s.met;
       m.sent ≠ [] ∧ (let v := m.sent.headD 0; s.power.metDie = true ∧ m.mvdd = true ∧ m.sealed = true ∧ v = m.pulse * 4 + m.cadNext))
    ∧ (let s : State := onState |> (fun s => { s with met := { s.met with sent := [8] } }) |> (fun s => { s with met := { s.met with mvdd := true } }) |> (fun s => { s with met := { s.met with sealed := true } });
       let m := s.met;
       m.sent ≠ [] ∧ (let v := m.sent.headD 0; s.power.metDie = true ∧ m.mvdd = true ∧ m.sealed = true ∧ v ≠ m.pulse * 4 + m.cadNext))
    ∧ (let s : State := onState;
       let m := s.met;
       let hears := s.power.metDie = true ∧ m.mvdd = true ∧ s.on = true;
       let fitted := s.rd F.ID_MET_FITTED 0 = 1;
       (¬hears ∨ (¬fitted ∧ s.power.metProbeDone = true)))
    ∧ (let s : State := onState |> (fun s => { s with met := { s.met with mvdd := true } }) |> (·.wr F.ID_MET_FITTED 0 1);
       let m := s.met;
       let hears := s.power.metDie = true ∧ m.mvdd = true ∧ s.on = true;
       let fitted := s.rd F.ID_MET_FITTED 0 = 1;
       hears ∧ fitted)
    ∧ (let s : State := onState |> (fun s => { s with met := { s.met with mvdd := true } });
       let m := s.met;
       let hears := s.power.metDie = true ∧ m.mvdd = true ∧ s.on = true;
       let fitted := s.rd F.ID_MET_FITTED 0 = 1;
       hears ∧ ¬fitted ∧ s.power.metProbeDone = false)
    ∧ (let s : State := onState;
       let m := s.met;
       let hears := s.power.metDie = true ∧ m.mvdd = true ∧ s.on = true;
       let data := bitOf (s.rd F.UNIT_STAT_ISLAND_OK 0) 7 = true;
       (m.queue = [] ∨ (m.queue.head? ≠ some [] ∧ (¬hears ∨ ¬data))))
    ∧ (let s : State := onState |> (fun s => { s with met := { s.met with queue := [[{ typ := 3, lock := 2, src := 2, seq := 8, time := 8, pay := [], raw := some [0x4c#8] }], []] } }) |> (fun s => { s with met := { s.met with mvdd := true } });
       let m := s.met;
       let hears := s.power.metDie = true ∧ m.mvdd = true ∧ s.on = true;
       let data := bitOf (s.rd F.UNIT_STAT_ISLAND_OK 0) 7 = true;
       ((match m.queue.head? with | some g => decide (((match g.head? with | some _ => decide (hears ∧ data) | _ => false) = true)) | _ => false) = true)) := by
  and_intros <;> decide +kernel

/-- The hypotheses of each clause of `CalendarRuns`. -/
theorem test_meets_CalendarRuns :
    (True)
    ∧ (let s : State := onState;
       s.on = true)
    ∧ (let s : State := onState |> (fun s => { s with rtc := { s.rtc with shadows := (s.rtc.shadows.put 0 (some { sub := 0, time := 1, date := 1 })) } });
       let m : Master := Master.pcie;
       s.on = true ∧ ((match s.rtc.shadows.at m.idx with | some _ => decide (True) | _ => false) = true))
    ∧ (let s : State := onState;
       let m : Master := Master.pcie;
       s.on = true ∧ s.rtc.shadows.at m.idx = none)
    ∧ (let s : State := onState;
       s.rd F.RTC_TIME_SEC 0 < 64)
    ∧ (let s : State := onState;
       let bad := s.rd F.RTC_STAT_XTAL_FAIL 0 = 1;
       bad)
    ∧ (let s : State := onState |> (·.wr F.RTC_STAT_XTAL_FAIL 0 0);
       let bad := s.rd F.RTC_STAT_XTAL_FAIL 0 = 1;
       ¬bad)
    ∧ (let s : State := onState |> (·.wr F.RTC_STAT_HALTED 0 3);
       let halted := s.rd F.RTC_STAT_HALTED 0 = 1;
       halted)
    ∧ (let s : State := onState;
       let halted := s.rd F.RTC_STAT_HALTED 0 = 1;
       ¬halted)
    ∧ (let s : State := onState;
       let m : Master := Master.pcie;
       let halted := s.rd F.RTC_STAT_HALTED 0 = 1;
       s.on = true ∧ s.barred m = false ∧ ¬halted)
    ∧ (let s : State := onState |> (·.wr F.RTC_STAT_HALTED 0 1);
       let m : Master := Master.pcie;
       let halted := s.rd F.RTC_STAT_HALTED 0 = 1;
       s.on = true ∧ s.barred m = false ∧ halted)
    ∧ (let s : State := onState |> (·.wr F.RTC_STAT_HALTED 0 7);
       let halted := s.rd F.RTC_STAT_HALTED 0 = 1;
       s.on = true ∧ halted)
    ∧ (let s : State := onState;
       let halted := s.rd F.RTC_STAT_HALTED 0 = 1;
       s.on = true ∧ ¬halted)
    ∧ (let s : State := onState |> (·.wr F.RTC_STAT_HALTED 0 3) |> (·.wr F.RTC_DATE_DAY 0 31) |> (·.wr F.RTC_DATE_MONTH 0 2);
       let halted := s.rd F.RTC_STAT_HALTED 0 = 1;
       let long := s.rd F.RTC_DATE_DAY 0 > monthDays (s.rd F.RTC_DATE_YEAR 0) (s.rd F.RTC_DATE_MONTH 0);
       s.on = true ∧ halted ∧ long)
    ∧ (let s : State := onState |> (·.wr F.RTC_STAT_HALTED 0 1);
       let halted := s.rd F.RTC_STAT_HALTED 0 = 1;
       let long := s.rd F.RTC_DATE_DAY 0 > monthDays (s.rd F.RTC_DATE_YEAR 0) (s.rd F.RTC_DATE_MONTH 0);
       s.on = true ∧ halted ∧ ¬long)
    ∧ (let s : State := onState;
       s.on = true)
    ∧ (let s : State := onState;
       let amt : BitVec 16 := 0x0000#16;
       s.on = true ∧ (amt = 0 ∨ amt = 0x8000))
    ∧ (let s : State := onState |> (·.wr F.RTC_STAT_SHIFT_LEFT 0 24);
       let amt : BitVec 16 := 0xffff#16;
       s.on = true ∧ amt ≠ 0 ∧ amt ≠ 0x8000 ∧ s.rd F.RTC_STAT_SHIFT_LEFT 0 ≠ 0)
    ∧ (let s : State := onState |> (·.wr F.RTC_STAT_HALTED 0 1);
       let amt : BitVec 16 := 0x0006#16;
       let halted := s.rd F.RTC_STAT_HALTED 0 = 1;
       s.on = true ∧ amt ≠ 0 ∧ amt ≠ 0x8000 ∧ s.rd F.RTC_STAT_SHIFT_LEFT 0 = 0 ∧ halted)
    ∧ (let s : State := onState;
       let amt : BitVec 16 := 0xa5c3#16;
       let halted := s.rd F.RTC_STAT_HALTED 0 = 1;
       s.on = true ∧ amt ≠ 0 ∧ amt ≠ 0x8000 ∧ s.rd F.RTC_STAT_SHIFT_LEFT 0 = 0 ∧ ¬halted)
    ∧ (let s : State := onState;
       let left := ofField 16 (s.rd F.RTC_STAT_SHIFT_LEFT 0);
       left = 0)
    ∧ (let s : State := onState |> (·.wr F.RTC_STAT_SHIFT_LEFT 0 1);
       let left := ofField 16 (s.rd F.RTC_STAT_SHIFT_LEFT 0);
       left ≠ 0 ∧ s.rd F.RTC_SUBSEC_SUBSEC 0 < 32768) := by
  and_intros <;> decide +kernel

/-- The hypotheses of each clause of `TimersRun`. -/
theorem test_meets_TimersRun :
    (let s : State := onState;
     s.on = true)
    ∧ (let s : State := onState;
       let go : BitVec 8 := 0x2c#8;
       s.on = true ∧ go ≠ 0)
    ∧ (let s : State := onState;
       let t : Fin 8 := 2;
       s.on = true ∧ t ≠ 5)
    ∧ (let s : State := onState |> (·.wr F.TM_RUN_RUN 0 3);
       let t : Fin 8 := 0;
       s.on = true ∧ (let runs := fun (i : Nat) => bitOf (s.rd F.TM_RUN_RUN 0) i = true; t ≠ 5 ∧ runs t.val))
    ∧ (let s : State := onState;
       let t : Fin 8 := 2;
       s.on = true ∧ (let runs := fun (i : Nat) => bitOf (s.rd F.TM_RUN_RUN 0) i = true; t ≠ 5 ∧ ¬runs t.val))
    ∧ (let s : State := onState;
       let t : Fin 8 := 2;
       s.on = true ∧ (let runs := fun (i : Nat) => bitOf (s.rd F.TM_RUN_RUN 0) i = true; let level := s.signal (s.cf F.TM_CFG_GATE_SEL t.val); let lvl := s.con F.TM_CFG_GATE_LVL t.val; let counts := runs t.val ∧ (s.cf F.TM_CFG_CLK t.val = 5 ∨ s.con F.TM_CFG_GATE_EN t.val = false ∨ level = lvl); ¬counts))
    ∧ (let s : State := onState |> (·.wr F.TM_RUN_RUN 0 243) |> setAct F.TM_CFG_ONESHOT 0 1;
       let t : Fin 8 := 0;
       s.on = true ∧ (let runs := fun (i : Nat) => bitOf (s.rd F.TM_RUN_RUN 0) i = true; let cnt := s.rd F.TM_CNT_VALUE t.val; let top := 0xFFFFFFFF - s.timers.top.at t.val; let level := s.signal (s.cf F.TM_CFG_GATE_SEL t.val); let lvl := s.con F.TM_CFG_GATE_LVL t.val; let counts := runs t.val ∧ (s.cf F.TM_CFG_CLK t.val = 5 ∨ s.con F.TM_CFG_GATE_EN t.val = false ∨ level = lvl); let once := s.con F.TM_CFG_ONESHOT t.val = true; counts ∧ once ∧ cnt ≤ top))
    ∧ (let s : State := onState |> (·.wr F.TM_RUN_RUN 0 229);
       let t : Fin 8 := 0;
       s.on = true ∧ (let runs := fun (i : Nat) => bitOf (s.rd F.TM_RUN_RUN 0) i = true; let cnt := s.rd F.TM_CNT_VALUE t.val; let top := 0xFFFFFFFF - s.timers.top.at t.val; let level := s.signal (s.cf F.TM_CFG_GATE_SEL t.val); let lvl := s.con F.TM_CFG_GATE_LVL t.val; let counts := runs t.val ∧ (s.cf F.TM_CFG_CLK t.val = 5 ∨ s.con F.TM_CFG_GATE_EN t.val = false ∨ level = lvl); let once := s.con F.TM_CFG_ONESHOT t.val = true; counts ∧ ¬once ∧ cnt ≤ top))
    ∧ (let s : State := onState |> (·.wr F.TM_RUN_RUN 0 255);
       let t : Fin 8 := 2;
       s.on = true ∧ (let runs := fun (i : Nat) => bitOf (s.rd F.TM_RUN_RUN 0) i = true; let cnt := s.rd F.TM_CNT_VALUE t.val; let top := 0xFFFFFFFF - s.timers.top.at t.val; let cmp := 0xFFFFFFFF - s.timers.cmp.at t.val; let level := s.signal (s.cf F.TM_CFG_GATE_SEL t.val); let lvl := s.con F.TM_CFG_GATE_LVL t.val; let counts := runs t.val ∧ (s.cf F.TM_CFG_CLK t.val = 5 ∨ s.con F.TM_CFG_GATE_EN t.val = false ∨ level = lvl); counts ∧ cnt < cmp ∧ cmp ≤ top))
    ∧ (let s : State := onState |> (·.wr F.TM_CNT_VALUE 5 4294967295);
       let t : Fin 8 := 5;
       s.on = true ∧ (let cnt := s.rd F.TM_CNT_VALUE t.val; let top := 0xFFFFFFFF - s.timers.top.at t.val; let cmp := 0xFFFFFFFF - s.timers.cmp.at t.val; (cmp ≤ cnt ∨ top < cmp)))
    ∧ (let s : State := onState;
       let t : Fin 8 := 2;
       s.on = true ∧ s.cf F.TM_CFG_CAP_EDGE t.val = 0)
    ∧ (let s : State := onState |> setAct F.TM_CFG_CAP_EDGE 4 3;
       let t : Fin 8 := 4;
       s.on = true ∧ s.cf F.TM_CFG_CAP_EDGE t.val ≠ 0)
    ∧ (let s : State := onState |> setAct F.TM_CFG_CLR_GATE 1 1;
       let t : Fin 8 := 1;
       let up : Bool := true;
       s.on = true ∧ (let runs := fun (i : Nat) => bitOf (s.rd F.TM_RUN_RUN 0) i = true; let lvl := s.con F.TM_CFG_GATE_LVL t.val; (s.cf F.TM_CFG_CLK t.val ≠ 5 ∨ up = false ∨ ¬runs t.val) ∧ s.con F.TM_CFG_CLR_GATE t.val = true ∧ up = lvl))
    ∧ (let s : State := onState;
       let t : Fin 8 := 5;
       let up : Bool := true;
       s.on = true ∧ (let runs := fun (i : Nat) => bitOf (s.rd F.TM_RUN_RUN 0) i = true; let lvl := s.con F.TM_CFG_GATE_LVL t.val; (s.cf F.TM_CFG_CLK t.val ≠ 5 ∨ up = false ∨ ¬runs t.val) ∧ (s.con F.TM_CFG_CLR_GATE t.val = false ∨ up ≠ lvl)))
    ∧ (let s : State := onState |> setAct F.TM_CFG_CLK 3 5 |> (·.wr F.TM_RUN_RUN 0 10844);
       let t : Fin 8 := 3;
       s.on = true ∧ (let runs := fun (i : Nat) => bitOf (s.rd F.TM_RUN_RUN 0) i = true; let cnt := s.rd F.TM_CNT_VALUE t.val; let top := 0xFFFFFFFF - s.timers.top.at t.val; s.cf F.TM_CFG_CLK t.val = 5 ∧ runs t.val ∧ s.con F.TM_CFG_CLR_GATE t.val = false ∧ cnt < top)) := by
  and_intros <;> decide +kernel

/-- The hypotheses of each clause of `WatchdogActs`. -/
theorem test_meets_WatchdogActs :
    (let s : State := onState |> setAct F.SLOT_CFG_EN 0 0;
     s.on = true ∧ (let runs := s.rd F.WDT_STAT_RUNNING 0 = 1; let en := fun (j : Nat) => s.cf F.SLOT_CFG_EN j = 1; let some' := ∃ j : Fin 16, en j.val; (runs ∨ ¬some')))
    ∧ (let s : State := onState;
       s.on = true ∧ (let runs := s.rd F.WDT_STAT_RUNNING 0 = 1; let en := fun (j : Nat) => s.cf F.SLOT_CFG_EN j = 1; let some' := ∃ j : Fin 16, en j.val; ¬runs ∧ some'))
    ∧ (let s : State := onState |> (·.wr F.WDT_STAT_HWSTART 0 1);
       s.on = true ∧ (let hw := s.rd F.WDT_STAT_HWSTART 0 = 1; hw))
    ∧ (let s : State := onState;
       s.on = true ∧ (let runs := s.rd F.WDT_STAT_RUNNING 0 = 1; let hw := s.rd F.WDT_STAT_HWSTART 0 = 1; ¬hw ∧ ¬runs))
    ∧ (let s : State := onState |> (·.wr F.WDT_STAT_RUNNING 0 5);
       s.on = true ∧ (let runs := s.rd F.WDT_STAT_RUNNING 0 = 1; let hw := s.rd F.WDT_STAT_HWSTART 0 = 1; ¬hw ∧ runs))
    ∧ (let s : State := onState;
       s.on = true)
    ∧ (let s : State := onState;
       s.on = true ∧ (let runs := s.rd F.WDT_STAT_RUNNING 0 = 1; ¬runs))
    ∧ (let s : State := onState |> (·.wr F.WDT_STAT_RUNNING 0 3) |> (fun s => { s with power := { s.power with resetAfterDrain := (some ResetKind.watchdog) } });
       s.on = true ∧ (let runs := s.rd F.WDT_STAT_RUNNING 0 = 1; let drain := s.power.resetAfterDrain = some .watchdog; runs ∧ drain))
    ∧ (let s : State := onState |> (fun s => { s with wdt := { s.wdt with advanced := 1 } }) |> (·.wr F.WDT_STAT_STEP 0 14) |> (·.wr F.WDT_STAT_RUNNING 0 255) |> (fun s => { s with wdt := { s.wdt with slots := (s.wdt.slots.put 0 { s.wdt.slots.at 0 with close := 2 }) } });
       let i : Fin 16 := 0;
       let hi : BitVec 11 := 0x006#11;
       s.on = true ∧ (let runs := s.rd F.WDT_STAT_RUNNING 0 = 1; let en := fun (j : Nat) => s.cf F.SLOT_CFG_EN j = 1; let step := s.rd F.WDT_STAT_STEP 0; let drain := s.power.resetAfterDrain = some .watchdog; let idle := drain ∨ (step ≠ 0 ∧ s.now < s.wdt.advanced + s.wdt.period); let due := fun (j : Fin 16) => en j.val ∧ (if s.rd F.SLOT_STAT_FIRST j.val = 1 then (s.wdt.slots.at j.val).grace else (s.wdt.slots.at j.val).close) ≤ s.now - (s.wdt.slots.at j.val).at_; let calm := ∀ j : Fin 16, ¬due j; runs ∧ ¬drain ∧ hi ≠ 0 ∧ en i.val ∧ idle ∧ calm))
    ∧ (let s : State := onState |> (·.wr F.WDT_STAT_RUNNING 0 1);
       let i : Fin 16 := 3;
       let hi : BitVec 11 := 0x003#11;
       s.on = true ∧ (let runs := s.rd F.WDT_STAT_RUNNING 0 = 1; let en := fun (j : Nat) => s.cf F.SLOT_CFG_EN j = 1; let drain := s.power.resetAfterDrain = some .watchdog; runs ∧ ¬drain ∧ hi ≠ 0 ∧ ¬en i.val))
    ∧ (let s : State := onState |> (·.wr F.WDT_STAT_RUNNING 0 3) |> setAct F.SLOT_CFG_EN 0 0 |> (·.wr F.WDT_STAT_STEP 0 15) |> (fun s => { s with wdt := { s.wdt with period := 2 } });
       s.on = true ∧ (let runs := s.rd F.WDT_STAT_RUNNING 0 = 1; let en := fun (j : Nat) => s.cf F.SLOT_CFG_EN j = 1; let step := s.rd F.WDT_STAT_STEP 0; let drain := s.power.resetAfterDrain = some .watchdog; let idle := drain ∨ (step ≠ 0 ∧ s.now < s.wdt.advanced + s.wdt.period); let due := fun (j : Fin 16) => en j.val ∧ (if s.rd F.SLOT_STAT_FIRST j.val = 1 then (s.wdt.slots.at j.val).grace else (s.wdt.slots.at j.val).close) ≤ s.now - (s.wdt.slots.at j.val).at_; let calm := ∀ j : Fin 16, ¬due j; runs ∧ ¬drain ∧ idle ∧ calm))
    ∧ (let s : State := onState |> (·.wr F.WDT_STAT_RUNNING 0 1);
       let i : Fin 16 := 3;
       let hi : BitVec 11 := 0x000#11;
       s.on = true ∧ (let runs := s.rd F.WDT_STAT_RUNNING 0 = 1; let en := fun (j : Nat) => s.cf F.SLOT_CFG_EN j = 1; let drain := s.power.resetAfterDrain = some .watchdog; runs ∧ ¬drain ∧ hi = 0 ∧ ¬en i.val))
    ∧ (let s : State := onState |> (fun s => { s with wdt := { s.wdt with slots := (s.wdt.slots.put 0 { s.wdt.slots.at 0 with close := 5 }) } }) |> (·.wr F.WDT_STAT_RUNNING 0 3);
       let i : Fin 16 := 0;
       let hi : BitVec 11 := 0x000#11;
       let key : BitVec 16 := 0x0003#16;
       s.on = true ∧ (let runs := s.rd F.WDT_STAT_RUNNING 0 = 1; let en := fun (j : Nat) => s.cf F.SLOT_CFG_EN j = 1; let drain := s.power.resetAfterDrain = some .watchdog; let due := fun (j : Fin 16) => en j.val ∧ (if s.rd F.SLOT_STAT_FIRST j.val = 1 then (s.wdt.slots.at j.val).grace else (s.wdt.slots.at j.val).close) ≤ s.now - (s.wdt.slots.at j.val).at_; let calm := ∀ j : Fin 16, ¬due j; runs ∧ ¬drain ∧ hi = 0 ∧ en i.val ∧ key ≠ 0xA5C3 ∧ calm))
    ∧ (let s : State := onState |> (fun s => { s with wdt := { s.wdt with slots := (s.wdt.slots.put 0 { s.wdt.slots.at 0 with close := 1 }) } }) |> (·.wr F.WDT_STAT_RUNNING 0 1);
       let i : Fin 16 := 0;
       let hi : BitVec 11 := 0x000#11;
       let key : BitVec 16 := 0xa5c3#16;
       s.on = true ∧ (let runs := s.rd F.WDT_STAT_RUNNING 0 = 1; let en := fun (j : Nat) => s.cf F.SLOT_CFG_EN j = 1; let x := s.wdt.slots.at i.val; let first := s.rd F.SLOT_STAT_FIRST i.val = 1; let c := s.now - x.at_; let close := if first then x.grace else x.close; let opn := if first then 0 else x.opn; let drain := s.power.resetAfterDrain = some .watchdog; let absorbed := x.expiredAt = some s.now; let judged := key = 0xA5C3 ∧ hi = 0; runs ∧ ¬drain ∧ judged ∧ en i.val ∧ ¬absorbed ∧ opn ≤ c ∧ c < close))
    ∧ (let s : State := onState |> (·.wr F.WDT_STAT_RUNNING 0 1) |> (fun s => { s with wdt := { s.wdt with slots := (s.wdt.slots.put 0 { s.wdt.slots.at 0 with opn := 2 }) } }) |> (fun s => { s with wdt := { s.wdt with slots := (s.wdt.slots.put 0 { s.wdt.slots.at 0 with close := 3 }) } });
       let i : Fin 16 := 0;
       let hi : BitVec 11 := 0x000#11;
       let key : BitVec 16 := 0xa5c3#16;
       s.on = true ∧ (let runs := s.rd F.WDT_STAT_RUNNING 0 = 1; let en := fun (j : Nat) => s.cf F.SLOT_CFG_EN j = 1; let x := s.wdt.slots.at i.val; let first := s.rd F.SLOT_STAT_FIRST i.val = 1; let c := s.now - x.at_; let close := if first then x.grace else x.close; let opn := if first then 0 else x.opn; let drain := s.power.resetAfterDrain = some .watchdog; let absorbed := x.expiredAt = some s.now; let due := fun (j : Fin 16) => en j.val ∧ (if s.rd F.SLOT_STAT_FIRST j.val = 1 then (s.wdt.slots.at j.val).grace else (s.wdt.slots.at j.val).close) ≤ s.now - (s.wdt.slots.at j.val).at_; let calm := ∀ j : Fin 16, ¬due j; let judged := key = 0xA5C3 ∧ hi = 0; runs ∧ ¬drain ∧ judged ∧ en i.val ∧ ¬absorbed ∧ c < opn ∧ c < close ∧ calm))
    ∧ (let s : State := onState |> (·.wr F.WDT_STAT_RUNNING 0 1);
       let i : Fin 16 := 0;
       let hi : BitVec 11 := 0x000#11;
       let key : BitVec 16 := 0xa5c3#16;
       s.on = true ∧ (let runs := s.rd F.WDT_STAT_RUNNING 0 = 1; let en := fun (j : Nat) => s.cf F.SLOT_CFG_EN j = 1; let x := s.wdt.slots.at i.val; let first := s.rd F.SLOT_STAT_FIRST i.val = 1; let c := s.now - x.at_; let close := if first then x.grace else x.close; let drain := s.power.resetAfterDrain = some .watchdog; let absorbed := x.expiredAt = some s.now; let judged := key = 0xA5C3 ∧ hi = 0; runs ∧ ¬drain ∧ judged ∧ en i.val ∧ ¬absorbed ∧ close ≤ c))
    ∧ (let s : State := onState |> (·.wr F.WDT_STAT_RUNNING 0 3) |> (fun s => { s with wdt := { s.wdt with slots := (s.wdt.slots.put 0 { s.wdt.slots.at 0 with expiredAt := (some 0) }) } });
       let i : Fin 16 := 0;
       let hi : BitVec 11 := 0x000#11;
       let key : BitVec 16 := 0xa5c3#16;
       s.on = true ∧ (let runs := s.rd F.WDT_STAT_RUNNING 0 = 1; let en := fun (j : Nat) => s.cf F.SLOT_CFG_EN j = 1; let x := s.wdt.slots.at i.val; let drain := s.power.resetAfterDrain = some .watchdog; let absorbed := x.expiredAt = some s.now; let judged := key = 0xA5C3 ∧ hi = 0; runs ∧ ¬drain ∧ judged ∧ en i.val ∧ absorbed))
    ∧ (let s : State := onState;
       let i : Fin 16 := 8;
       s.on = true ∧ (let runs := s.rd F.WDT_STAT_RUNNING 0 = 1; let en := fun (j : Nat) => s.cf F.SLOT_CFG_EN j = 1; let x := s.wdt.slots.at i.val; let first := s.rd F.SLOT_STAT_FIRST i.val = 1; let c := s.now - x.at_; let close := if first then x.grace else x.close; (¬runs ∨ ¬en i.val ∨ c < close)))
    ∧ (let s : State := onState |> (·.wr F.WDT_STAT_RUNNING 0 3);
       let i : Fin 16 := 0;
       s.on = true ∧ (let runs := s.rd F.WDT_STAT_RUNNING 0 = 1; let en := fun (j : Nat) => s.cf F.SLOT_CFG_EN j = 1; let x := s.wdt.slots.at i.val; let first := s.rd F.SLOT_STAT_FIRST i.val = 1; let c := s.now - x.at_; let close := if first then x.grace else x.close; runs ∧ en i.val ∧ close ≤ c))
    ∧ (let s : State := onState |> (·.wr F.WDT_STAT_STEP 0 7) |> setAct F.SLOT_CFG_EN 0 2 |> (·.wr F.WDT_STAT_RUNNING 0 5);
       s.on = true ∧ (let runs := s.rd F.WDT_STAT_RUNNING 0 = 1; let en := fun (j : Nat) => s.cf F.SLOT_CFG_EN j = 1; let step := s.rd F.WDT_STAT_STEP 0; step ≠ 0 ∧ runs ∧ (∀ j : Fin 16, en j.val → bitOf s.wdt.served j.val = true)))
    ∧ (let s : State := onState;
       s.on = true ∧ (let runs := s.rd F.WDT_STAT_RUNNING 0 = 1; let en := fun (j : Nat) => s.cf F.SLOT_CFG_EN j = 1; let step := s.rd F.WDT_STAT_STEP 0; (step = 0 ∨ ¬runs ∨ ∃ j : Fin 16, en j.val ∧ bitOf s.wdt.served j.val = false))) := by
  and_intros <;> decide +kernel

/-- The hypotheses of each clause of `OtpCommands`. -/
theorem test_meets_OtpCommands :
    (let s : State := onState |> (fun s => { s with otp := { s.otp with run := (some { cmd := 183, region := 14, word := 1, data := 1 }) } });
     s.on = true ∧ (let run := s.otp.run; run ≠ none))
    ∧ (let s : State := onState;
       s.on = true ∧ (let run := s.otp.run; run = none))
    ∧ (let s : State := onState;
       let key : Byte := 0x00#8;
       s.on = true ∧ (let run := s.otp.run; let keyed := key = 0xB7; run = none ∧ ¬keyed))
    ∧ (let s : State := onState;
       let key : Byte := 0xb7#8;
       s.on = true ∧ (let run := s.otp.run; let word := s.rd F.OTP_ADDR_WORD 0; let target := regionOf word; let keyed := key = 0xB7; let closed := fun (h : Nat) => h = 0 ∨ ∃ i : Fin 8, s.otp.words.at (regionTo h - 8 + i.val) ≠ 0; run = none ∧ keyed ∧ closed target))
    ∧ (let s : State := onState;
       let key : Byte := 0xb7#8;
       let g : Fin 4 := 0;
       s.on = true ∧ (let run := s.otp.run; let keyed := key = 0xB7; let closed := fun (h : Nat) => h = 0 ∨ ∃ i : Fin 8, s.otp.words.at (regionTo h - 8 + i.val) ≠ 0; run = none ∧ keyed ∧ closed g.val))
    ∧ (let s : State := onState |> (·.wr F.OTP_ADDR_WORD 0 1428) |> (fun s => { s with power := { s.power with st := PState.safe } });
       let key : Byte := 0xb7#8;
       s.on = true ∧ (let run := s.otp.run; let word := s.rd F.OTP_ADDR_WORD 0; let target := regionOf word; let keyed := key = 0xB7; let closed := fun (h : Nat) => h = 0 ∨ ∃ i : Fin 8, s.otp.words.at (regionTo h - 8 + i.val) ≠ 0; run = none ∧ keyed ∧ s.power.st ≠ .run ∧ ¬closed target))
    ∧ (let s : State := onState |> (fun s => { s with power := { s.power with st := PState.dormant } });
       let key : Byte := 0xb7#8;
       let g : Fin 4 := 2;
       s.on = true ∧ (let run := s.otp.run; let keyed := key = 0xB7; let closed := fun (h : Nat) => h = 0 ∨ ∃ i : Fin 8, s.otp.words.at (regionTo h - 8 + i.val) ≠ 0; run = none ∧ keyed ∧ s.power.st ≠ .run ∧ ¬closed g.val))
    ∧ (let s : State := onState |> (·.wr F.OTP_ADDR_WORD 0 2047);
       let key : Byte := 0xb7#8;
       let o : WriteObs := { opened := [], supply := false, temp := false };
       s.on = true ∧ (let run := s.otp.run; let word := s.rd F.OTP_ADDR_WORD 0; let target := regionOf word; let keyed := key = 0xB7; let closed := fun (h : Nat) => h = 0 ∨ ∃ i : Fin 8, s.otp.words.at (regionTo h - 8 + i.val) ≠ 0; run = none ∧ keyed ∧ s.power.st = .run ∧ o.supply = false ∧ ¬closed target))
    ∧ (let s : State := onState;
       let key : Byte := 0xb7#8;
       let g : Fin 4 := 2;
       let o : WriteObs := { opened := [], supply := false, temp := true };
       s.on = true ∧ (let run := s.otp.run; let keyed := key = 0xB7; let closed := fun (h : Nat) => h = 0 ∨ ∃ i : Fin 8, s.otp.words.at (regionTo h - 8 + i.val) ≠ 0; run = none ∧ keyed ∧ s.power.st = .run ∧ o.supply = false ∧ ¬closed g.val))
    ∧ (let s : State := onState |> (·.wr F.OTP_ADDR_WORD 0 885);
       let key : Byte := 0xb7#8;
       let o : WriteObs := { opened := [(Arr.hs, 844)], supply := true, temp := false };
       s.on = true ∧ (let run := s.otp.run; let word := s.rd F.OTP_ADDR_WORD 0; let target := regionOf word; let keyed := key = 0xB7; let closed := fun (h : Nat) => h = 0 ∨ ∃ i : Fin 8, s.otp.words.at (regionTo h - 8 + i.val) ≠ 0; run = none ∧ keyed ∧ s.power.st = .run ∧ o.supply = true ∧ o.temp = false ∧ ¬closed target))
    ∧ (let s : State := onState;
       let key : Byte := 0xb7#8;
       let g : Fin 4 := 1;
       let o : WriteObs := { opened := [(Arr.ls, 3)], supply := true, temp := false };
       s.on = true ∧ (let run := s.otp.run; let keyed := key = 0xB7; let closed := fun (h : Nat) => h = 0 ∨ ∃ i : Fin 8, s.otp.words.at (regionTo h - 8 + i.val) ≠ 0; run = none ∧ keyed ∧ s.power.st = .run ∧ o.supply = true ∧ o.temp = false ∧ ¬closed g.val))
    ∧ (let s : State := onState |> (·.wr F.OTP_ADDR_WORD 0 2047);
       let key : Byte := 0xb7#8;
       let o : WriteObs := { opened := [(Arr.ls, 643)], supply := true, temp := true };
       s.on = true ∧ (let run := s.otp.run; let word := s.rd F.OTP_ADDR_WORD 0; let target := regionOf word; let keyed := key = 0xB7; let closed := fun (h : Nat) => h = 0 ∨ ∃ i : Fin 8, s.otp.words.at (regionTo h - 8 + i.val) ≠ 0; run = none ∧ keyed ∧ s.power.st = .run ∧ o.supply = true ∧ o.temp = true ∧ ¬closed target))
    ∧ (let s : State := onState;
       let key : Byte := 0xb7#8;
       let g : Fin 4 := 2;
       let o : WriteObs := { opened := [], supply := true, temp := true };
       s.on = true ∧ (let run := s.otp.run; let keyed := key = 0xB7; let closed := fun (h : Nat) => h = 0 ∨ ∃ i : Fin 8, s.otp.words.at (regionTo h - 8 + i.val) ≠ 0; run = none ∧ keyed ∧ s.power.st = .run ∧ o.supply = true ∧ o.temp = true ∧ ¬closed g.val ∧ g.val ≠ 3))
    ∧ (let s : State := onState;
       let key : Byte := 0xb7#8;
       let g : Fin 4 := 3;
       let o : WriteObs := { opened := [(Arr.hs, 257)], supply := true, temp := true };
       s.on = true ∧ (let run := s.otp.run; let keyed := key = 0xB7; let closed := fun (h : Nat) => h = 0 ∨ ∃ i : Fin 8, s.otp.words.at (regionTo h - 8 + i.val) ≠ 0; run = none ∧ keyed ∧ s.power.st = .run ∧ o.supply = true ∧ o.temp = true ∧ ¬closed g.val ∧ g.val = 3 ∧ ((match s.parseDefaults with | ((x, _), _) => decide (x = 0)) = true)))
    ∧ (let s : State := onState |> (fun s => { s with otp := { s.otp with words := s.otp.words.put 384 1 } });
       let key : Byte := 0xB7;
       let g : Fin 4 := 3;
       let o : WriteObs := { opened := [], supply := true, temp := true };
       s.on = true ∧ (let run := s.otp.run; let keyed := key = 0xB7; let closed := fun (h : Nat) => h = 0 ∨ ∃ i : Fin 8, s.otp.words.at (regionTo h - 8 + i.val) ≠ 0; run = none ∧ keyed ∧ s.power.st = .run ∧ o.supply = true ∧ o.temp = true ∧ ¬closed g.val ∧ g.val = 3 ∧ ((match s.parseDefaults with | ((x, _), _) => decide (x ≠ 0 ∧ x < 256)) = true)))
    ∧ (let s : State := onState |> (fun s => { s with otp := { s.otp with run := (some { cmd := 8, region := 2048, word := 2, data := 9 }) } });
       s.on = true ∧ (let run := s.otp.run; ((match run with | some _ => decide (True) | _ => false) = true)))
    ∧ (let s : State := onState |> (fun s => { s with otp := { s.otp with run := (some { cmd := 1, region := 2, word := 1, data := 3 }) } });
       s.on = true ∧ (let run := s.otp.run; ((match run with | some x => decide (x.cmd = 1) | _ => false) = true)))
    ∧ (let s : State := onState |> (fun s => { s with otp := { s.otp with run := (some { cmd := 2, region := 128, word := 0, data := 65535 }) } });
       s.on = true ∧ (let run := s.otp.run; ((match run with | some x => decide (x.cmd = 2) | _ => false) = true)))
    ∧ (let s : State := onState |> (fun s => { s with otp := { s.otp with run := (some { cmd := 3, region := 0, word := 2, data := 8 }) } });
       s.on = true ∧ (let run := s.otp.run; ((match run with | some x => decide (x.cmd = 3 ∧ x.region < 4) | _ => false) = true)))
    ∧ (let s : State := onState |> (fun s => { s with otp := { s.otp with run := (some { cmd := 4, region := 0, word := 5, data := 1 }) } });
       s.on = true ∧ (let run := s.otp.run; ((match run with | some x => decide (x.cmd = 4 ∧ x.region < 4) | _ => false) = true))) := by
  and_intros <;> decide +kernel

/-- The hypotheses of each clause of `LogbookSaves`. -/
theorem test_meets_LogbookSaves :
    (let s : State := onState;
     s.on = true ∧ (let tokens := s.rd F.LOG_STAT_TOKENS 0; tokens < 65536 ∧ s.rd F.LOG_STAT_THROTTLED 0 ≤ 1))
    ∧ (let s : State := onState;
       let reserve : Bool := true;
       s.on = true ∧ (let l := s.logb; let tokens := s.rd F.LOG_STAT_TOKENS 0; let free := l.pend.filter (fun c => !c.2 || l.flushing.contains c.1); let next := (free.filter (fun c => c.1 < 96) ++ free ++ (if tokens = 0 then [] else l.pend)).head?.map (·.1); (l.writing ≠ none ∨ (reserve = true ∧ next = none) ∨ (reserve = false ∧ l.pend = []))))
    ∧ (let s : State := onState |> (fun s => { s with logb := { s.logb with pend := [(1, false)] } });
       s.on = true ∧ (let l := s.logb; let tokens := s.rd F.LOG_STAT_TOKENS 0; let free := l.pend.filter (fun c => !c.2 || l.flushing.contains c.1); let next := (free.filter (fun c => c.1 < 96) ++ free ++ (if tokens = 0 then [] else l.pend)).head?.map (·.1); ((match next with | some c => decide (l.writing = none ∧ c < 113) | _ => false) = true)))
    ∧ (let s : State := onState |> (fun s => { s with logb := { s.logb with pend := [(1, false)] } });
       s.on = true ∧ (let l := s.logb; ((match l.pend.head? with | some c => decide (l.pend.length = 1 ∧ l.writing = none ∧ l.waited.contains c.1 = false ∧ s.tokenWaits.contains c.1 = false ∧ c.1 < 111) | _ => false) = true)))
    ∧ (let s : State := onState |> (·.wr F.LOG_STAT_TOKENS 0 0) |> (fun s => { s with logb := { s.logb with pend := [(2, true)] } });
       s.on = true ∧ (let l := s.logb; ((match l.pend.head? with | some c => decide (l.pend.length = 1 ∧ (l.waited.contains c.1 = true ∨ s.tokenWaits.contains c.1 = true)) | _ => false) = true)))
    ∧ (let s : State := onState;
       s.on = true ∧ (let l := s.logb; l.writing = none))
    ∧ (let s : State := onState |> (fun s => { s with logb := { s.logb with writing := (some (2, 1, { seq := 2, ok := false, pay := [] })) } });
       let lost : Bool := true;
       s.on = true ∧ (let l := s.logb; ((match l.writing with | some x => decide (x.2.1 ≤ 1 ∧ x.1 < 111 ∧ (lost = false ∨ l.bad < 6 ∨ s.rd F.LOG_STAT_WORN 0 = 1)) | _ => false) = true)))
    ∧ (let s : State := onState |> (fun s => { s with logb := { s.logb with bad := 1152 } }) |> (fun s => { s with logb := { s.logb with writing := (some (1, 1, { seq := 0, ok := true, pay := [] })) } });
       s.on = true ∧ (let l := s.logb; ((match l.writing with | some x => decide (x.2.1 ≤ 1 ∧ 6 ≤ l.bad ∧ s.rd F.LOG_STAT_WORN 0 ≠ 1) | _ => false) = true)))
    ∧ (let s : State := onState;
       let key : Byte := 0x16#8;
       s.on = true ∧ key ≠ 0x4C)
    ∧ (let s : State := onState |> (fun s => { s with logb := { s.logb with flushAt := (some 3) } });
       let key : Byte := 0x4c#8;
       s.on = true ∧ (let l := s.logb; let early := (match l.flushAt with | some t => decide (s.now < t + 600000000) | none => false) = true; key = 0x4C ∧ early))
    ∧ (let s : State := onState;
       let key : Byte := 0x4c#8;
       s.on = true ∧ (let l := s.logb; let early := (match l.flushAt with | some t => decide (s.now < t + 600000000) | none => false) = true; key = 0x4C ∧ ¬early ∧ s.rd F.LOG_STAT_RESERVE_OK 0 ≠ 1))
    ∧ (let s : State := onState |> (·.wr F.LOG_STAT_RESERVE_OK 0 1);
       let key : Byte := 0x4c#8;
       s.on = true ∧ (let l := s.logb; let early := (match l.flushAt with | some t => decide (s.now < t + 600000000) | none => false) = true; key = 0x4C ∧ ¬early ∧ s.rd F.LOG_STAT_RESERVE_OK 0 = 1)) := by
  and_intros <;> decide +kernel

end Sys2Proof.Tests
end

/-! PROOFS of chapter 01: the host DORMANT and SHIP commands (R42). What the sequencer leaves of the power part, where a cutoff drain leads,
what a refused access and a completion leave, and the command by register and by ring. -/

namespace Sys2Proof.Machine

open Sys2Proof

-- The power part through the sequencer

/-- A fold of updates that each leave a part of the state alone leaves it alone. -/
theorem foldl_kept {α β : Type} (p : State → β) {f : State → α → State} (hf : ∀ s a, p (f s a) = p s) (l : List α) (s : State) :
    p (l.foldl f s) = p s := by
  induction l generalizing s with
  | nil => rfl
  | cons a l ih => exact (ih _).trans (hf s a)

@[simp] theorem State.setStep_power (s : State) (r st : Nat) : (s.setStep r st).power = s.power := by
  unfold State.setStep
  simp only [State.wr_power, apply_ite State.power]
  rw [State.setSeq_power]
  simp only [State.wr_power, State.note_power, ite_self]

@[simp] theorem State.seqRec_power (s : State) (rail ev cause op group cnt : Nat) :
    (s.seqRec rail ev cause op group cnt).power = s.power := by simp [State.seqRec]

@[simp] theorem State.railRec_power (s : State) (r ev cause cnt : Nat) : (s.railRec r ev cause cnt).power = s.power :=
  State.seqRec_power ..

@[simp] theorem State.pfw_power (s : State) (f : Fld) (req : Bool) : (s.pfw f req).power = s.power := by
  unfold State.pfw
  simp only [State.wr_power, State.raise_power, State.bump_power, apply_ite State.power, ite_self]

@[simp] theorem State.hoShow_power (s : State) : s.hoShow.power = s.power := by
  unfold State.hoShow
  split <;> simp

@[simp] theorem State.stopPriming_power (s : State) (scope : Nat) : (s.stopPriming scope).power = s.power := by
  unfold State.stopPriming
  split
  · rfl
  · simp [foldl_kept State.power (f := fun s r => State.setStep s r 0) (fun s r => s.setStep_power r 0)]

@[simp] theorem State.toDrainWait_power (s : State) (r : Nat) : (s.toDrainWait r).power = s.power := s.setStep_power r 7

@[simp] theorem State.joinDrain_power (s : State) (r : Nat) : (s.joinDrain r).power = s.power := by
  unfold State.joinDrain
  (repeat' split) <;> simp

/-- The start of a drain leaves the power part alone: what follows the drain waits for its end (R231). -/
@[simp] theorem State.startDrain_power (s : State) (op scope cause : Nat) : (s.startDrain op scope cause).power = s.power := by
  unfold State.startDrain
  rw [foldl_kept State.power State.joinDrain_power]
  split <;> split <;> simp

@[simp] theorem State.shedStart_power (s : State) : s.shedStart.power = s.power := by simp [State.shedStart]

@[simp] theorem State.blockRound_power (s : State) : s.blockRound.power = s.power := by
  unfold State.blockRound
  refine foldl_kept State.power (fun s r => ?_) _ s
  split <;> simp

@[simp] theorem State.blockPass_power (s : State) : s.blockPass.power = s.power := by
  have iter (n : Nat) : ∀ s : State, (iterState State.blockRound n s).power = s.power := by
    induction n with
    | zero => exact fun _ => rfl
    | succ n ih => exact fun s => (ih _).trans s.blockRound_power
  unfold State.blockPass
  split
  · exact iter 24 s
  · rfl

-- The power state that the device is in and the one it is bound for, which the entry logic leaves alone

/-- The power state and the one that a cutoff drain leads to. -/
def State.course (s : State) : PState × Option PState := (s.power.st, s.power.afterCutoff)

theorem State.course_of_power {s u : State} (h : u.power = s.power) : u.course = s.course := by simp [State.course, h]

@[simp] theorem State.wr_course (s : State) (f : Fld) (i v : Nat) : (s.wr f i v).course = s.course :=
  State.course_of_power (by simp)

@[simp] theorem State.bump_course (s : State) (f : Fld) (i : Nat) : (s.bump f i).course = s.course := State.wr_course ..

@[simp] theorem State.note_course (s : State) (f : Fld) (i : Nat) : (s.note f i).course = s.course :=
  State.course_of_power (by simp)

@[simp] theorem State.setSeq_course (s : State) (g : Seq → Seq) : (s.setSeq g).course = s.course :=
  State.course_of_power (State.setSeq_power ..)

@[simp] theorem State.setWell_course (s : State) (g : Well → Well) : (s.setWell g).course = s.course :=
  State.course_of_power (State.setWell_power ..)

@[simp] theorem State.seqRec_course (s : State) (rail ev cause op group cnt : Nat) :
    (s.seqRec rail ev cause op group cnt).course = s.course := State.course_of_power (State.seqRec_power ..)

@[simp] theorem State.railRec_course (s : State) (r ev cause cnt : Nat) : (s.railRec r ev cause cnt).course = s.course :=
  State.course_of_power (State.railRec_power ..)

@[simp] theorem State.raise_course (s : State) (b e : Nat) (d : EvData) : (s.raise b e d).course = s.course :=
  State.course_of_power (State.raise_power ..)

@[simp] theorem State.pfw_course (s : State) (f : Fld) (req : Bool) : (s.pfw f req).course = s.course :=
  State.course_of_power (State.pfw_power ..)

@[simp] theorem State.hoShow_course (s : State) : s.hoShow.course = s.course := State.course_of_power s.hoShow_power

/-- A change of the power part keeps the course, where the state and what follows a cutoff drain stay. -/
theorem State.setPower_course (s : State) {g : Power → Power} (hs : ∀ p, (g p).st = p.st)
    (ha : ∀ p, (g p).afterCutoff = p.afterCutoff) : (s.setPower g).course = s.course := by
  simp [State.course, hs, ha]

@[simp] theorem State.setFeed_course (s : State) (i : Nat) (g : Feed → Feed) : (s.setFeed i g).course = s.course := rfl

@[simp] theorem State.unblock_course (s : State) (i : Nat) : (s.unblock i).course = s.course := rfl

@[simp] theorem State.raiseAll_course (s : State) (b : Nat) (l : List (Nat × EvData)) : (s.raiseAll b l).course = s.course :=
  foldl_kept State.course (fun s _ => foldl_kept State.course (fun _ _ => State.raise_course ..) _ s) _ s

@[simp] theorem State.feedShow_course (s : State) (i : Nat) : (s.feedShow i).course = s.course := by
  have ignore (s : State) (n : Nat) : (s.setPower (fun p => { p with ignoreFeed := clrBit p.ignoreFeed n })).course = s.course := rfl
  unfold State.feedShow
  simp only [State.wr_course, apply_ite State.course, State.unblock_course, ignore, ite_self]

@[simp] theorem State.entryShow_course (s : State) (own : List (Nat × EvData)) : (s.entryShow own).course = s.course := by
  unfold State.entryShow
  simp only [State.raiseAll_course, State.wr_course, State.feedShow_course, apply_ite State.course, State.bump_course, ite_self]

@[simp] theorem State.startWaiting_course (s : State) (i : Nat) : (s.startWaiting i).course = s.course := by
  unfold State.startWaiting
  split <;> simp

@[simp] theorem State.feedGo_course (s : State) (i st cause : Nat) (own : List (Nat × EvData)) :
    (s.feedGo i st cause own).course = s.course := by
  unfold State.feedGo
  simp only [State.entryShow_course, State.startWaiting_course, State.wr_course, State.unblock_course, State.setFeed_course,
    State.note_course, apply_ite State.course, ite_self]

@[simp] theorem State.feedTry_course (s : State) (i : Nat) : (s.feedTry i).course = s.course := by
  unfold State.feedTry
  simp only [apply_ite State.course, State.feedGo_course, ite_self]

@[simp] theorem State.entryApply_course (s : State) : s.entryApply.course = s.course := by
  unfold State.entryApply
  simp only [State.entryShow_course, apply_ite State.course, State.feedGo_course, State.feedTry_course, ite_self]

/-- Where a cutoff drain leads to: the state is entered and nothing is left to follow (R41, R324). -/
@[simp] theorem State.powerDown_course (s : State) (p : PState) : (s.powerDown p).course = (p, none) := State.entryApply_course _

-- Bound for a state

/-- The device is in the power state `p`, or a cutoff drain leads to it. -/
def State.boundFor (s : State) (p : PState) : Prop := s.course = (p, none) ∨ s.power.afterCutoff = some p

theorem State.boundFor_of_power {s u : State} {p : PState} (h : u.power = s.power) (hs : s.boundFor p) : u.boundFor p := by
  simpa [State.boundFor, State.course, h] using hs

theorem State.boundFor.entered_or_after {s : State} {p : PState} (h : s.boundFor p) :
    s.power.st = p ∨ s.power.afterCutoff = some p :=
  h.imp_left (congrArg Prod.fst)

/-- A cutoff drain that is over enters its state. -/
def State.enterAfterCutoff (s : State) : State :=
  match s.power.afterCutoff with
  | some p => s.powerDown p
  | none => s

/-- An operation's end leaves the course alone until, last of all, a cutoff drain enters its state (R231). -/
theorem State.endOp_enterAfterCutoff (s : State) : ∃ t : State, t.course = s.course ∧ s.endOp = t.enterAfterCutoff := by
  refine ⟨_, ?_, rfl⟩
  simp only [State.setSeq_course, State.setPower_course, State.setWell_course, State.hoShow_course, State.wr_course,
    State.pfw_course, apply_ite State.course, implies_true, ite_self]
  split <;> simp

/-- The end of an operation enters the state that the device is bound for, or leaves it where it is. -/
theorem State.endOp_boundFor {s : State} {p : PState} (h : s.boundFor p) : s.endOp.boundFor p := by
  obtain ⟨t, ht, e⟩ := s.endOp_enterAfterCutoff
  rw [e, State.enterAfterCutoff, show t.power.afterCutoff = s.power.afterCutoff from congrArg Prod.snd ht]
  rcases h with h | h
  · rw [show s.power.afterCutoff = none from congrArg Prod.snd h]
    exact .inl (ht.trans h)
  · rw [h]
    exact .inl (State.powerDown_course t p)

theorem State.settleOnce_boundFor {s : State} {p : PState} (h : s.boundFor p) : s.settleOnce.boundFor p := by
  unfold State.settleOnce
  split
  · exact State.endOp_boundFor h
  · exact h

theorem State.settle_boundFor {s : State} {p : PState} (h : s.boundFor p) : s.settle.boundFor p := by
  have once : s.blockPass.settleOnce.boundFor p := State.settleOnce_boundFor (State.boundFor_of_power s.blockPass_power h)
  unfold State.settle
  simp only []
  split
  · exact State.settleOnce_boundFor (State.boundFor_of_power (State.shedStart_power _) once)
  · exact once

theorem State.drain_boundFor {s : State} {p : PState} (h : s.boundFor p) (op scope cause : Nat) :
    (s.drain op scope cause).boundFor p :=
  State.settle_boundFor (State.boundFor_of_power (State.startDrain_power ..) h)

/-- The cutoff drain toward a state leads to it, or has entered it at once where no rail is left to drain (R41, R324). -/
theorem State.cutoff_boundFor (s : State) (p : PState) : (s.cutoff p).boundFor p :=
  State.drain_boundFor (.inr rfl) _ _ _

-- A command on the control plane

/-- What a command's effect leaves on the running control plane is what `Does` speaks of. -/
theorem does_of_runOn {i : Instr} {s : State} {P : State → Prop} {c : CopyCause} {f : State → State} (hs : s.on = true)
    (he : exec i s = runOn c f s) (hP : P (f (begin s))) : Does i s P :=
  ⟨c, f (begin s), by rw [he, runOn, if_pos hs, run], hP⟩

@[simp] theorem begin_on (s : State) : (begin s).on = s.on := rfl

@[simp] theorem begin_barred (s : State) (m : Master) : (begin s).barred m = s.barred m := rfl

theorem Only.of_begin {ks : List Nat} {s u : State} (h : Only ks (begin s) u) : Only ks s u := ⟨h.1, h.2⟩

theorem Refuses.of_begin {m : Master} {e a : Nat} {s u : State} (h : Refuses m e a (begin s) u) : Refuses m e a s u := by
  obtain ⟨hout, hcode, haddr, hcount, honly⟩ := h
  exact ⟨hout, hcode, haddr, hcount, honly.of_begin⟩

-- A refused access

theorem reported_key (f : Fld) (i : Nat) (hr : f.reg < 0x8000) (hl : f.lo < 32) : reported (f.key i) = reportRegs.contains f.reg := by
  rw [reported, key_reg f i hr hl]

/-- The fields of LAST_ERR are apart. -/
theorem lastErr_keys_ne (i : Nat) : F.LAST_ERR_CODE.key i ≠ F.LAST_ERR_COUNT.key i ∧ F.LAST_ERR_CODE.key i ≠ F.LAST_ERR_ADDR.key i
    ∧ F.LAST_ERR_COUNT.key i ≠ F.LAST_ERR_CODE.key i ∧ F.LAST_ERR_COUNT.key i ≠ F.LAST_ERR_ADDR.key i := by
  simp [Fld.key, F.LAST_ERR_CODE, F.LAST_ERR_COUNT, F.LAST_ERR_ADDR]

theorem State.refused_code (s : State) (m : Master) (e a : Nat) : (s.refused m e a).rd F.LAST_ERR_CODE m.idx = e % 256 := by
  obtain ⟨hc, ha, -, -⟩ := lastErr_keys_ne m.idx
  rw [State.refused, State.rd_wr_ne _ _ ha, State.rd_bump_ne _ hc, State.rd_wr]
  rfl

theorem State.refused_addr (s : State) (m : Master) (e a : Nat) : (s.refused m e a).rd F.LAST_ERR_ADDR m.idx = a % 2 ^ 14 :=
  State.rd_wr ..

theorem State.refused_count (s : State) (m : Master) (e a : Nat) :
    (s.refused m e a).rd F.LAST_ERR_COUNT m.idx = min 255 (s.rd F.LAST_ERR_COUNT m.idx + 1) := by
  obtain ⟨-, -, hc, ha⟩ := lastErr_keys_ne m.idx
  rw [State.refused, State.rd_wr_ne _ _ ha, State.bump_rd, State.rd_wr_ne _ _ hc]
  change min 255 _ % 256 = _
  omega

theorem State.refused_only (s : State) (m : Master) (e a : Nat) :
    Only [F.LAST_ERR_CODE.key m.idx, F.LAST_ERR_COUNT.key m.idx, F.LAST_ERR_ADDR.key m.idx] s (s.refused m e a) :=
  (((Only.refl _ s).wr _ (by simp)).bump (by simp)).wr _ (by simp)

/-- A write that its checks or its block refuse, and that leaves the state alone, is a refused access (R56, R75). -/
theorem writeReg_refuses {s : State} {m : Master} {addr val be e : Nat} {o : WriteObs} (hs : s.on = true)
    (ht : s.tryWrite m addr val be o = (e, s)) (h0 : e ≠ errOk) (he : e < 256) (ha : baseOf addr ≠ 0x200) :
    Refuses m e (baseOf addr) s (writeReg m addr val be o s) := by
  have hw : writeReg m addr val be o s =
      { s.refused m e (baseOf addr) with out := { (s.refused m e (baseOf addr)).out with err := some e } } := by
    simp [writeReg, hs, ht, h0, ha]
  rw [hw]
  exact ⟨rfl, (s.refused_code m e _).trans (Nat.mod_eq_of_lt he), s.refused_addr m e _, s.refused_count m e _,
    (s.refused_only m e _).out _⟩

/-- An accepted write answers OK and leaves what its effect leaves. -/
theorem writeReg_accepted {s t : State} {m : Master} {addr val be : Nat} {o : WriteObs} (hs : s.on = true)
    (ht : s.tryWrite m addr val be o = (errOk, t)) (ha : baseOf addr ≠ 0x200) :
    (writeReg m addr val be o s).out.err = some errOk ∧ (writeReg m addr val be o s).power = t.power := by
  simp [writeReg, hs, ht, ha]

-- WELL_CTL

/-- WELL_CTL, at 0x1C30 (R335). -/
def wellCtl : RegSpec :=
  ⟨0x1C30, .one, [F.WELL_CTL_KEY, F.WELL_CTL_CHG_RESTART, F.WELL_CTL_CLR_CHG, F.WELL_CTL_LEND_STOP, F.WELL_CTL_LEND_START,
    F.WELL_CTL_SHIP, F.WELL_CTL_DORMANT]⟩

theorem findReg_wellCtl : findReg 0x1C30 = some (wellCtl, 0) := by decide

theorem wellCtl_no_setup : wellCtl.flds.any Fld.isCtl = false ∧ wellCtl.isBanked = false := by decide

/-- Checks 3 to 9 of R56 find nothing in a write of WELL_CTL by a master that OWNER_POLICY permits, reserved bits aside. -/
theorem State.writeErr_wellCtl {s : State} {m : Master} {w : Nat} (hb : s.barred m = false) (hw : reservedSet wellCtl w = false) :
    s.writeErr m wellCtl 0 w = errOk := by
  have hl : s.fieldLocked wellCtl 0 w = false := rfl
  have hr : fieldsInRange (fun f k => s.sf f k) wellCtl 0 w = true := rfl
  have hk : s.blockErr m wellCtl 0 = errOk := rfl
  have hn : (wellCtl.base == 0x2600) = false := rfl
  simp [State.writeErr, hb, hw, hl, hr, hk, hn, wellCtl_no_setup.2]

/-- WELL_CTL has command bits alone, so that a write of it is what its commands answer. -/
theorem State.writeWord_wellCtl {s : State} {m : Master} {w : Nat} (o : WriteObs) (hb : s.barred m = false)
    (hw : reservedSet wellCtl w = false) : s.writeWord m wellCtl 0 w o = s.askWell w := by
  have hc : ((s.putWord wellCtl 0 w).written wellCtl.base).command m wellCtl.base 0 w o = s.askWell w := rfl
  unfold State.writeWord
  simp only [State.writeErr_wellCtl hb hw, errOk, wellCtl_no_setup, Bool.false_eq_true, if_false, hc]
  obtain ⟨e, t⟩ := s.askWell w
  cases e <;> rfl

/-- Fields that all hold 0 spell the word 0. -/
theorem wordOf_eq_zero {fs : List Fld} {v : Fld → Nat} (h : ∀ f ∈ fs, v f = 0) : wordOf fs v = 0 := by
  unfold wordOf
  induction fs with
  | nil => rfl
  | cons f fs ih => simpa [h f (by simp)] using ih fun g hg => h g (by simp [hg])

/-- A write of the whole WELL_CTL by a permitted master is what its commands answer: its WO fields count as 0 in the merge (R52, R54). -/
theorem State.tryWrite_wellCtl {s : State} {m : Master} {w : Nat} (o : WriteObs) (hb : s.barred m = false)
    (hw : reservedSet wellCtl w = false) (hm : merged 0 0 w 0xF = w) : s.tryWrite m 0x1C30 w 0xF o = s.askWell w := by
  have hn : s.wordNow wellCtl 0 = 0 := by
    have h0 : ∀ f ∈ wellCtl.flds, f.typ = .wo := by decide
    exact wordOf_eq_zero fun f hf => if_pos (h0 f hf)
  have ha : aliasOf 0x1C30 = 0 := rfl
  have hv : inMetWindow (baseOf 0x1C30) = false := rfl
  have hf : findReg (baseOf 0x1C30) = some (wellCtl, 0) := findReg_wellCtl
  have hi : instOf (selOf s m.idx) m.idx wellCtl 0 = 0 := rfl
  simp only [State.tryWrite, hv, hf, ha, hi, hn, hm, State.writeWord_wellCtl o hb hw, Bool.false_and, Bool.false_eq_true,
    ne_eq, not_true, false_and, if_false]

-- The DORMANT and SHIP commands

/-- What keeps the device busy in HOLD: a drain, a hand-over or a hand-back (R42). -/
def State.powerBusy (s : State) : Prop :=
  s.draining = true ∨ s.power.afterCutoff ≠ none ∨ s.rd F.WELL_STAT_HO 0 = 1 ∨ s.rd F.WELL_STAT_HO 0 = 2
    ∨ s.rd F.WELL_STAT_HO 0 = 5 ∨ s.well.leadPend = true

/-- The power state that the command leads to. -/
def powerGoal (ship : Bool) : PState := if ship then .ship else .dormant

theorem State.askPowerState_of_not_hold {s : State} (ship : Bool) (h : s.power.st ≠ .hold) :
    s.askPowerState ship = (errState, s) := by
  simp [State.askPowerState, h]

theorem State.powerBusy_iff (s : State) : (s.draining || s.power.afterCutoff.isSome || s.rd F.WELL_STAT_HO 0 == 1
    || s.rd F.WELL_STAT_HO 0 == 2 || s.rd F.WELL_STAT_HO 0 == 5 || s.well.leadPend) = true ↔ s.powerBusy := by
  simp [State.powerBusy, or_assoc, Option.isSome_iff_ne_none]

theorem State.askPowerState_of_busy {s : State} (ship : Bool) (h : s.power.st = .hold) (hb : s.powerBusy) :
    s.askPowerState ship = (errBusy, s) := by
  simp only [State.askPowerState, h, ne_eq, not_true, if_false, if_pos (s.powerBusy_iff.2 hb)]

theorem State.askPowerState_of_free {s : State} (ship : Bool) (h : s.power.st = .hold) (hb : ¬s.powerBusy) :
    s.askPowerState ship = (errOk, s.cutoff (powerGoal ship)) := by
  simp only [State.askPowerState, h, ne_eq, not_true, if_false, if_neg (mt s.powerBusy_iff.1 hb), powerGoal]

/-- The well refuses a DORMANT or SHIP command: with STATE outside HOLD, with BUSY in HOLD while it is busy (R42). -/
def State.refusesPower (s : State) (e : Nat) : Prop :=
  (s.power.st ≠ .hold ∧ e = errState) ∨ (s.power.st = .hold ∧ s.powerBusy ∧ e = errBusy)

/-- The well accepts a DORMANT or SHIP command (R42). -/
def State.acceptsPower (s : State) : Prop := s.power.st = .hold ∧ ¬s.powerBusy

theorem State.refusesPower.askPowerState {s : State} {e : Nat} (h : s.refusesPower e) (ship : Bool) :
    s.askPowerState ship = (e, s) := by
  obtain ⟨hst, rfl⟩ | ⟨hst, hb, rfl⟩ := h
  · exact State.askPowerState_of_not_hold ship hst
  · exact State.askPowerState_of_busy ship hst hb

theorem State.refusesPower.code {s : State} {e : Nat} (h : s.refusesPower e) : e ≠ errOk ∧ e < 256 := by
  obtain ⟨-, rfl⟩ | ⟨-, -, rfl⟩ := h <;> decide

theorem State.acceptsPower.askPowerState {s : State} (h : s.acceptsPower) (ship : Bool) :
    s.askPowerState ship = (errOk, s.cutoff (powerGoal ship)) :=
  State.askPowerState_of_free ship h.1 h.2

-- By register

/-- The word of a DORMANT or SHIP command with the key of R335. -/
def powerWord (ship : Bool) : Nat := if ship then 0x5C000004 else 0x5C000002

/-- The instruction of a DORMANT or SHIP command by register. -/
def powerInstr (m : Master) (ship : Bool) : Instr := if ship then .wellShip m 0x5C000004 else .wellDormant m 0x5C000002

theorem exec_powerInstr (m : Master) (ship : Bool) (s : State) :
    exec (powerInstr m ship) s = runOn .hardware (fun s => writeReg m 0x1C30 (powerWord ship) 0xF {} s) s := by
  cases ship <;> rfl

theorem State.askWell_powerWord (s : State) (ship : Bool) : s.askWell (powerWord ship) = s.askPowerState ship := by
  cases ship <;> rfl

/-- With its key a DORMANT or SHIP command reaches the well, which answers it. -/
theorem State.tryWrite_powerWord {s : State} {m : Master} (ship : Bool) (o : WriteObs) (hb : s.barred m = false) :
    s.tryWrite m 0x1C30 (powerWord ship) 0xF o = s.askPowerState ship := by
  have hw : reservedSet wellCtl (powerWord ship) = false := by cases ship <;> decide
  have hm : merged 0 0 (powerWord ship) 0xF = powerWord ship := by cases ship <;> decide
  rw [State.tryWrite_wellCtl o hb hw hm, State.askWell_powerWord]

/-- A DORMANT or SHIP command by register that the well refuses is a refused access (R42, R56). -/
theorem powerInstr_refused {s : State} {m : Master} {e : Nat} (ship : Bool) (hs : s.on = true) (hb : s.barred m = false)
    (hr : s.refusesPower e) : Does (powerInstr m ship) s fun u => Refuses m e 0x1C30 s u := by
  have hr' : (begin s).refusesPower e := hr
  have hw : (begin s).tryWrite m 0x1C30 (powerWord ship) 0xF {} = (e, begin s) :=
    (State.tryWrite_powerWord ship {} ((begin_barred s m).trans hb)).trans (hr'.askPowerState ship)
  have hbase : baseOf 0x1C30 = 0x1C30 := by decide
  obtain ⟨h0, he⟩ := hr.code
  have href := writeReg_refuses ((begin_on s).trans hs) hw h0 he (by decide)
  rw [hbase] at href
  exact does_of_runOn hs (exec_powerInstr m ship s) href.of_begin

/-- An accepted DORMANT or SHIP command by register answers OK and takes the device to its state (R324). -/
theorem powerInstr_accepted {s : State} {m : Master} (ship : Bool) (hs : s.on = true) (hb : s.barred m = false)
    (ha : s.acceptsPower) : Does (powerInstr m ship) s fun u => u.out.err = some 0
      ∧ (u.power.st = powerGoal ship ∨ u.power.afterCutoff = some (powerGoal ship)) := by
  have ha' : (begin s).acceptsPower := ha
  have hw : (begin s).tryWrite m 0x1C30 (powerWord ship) 0xF {} = (errOk, (begin s).cutoff (powerGoal ship)) :=
    (State.tryWrite_powerWord ship {} ((begin_barred s m).trans hb)).trans (ha'.askPowerState ship)
  obtain ⟨herr, hpow⟩ := writeReg_accepted ((begin_on s).trans hs) hw (by decide)
  exact does_of_runOn hs (exec_powerInstr m ship s)
    ⟨herr, (State.boundFor_of_power hpow (State.cutoff_boundFor _ _)).entered_or_after⟩

-- What a command completion leaves

/-- A record for an ACTIVE ring with room joins the end of its queue (R399). -/
theorem RingBlk.push_queue (r : RingBlk) {c : Nat} (x : Rec) (h1 : r.rd F.RG_STAT_STATE c = 1) (h2 : (r.queue.at c).length < 64) :
    (r.push c x).queue.at c = r.queue.at c ++ [x] := by
  have hn : ¬(64 ≤ (r.queue.at c).length) := by omega
  simp only [RingBlk.push, h1, hn, Nat.reduceEqDiff, or_self, if_false, Nat.one_ne_zero]
  split <;> exact Tab.at_put_same ..

/-- A record formed for a ring that takes it stands last in that ring's queue (R396, R398). -/
theorem State.emit_last {s : State} {src typ c : Nat} (pay : List Byte) (hs : s.on = true)
    (hi : bitOf (s.rd F.UNIT_STAT_ISLAND_OK 0) 7 = true) (hr : s.route typ = some c) (h1 : s.ringSt c = 1)
    (h2 : (s.ring.queue.at c).length < 64) :
    (((s.emit src typ pay).ring.queue.at c).getLast?.map fun x => (x.typ, x.src, x.pay)) = some (typ, src, pay) := by
  simp only [State.emit, State.emitAt, hs, hi, hr, Bool.not_true, Bool.or_self, Bool.false_eq_true, if_false]
  rw [RingBlk.push_queue]
  · simp
  · exact h1
  · exact h2

@[simp] theorem State.wr_queue (s : State) (f : Fld) (i v : Nat) : (s.wr f i v).ring.queue = s.ring.queue := by
  unfold State.wr
  split <;> rfl

/-- A refusal's count is a report. -/
theorem Only.bumpDrops (s : State) (c : Nat) : Only [] s (s.bump F.RG_EVT_DROPS c) :=
  ⟨State.bump_rest .., fun _ _ hr _ => State.wr_rd_reported _ _ hr (by decide) (by decide) (by decide)⟩

/-- A completion is a report. -/
theorem State.complete_only (s : State) (d : Desc) (err status : Nat) : Only [] s (s.complete d err status) := by
  unfold State.complete
  refine .ite ?_ (.emit ?_ ..)
  all_goals exact .ite (.bumpDrops ..) (.refl ..)

/-- The payload of a completion record formed at the stroke time `now` (R395). -/
def completionPay (d : Desc) (err status now : Nat) : List Byte :=
  bytes 1 d.info.ring.val ++ bytes 1 d.op ++ bytes 1 err ++ bytes 1 status ++ bytes 2 d.info.seq ++ bytes 2 d.info.pos ++ bytes 8 now

/-- A completion that QUIET does not keep back forms its record once a refusal has been counted (R395, R408). -/
theorem State.complete_eq_emit {s : State} {d : Desc} {err : Nat} (status : Nat) (hq : (d.info.quiet && err == errOk) = false) :
    ∃ t : State, Only [] s t ∧ t.ring.queue = s.ring.queue
      ∧ s.complete d err status = t.emit 0x0E 0x0C (completionPay d err status s.tb.now) := by
  by_cases h : status = 2 ∨ status = 3
  · exact ⟨s.bump F.RG_EVT_DROPS d.info.ring.val, .bumpDrops .., State.wr_queue ..,
      by simp [State.complete, h, hq, completionPay]⟩
  · exact ⟨s, .refl .., rfl, by simp [State.complete, h, hq, completionPay]⟩

/-- The completion that QUIET does not keep back is in its queue (R395). -/
theorem State.complete_completed {s : State} {d : Desc} {err : Nat} (status : Nat) (hs : s.on = true)
    (hq : (d.info.quiet && err == errOk) = false) : Completed d err status s (s.complete d err status) := by
  intro q hr h1 h2 hi
  obtain ⟨t, ⟨hrest, hrd⟩, hqueue, he⟩ := State.complete_eq_emit (s := s) status hq
  have hon : t.on = s.on := State.kept_of_rest State.on (fun _ => rfl) hrest
  have hact : t.act = s.act := State.kept_of_rest State.act (fun _ => rfl) hrest
  have hroute : t.route 0x0C = s.route 0x0C := by rw [State.route, State.route, State.cf, State.cf, State.cf, hact]; rfl
  have hst : t.ringSt (8 + q.val) = s.ringSt (8 + q.val) :=
    hrd _ _ (reported_key _ _ (by decide) (by decide)) (by simp)
  have hisl : t.rd F.UNIT_STAT_ISLAND_OK 0 = s.rd F.UNIT_STAT_ISLAND_OK 0 := hrd _ _ (by decide) (by simp)
  rw [he]
  refine State.emit_last _ (hon.trans hs) (by rw [hisl, hi]) (hroute.trans hr) (hst.trans h1) ?_
  rw [hqueue]
  omega

-- A power-state command on a ring

theorem State.draining_of_only {s u : State} (h : Only [] s u) : u.draining = s.draining := by
  obtain ⟨hrest, hrd⟩ := h
  have hseq : u.seq = s.seq := State.kept_of_rest State.seq (fun _ => rfl) hrest
  have hstep : u.stepOf = s.stepOf := funext fun r => hrd _ _ (reported_key _ r (by decide) (by decide)) (by simp)
  rw [State.draining, State.draining, State.stepMask, State.stepMask, hseq, hstep]

/-- A report makes the device neither busy nor free. -/
theorem State.powerBusy_of_only {s u : State} (h : Only [] s u) : u.powerBusy ↔ s.powerBusy := by
  have hdrain := State.draining_of_only h
  obtain ⟨hrest, hrd⟩ := h
  have hpow : u.power = s.power := State.kept_of_rest State.power (fun _ => rfl) hrest
  have hwell : u.well = s.well := State.kept_of_rest State.well (fun _ => rfl) hrest
  have hho : u.rd F.WELL_STAT_HO 0 = s.rd F.WELL_STAT_HO 0 := hrd _ _ (by decide) (by simp)
  simp only [State.powerBusy, hdrain, hpow, hwell, hho]

/-- What the well answers stands over a report. -/
theorem State.refusesPower.of_only {s u : State} {e : Nat} (h : s.refusesPower e) (ho : Only [] s u) : u.refusesPower e := by
  have hpow : u.power = s.power := State.kept_of_rest State.power (fun _ => rfl) ho.1
  simpa only [State.refusesPower, hpow, State.powerBusy_of_only ho] using h

theorem State.acceptsPower.of_only {s u : State} (h : s.acceptsPower) (ho : Only [] s u) : u.acceptsPower := by
  have hpow : u.power = s.power := State.kept_of_rest State.power (fun _ => rfl) ho.1
  simpa only [State.acceptsPower, hpow, State.powerBusy_of_only ho] using h

/-- The well answers a POWER_STATE of a ring, in SAFE too, where the state is not HOLD (R42, R392). -/
theorem State.perform_powerState (s : State) {d : Desc} (hop : d.op = 4) :
    s.perform d = s.askPowerState (ofLeBytes d.pay == 2) := by
  unfold State.perform
  split
  · next hsafe =>
    have hst : s.power.st = .safe := by simpa [State.safe] using (Bool.and_eq_true_iff.1 hsafe).1
    exact (State.askPowerState_of_not_hold _ (by simp [hst])).symm
  · simp only [hop]

/-- Where no command of the ring is held back, none is let go. -/
theorem State.release_of_not_held {s : State} {c : Nat} (h : s.ring.held.at c = []) : s.release c = s := by
  simp [State.release, h, State.releaseFor]

@[simp] theorem State.complete_power (s : State) (d : Desc) (err status : Nat) : (s.complete d err status).power = s.power :=
  State.kept_of_rest State.power (fun _ => rfl) (s.complete_only d err status).1

@[simp] theorem State.handOn_power (s : State) (d : Desc) : (s.handOn d).power = s.power := by
  have ring (s : State) (g : RingBlk → RingBlk) : (s.setRing g).power = s.power := rfl
  unfold State.handOn
  simp only [apply_ite State.power, State.complete_power, State.wr_power, ring, ite_self]

theorem State.releaseFor_power (c n : Nat) (s : State) : (s.releaseFor c n).power = s.power := by
  induction n generalizing s with
  | zero => rfl
  | succ n ih =>
    unfold State.releaseFor
    split
    · rfl
    · split
      · rfl
      · exact (ih _).trans (State.handOn_power ..)

@[simp] theorem State.release_power (s : State) (c : Nat) : (s.release c).power = s.power := State.releaseFor_power ..

/-- A command that its block refuses whatever has been reported completes with its error and status 3 (R395, R408). -/
theorem State.execute_refused {s : State} {d : Desc} {e : Nat} (hs : s.on = true) (h0 : e ≠ errOk)
    (hp : ∀ u, Only [] s u → u.perform d = (e, u)) (hheld : s.ring.held.at d.info.ring.val = []) :
    Completed d e 3 s (s.execute d true) ∧ (s.execute d true).power = s.power := by
  have honly := s.complete_only d e 3
  have hheld' : (s.complete d e 3).ring.held.at d.info.ring.val = [] :=
    (State.kept_of_rest (fun x => x.ring.held.at d.info.ring.val) (fun _ => rfl) honly.1).trans hheld
  have he : s.execute d true = s.complete d e 3 := by
    simp only [State.execute, Bool.not_true, Bool.false_eq_true, if_false, hp s (.refl _ _), ne_eq, h0, not_false_eq_true,
      if_true, hp _ honly, State.release_of_not_held hheld']
  rw [he]
  exact ⟨State.complete_completed 3 hs (by simp [h0]), s.complete_power d e 3⟩

/-- A command that its block accepts leaves the power part that its effect leaves. -/
theorem State.execute_power_of_accepted {s : State} {d : Desc} {f : State → State}
    (hp : ∀ u, Only [] s u → u.perform d = (errOk, f u)) : ∃ u, Only [] s u ∧ (s.execute d true).power = (f u).power := by
  refine ⟨_, s.complete_only d errOk (if d.op = 3 then 5 else 1), ?_⟩
  simp only [State.execute, Bool.not_true, Bool.false_eq_true, if_false, hp s (.refl _ _), ne_eq, not_true_eq_false,
    hp _ (s.complete_only ..), State.release_power]

theorem takeFirst_pos {α : Type} {p : α → Bool} {l : List α} {x : α × List α} (h : takeFirst p l = some x) : p x.1 = true := by
  induction l generalizing x with
  | nil => simp [takeFirst] at h
  | cons a l ih =>
    unfold takeFirst at h
    split at h
    · next ha => rw [← Option.some.inj h]; exact ha
    · obtain ⟨y, hy, rfl⟩ := Option.map_eq_some_iff.1 h
      exact (ih hy :)

/-- The oldest command of a ring leaves the queue of its block and executes, where it is the opcode named (R393). -/
theorem commandDispatched_eq {s : State} {op : Nat} {c : Fin 8} {x : Desc × List Desc}
    (h : takeFirst (fun d : Desc => d.info.ring == c) s.ring.dispatched = some x) (hop : x.1.op = op) (ok : Bool) :
    commandDispatched op c ok s = (s.setRing fun r => { r with dispatched := x.2 }).execute x.1 ok := by
  simp only [commandDispatched, h, hop, if_true]

/-- A DORMANT or SHIP command stands first among those of ring `c` at their block, with none of the ring held back behind a fence. -/
structure PowerCommandWaits (s : State) (c : Fin 8) (ship : Bool) (x : Desc × List Desc) : Prop where
  first : takeFirst (fun d : Desc => d.info.ring == c) s.ring.dispatched = some x
  op : x.1.op = 4
  pay : ofLeBytes x.1.pay = if ship then 2 else 1
  free : s.ring.held.at c.val = []

/-- The state on which a command executes that has left its block's queue. -/
def State.dequeued (s : State) (l : List Desc) : State := (begin s).setRing fun r => { r with dispatched := l }

theorem PowerCommandWaits.dispatched {s : State} {c : Fin 8} {ship : Bool} {x : Desc × List Desc} (h : PowerCommandWaits s c ship x) :
    commandDispatched 4 c true (begin s) = (s.dequeued x.2).execute x.1 true :=
  commandDispatched_eq (s := begin s) h.first h.op true

theorem PowerCommandWaits.perform {s : State} {c : Fin 8} {ship : Bool} {x : Desc × List Desc} (h : PowerCommandWaits s c ship x)
    (u : State) : u.perform x.1 = u.askPowerState ship := by
  rw [State.perform_powerState u h.op, h.pay]
  cases ship <;> rfl

theorem PowerCommandWaits.not_held {s : State} {c : Fin 8} {ship : Bool} {x : Desc × List Desc} (h : PowerCommandWaits s c ship x) :
    (s.dequeued x.2).ring.held.at x.1.info.ring.val = [] := by
  have hring : x.1.info.ring = c := by simpa using takeFirst_pos h.first
  rw [hring]
  exact h.free

/-- A DORMANT or SHIP command of a ring that the well refuses completes with its error and status 3 (R42, R395). -/
theorem cmdPowerState_refused {s : State} {c : Fin 8} {ship : Bool} {x : Desc × List Desc} {e : Nat} (hs : s.on = true)
    (hx : PowerCommandWaits s c ship x) (hr : s.refusesPower e) :
    Does (.cmdPowerState c true) s fun u => Completed x.1 e 3 s u ∧ u.power = s.power := by
  have hr' : (s.dequeued x.2).refusesPower e := hr
  have hp (u : State) (ho : Only [] (s.dequeued x.2) u) : u.perform x.1 = (e, u) :=
    (hx.perform u).trans ((hr'.of_only ho).askPowerState ship)
  refine does_of_runOn (c := .hardware) hs rfl ?_
  rw [hx.dispatched]
  exact State.execute_refused (s := s.dequeued x.2) hs hr.code.1 hp hx.not_held

/-- An accepted DORMANT or SHIP command of a ring takes the device to its state (R324). -/
theorem cmdPowerState_accepted {s : State} {c : Fin 8} {ship : Bool} {x : Desc × List Desc} (hs : s.on = true)
    (hx : PowerCommandWaits s c ship x) (ha : s.acceptsPower) : Does (.cmdPowerState c true) s fun u =>
      u.power.st = powerGoal ship ∨ u.power.afterCutoff = some (powerGoal ship) := by
  have ha' : (s.dequeued x.2).acceptsPower := ha
  obtain ⟨u, -, hpow⟩ := State.execute_power_of_accepted (s := s.dequeued x.2) (d := x.1) (f := fun u => u.cutoff (powerGoal ship))
    fun u ho => (hx.perform u).trans ((ha'.of_only ho).askPowerState ship)
  refine does_of_runOn (c := .hardware) hs rfl ?_
  rw [hx.dispatched]
  exact (State.boundFor_of_power hpow (State.cutoff_boundFor u _)).entered_or_after

/-- Settles O12: by register and by ring the command is what the well answers, which refuses it outside HOLD and while busy, and otherwise
starts the cutoff drain, bound for its state. -/
theorem hostPowerCommands : Obligations.HostPowerCommands := by
  intro s m ship hs hb
  have outside (h : s.power.st ≠ .hold) : s.refusesPower 5 := .inl ⟨h, rfl⟩
  have busy (h : s.power.st = .hold) (hb : s.powerBusy) : s.refusesPower 4 := .inr ⟨h, hb, rfl⟩
  refine ⟨fun h => powerInstr_refused ship hs hb (outside h), fun h hbusy => powerInstr_refused ship hs hb (busy h hbusy),
    fun h hfree => powerInstr_accepted ship hs hb ⟨h, hfree⟩, fun c x hfirst hop hpay hheld => ?_⟩
  have hx : PowerCommandWaits s c ship x := ⟨hfirst, hop, hpay, hheld⟩
  exact ⟨fun h => cmdPowerState_refused hs hx (outside h), fun h hbusy => cmdPowerState_refused hs hx (busy h hbusy),
    fun h hfree => cmdPowerState_accepted hs hx ⟨h, hfree⟩⟩

end Sys2Proof.Machine

/-! PROOFS of chapter 02: accesses that the register file refuses. An address that holds no register (R50); an alias of a status register
(R55), where the restart of the owner's idle count (R69) is more than a refusal leaves: what `settle` leaves of the commit engine in SAFE
shows it once the command is over. -/

namespace Sys2Proof.Machine

open Sys2Proof

-- What the register file answers

/-- The metrology window keeps no access back: the address lies outside it, or the metrology die is fitted (R2, R433). -/
def State.windowOpen (s : State) (a : Nat) : Prop := inMetWindow a = false ∨ s.rd F.ID_MET_FITTED 0 = 1

theorem State.windowOpen.no_notFitted {s : State} {a : Nat} (h : s.windowOpen a) :
    (inMetWindow a && !s.flag F.ID_MET_FITTED 0) = false := by
  rcases h with h | h <;> simp [State.flag, h]

/-- A write to an address that holds no register is answered with RANGE and leaves the state alone (R50). -/
theorem State.tryWrite_no_register {s : State} {addr : Nat} (hw : s.windowOpen (baseOf addr)) (hf : findReg (baseOf addr) = none)
    (m : Master) (val be : Nat) (o : WriteObs) : s.tryWrite m addr val be o = (errRange, s) := by
  simp [State.tryWrite, hw.no_notFitted, hf]

/-- A read of an address that holds no register is answered with 0 and leaves the state alone (R50). -/
theorem State.tryRead_no_register {s : State} {addr : Nat} (hw : s.windowOpen (baseOf addr)) (hf : findReg (baseOf addr) = none)
    (m : Master) (found : List Found) : s.tryRead m addr found = (errOk, 0, s) := by
  simp [State.tryRead, hw.no_notFitted, hf]

/-- A write through an alias to a status register is answered with ALIAS and leaves the state alone (R55). -/
theorem State.tryWrite_alias_status {s : State} {addr k : Nat} {r : RegSpec} (hw : s.windowOpen (baseOf addr))
    (hf : findReg (baseOf addr) = some (r, k)) (ha : aliasOf addr ≠ 0) (hr : r.isControl = false)
    (m : Master) (val be : Nat) (o : WriteObs) : s.tryWrite m addr val be o = (errAlias, s) := by
  simp [State.tryWrite, hw.no_notFitted, hf, ha, hr]

/-- A read that leaves the state alone gives its word and nothing else. -/
theorem readReg_only {s : State} {m : Master} {addr e w : Nat} {found : List Found} (hs : s.on = true)
    (ht : s.tryRead m addr found = (e, w, s)) : (readReg m addr found s).out.err = some e
      ∧ (readReg m addr found s).out.rdata = some (BitVec.ofNat 32 w) ∧ Only [] s (readReg m addr found s) := by
  have hr : readReg m addr found s = { s with out := { s.out with err := some e, rdata := some (BitVec.ofNat 32 w) } } := by
    simp [readReg, hs, ht]
  rw [hr]
  exact ⟨rfl, rfl, (Only.refl _ s).out _⟩

-- An address that holds no register

/-- COMMIT_CTL stands at 0x200 (R83). -/
theorem ne_commitCtl_of_no_register {a : Nat} (h : findReg a = none) : a ≠ 0x200 := by
  rintro rfl
  exact absurd h (by decide)

/-- Settles O10: check 1 of R56 refuses the write, which leaves the state to the refusal alone, and the read answers 0. -/
theorem emptyAddresses : Obligations.EmptyAddresses := by
  intro s m addr w be o hs hf hw
  have hs' : (begin s).on = true := hs
  have hw' : (begin s).windowOpen (baseOf addr.toNat) := hw
  have hwrite := writeReg_refuses hs' (State.tryWrite_no_register hw' hf m w.toNat be.toNat o) (by decide) (by decide)
    (ne_commitCtl_of_no_register hf)
  obtain ⟨-, hdata, honly⟩ := readReg_only hs' (State.tryRead_no_register hw' hf m [])
  exact ⟨does_of_runOn hs rfl hwrite.of_begin, does_of_runOn hs rfl ⟨hdata, honly.of_begin⟩⟩

-- What follows a command's effect in SAFE

/-- What the follow-ups of `settle` look at, beside reactions, is the same: the power part, the well, the closed twin gates. -/
structure SameFollowed (s u : State) : Prop where
  power : u.power = s.power
  well : u.well = s.well
  closed : u.closed = s.closed

/-- The commit engine is the same too. -/
structure SameEngine (s u : State) : Prop extends SameFollowed s u where
  commit : u.commit = s.commit

theorem SameEngine.trans {s t u : State} (h : SameEngine s t) (g : SameEngine t u) : SameEngine s u :=
  ⟨⟨g.power.trans h.power, g.well.trans h.well, g.closed.trans h.closed⟩, g.commit.trans h.commit⟩

theorem Only.sameEngine {ks : List Nat} {s u : State} (h : Only ks s u) (hk : F.TW_STAT_CLOSED.key 0 ∉ ks) : SameEngine s u where
  power := State.kept_of_rest State.power (fun _ => rfl) h.1
  well := State.kept_of_rest State.well (fun _ => rfl) h.1
  closed := h.2 _ _ (by decide) hk
  commit := State.kept_of_rest State.commit (fun _ => rfl) h.1

/-- A block's PEND is a report (R288). -/
theorem Only.pend (s : State) (b v : Nat) : Only [] s (s.wr F.FB_STAT_PEND b v) :=
  ⟨State.wr_rest .., fun _ _ hr _ => State.wr_rd_reported _ _ hr (by decide) (by decide) (by decide)⟩

/-- A standing fault that comes up is a report. -/
theorem standUp_only (s0 s : State) : Only [] s (standUp s0 s) :=
  (Only.refl [] s).fold (fun x b => .ite (.ite (.pend x b 1) ((Only.pend x b 1).interrupt b)) (.refl [] x)) _

/-- Status-change copies are reports. -/
theorem copies_only (c : CopyCause) (s t : State) : Only [] t (copies c s t) :=
  (Only.refl [] t).fold (fun x _ => (Only.refl [] x).emit ..) _

/-- What the logbook shows of waiting saves is in its own part and registers (R502). -/
theorem State.logShow_only (s : State) :
    ∃ l, Only [F.LOG_STAT_THROTTLED.key 0, F.LOG_EVT_DEFERRED.key 0] { s with logb := l } s.logShow := by
  let fresh := s.tokenWaits.filter fun c => !s.logb.starved.contains c
  let l : Logb := { s.logb with starved := s.logb.starved ++ fresh }
  have hcount : Only [F.LOG_STAT_THROTTLED.key 0, F.LOG_EVT_DEFERRED.key 0] { s with logb := l }
      (({ s with logb := l } : State).bumpBy F.LOG_EVT_DEFERRED 0 fresh.length) := (Only.refl _ _).wr _ (by simp)
  refine ⟨l, ?_⟩
  unfold State.logShow
  simp only []
  split
  · exact hcount.wr _ (by simp)
  · exact .ite hcount ((hcount.wr _ (by simp)).raise ..)

theorem State.logShow_sameEngine (s : State) : SameEngine s s.logShow := by
  obtain ⟨l, h⟩ := s.logShow_only
  have hl : SameEngine s { s with logb := l } := ⟨⟨rfl, rfl, rfl⟩, rfl⟩
  exact hl.trans (h.sameEngine (by decide))

/-- In SAFE no reaction follows (R283, R292). -/
theorem State.reactOnce_of_safe {s : State} (h : s.safe = true) : s.reactOnce = { s with due := [] } := by
  have hs : ({ s with due := [] } : State).safe = true := h
  unfold State.reactOnce
  simp only []
  split
  · simp [State.enterSafe, hs]
  · simp [State.classDrain, hs]

theorem State.react_sameEngine_of_safe {s : State} (h : s.safe = true) : SameEngine s s.react := by
  unfold State.react State.reactFor
  split
  · exact ⟨⟨rfl, rfl, rfl⟩, rfl⟩
  · rw [State.reactOnce_of_safe h]
    exact ⟨⟨rfl, rfl, rfl⟩, rfl⟩

/-- In SAFE, with the entry logic without supply and with what the follow-ups look at as before, nothing that follows a command's own
effect reaches the commit engine. -/
theorem settle_commit_of_safe {s0 s : State} (c : CopyCause) (hs : s0.on = true) (hsafe : s0.safe = true)
    (hfeeds : s0.entryPowered = false) (hf : SameFollowed s0 s) : (settle c s0 s).commit = s.commit := by
  have hshow : SameEngine s (standUp s0 s).logShow :=
    ((standUp_only s0 s).sameEngine (by simp)).trans (State.logShow_sameEngine _)
  have hshowSafe : (standUp s0 s).logShow.safe = true := by
    rw [State.safe, hshow.power, hf.power]
    exact hsafe
  have hreact : SameEngine s (standUp s0 s).logShow.react := hshow.trans (State.react_sameEngine_of_safe hshowSafe)
  have hsettle : settle c s0 s = copies c s0 (standUp s0 s).logShow.react := by
    have hon : s.on = true := by rw [State.on, hf.power]; exact hs
    simp [settle, entryFollow, floorFollow, leaveFollow, hfeeds, hon, hs, hreact.well, hf.well, hreact.closed, hf.closed]
  rw [hsettle, ((copies_only c s0 _).sameEngine (by simp)).commit, hreact.commit]

-- An alias of COMMIT_CTL

/-- A refused write of COMMIT_CTL by the owner of the staging bank restarts its idle count (R69) and leaves what the follow-ups look at. -/
theorem writeReg_commitCtl_refused {s : State} {m : Master} {addr val be e : Nat} {o : WriteObs} (hs : s.on = true)
    (ht : s.tryWrite m addr val be o = (e, s)) (h0 : e ≠ errOk) (ha : baseOf addr = 0x200) (ho : s.owner = masterCode m) :
    (writeReg m addr val be o s).commit.ownAt = s.now ∧ SameFollowed s (writeReg m addr val be o s) := by
  have honly := s.refused_only m e 0x200
  have howner : (s.refused m e 0x200).owner = masterCode m := (honly.2 _ _ (by decide) (by cases m <;> decide)).trans ho
  have hw : writeReg m addr val be o s = { (s.refused m e 0x200).ownerAccess m with
      out := { ((s.refused m e 0x200).ownerAccess m).out with err := some e } } := by
    simp [writeReg, hs, ht, h0, ha]
  rw [hw, State.ownerAccess, if_pos howner]
  have hsame := honly.sameEngine (by cases m <;> decide)
  exact ⟨State.kept_of_rest State.now (fun _ => rfl) honly.1, hsame.power, hsame.well, hsame.closed⟩

/-- In SAFE a write through an alias of COMMIT_CTL, by the owner of the staging bank after its last access, leaves more than a refusal. -/
theorem not_refuses_alias_commitCtl {s : State} {m : Master} {addr : BitVec 16} (hs : s.on = true) (hsafe : s.safe = true)
    (hfeeds : s.entryPowered = false) (ho : s.owner = masterCode m) (hat : s.commit.ownAt ≠ s.now) (ha : aliasOf addr.toNat ≠ 0)
    (hb : baseOf addr.toNat = 0x200) (w : Word) (be : BitVec 4) (o : WriteObs) (e a : Nat) :
    ¬ Does (.registerWrite m addr w be o) s fun u => Refuses m e a s u := by
  rintro ⟨c, u, hexec, -, -, -, -, hu⟩
  let r := writeReg m addr.toNat w.toNat be.toNat o (begin s)
  have hrun : exec (.registerWrite m addr w be o) s = .next (settle .hardware (begin s) r) := if_pos hs
  have ht : (begin s).tryWrite m addr.toNat w.toNat be.toNat o = (errAlias, begin s) := by
    have hw : (begin s).windowOpen (baseOf addr.toNat) := .inl (by rw [hb]; decide)
    obtain ⟨spec, k, hf, hr⟩ : ∃ spec k, findReg (baseOf addr.toNat) = some (spec, k) ∧ spec.isControl = false := by
      rw [hb]; exact ⟨_, _, rfl, by decide⟩
    exact State.tryWrite_alias_status hw hf ha hr ..
  have hs' : (begin s).on = true := hs
  obtain ⟨hnow, hf⟩ := writeReg_commitCtl_refused hs' ht (by decide) hb ho
  have hbegin : Only [F.LAST_ERR_CODE.key m.idx, F.LAST_ERR_COUNT.key m.idx, F.LAST_ERR_ADDR.key m.idx] (begin s) u := ⟨hu.1, hu.2⟩
  have hsame := hbegin.sameEngine (by cases m <;> decide)
  have hcommit : r.commit = s.commit := calc
    r.commit = (settle .hardware (begin s) r).commit := (settle_commit_of_safe _ hs' hsafe hfeeds hf).symm
    _ = (settle c (begin s) u).commit := by rw [Host.Outcome.next.inj (hrun.symm.trans hexec)]
    _ = u.commit := settle_commit_of_safe _ hs' hsafe hfeeds hsame.toSameFollowed
    _ = s.commit := hsame.commit
  exact hat ((congrArg Commit.ownAt hcommit).symm.trans hnow)

/-- SAFE, with the staging bank owned by the PCI Express host, 7 µs after its last access. -/
def ownedInSafe : State :=
  { State.reset.wr F.COMMIT_STAT_OWNER 0 1 with power := { State.reset.power with inReset := false, st := .safe }, now := 7 }

/-- Refutes O11: COMMIT_CTL, whose command bits make it a status register (R53), takes the owner's write through its set alias as an
access that restarts the owner's idle count (R69), so that the refusal is not all that the write leaves. -/
theorem not_aliasAccessRefused : ¬ Obligations.AliasAccessRefused := by
  intro h
  have hon : ownedInSafe.on = true := by decide
  have hwrite := (h ownedInSafe .pcie 0x4200 0 0xF {} hon (by decide) (.inl (by decide)) _ _ rfl (by decide)).1
  exact not_refuses_alias_commitCtl hon (by decide) (by decide) (by decide) (by decide) (by decide) (by decide) _ _ _ _ _ hwrite

end Sys2Proof.Machine
